-- ==== Sys2Proof/Word.lean ====
section
/-! DEFINITION. The words the NZ-418's manual treats as bits: bytes of frames and images, station
identities, and the counters it states to wrap (R91, R153, R154, R177). Every other quantity is an
integer (00_scope.md, "Arithmetic") and is a Nat or an Int. -/

namespace Sys2Proof

/-- A byte of a frame, of a reply or of a table image (R193). -/
abbrev Byte := BitVec 8

/-- A 48-bit station identity: bits 47 to 8 the station number, bits 7 to 0 the check byte (R117). -/
abbrev Identity := BitVec 48

/-- A table image: its bytes, trailer included (R177). -/
abbrev Image := List Byte

end Sys2Proof
end

