-- ==== Sys2Proof/Syntax.lean ====
section
/-! DEFINITION. The commands of the block: one constructor of Instr for each row of
spec/opcode_table.json, with the operands that come from outside the part. -/

namespace Sys2Proof

/-- The two link ports (Introduction, "How the outside reaches the part"). -/
inductive Port where
  | cab
  | drive
deriving DecidableEq, Repr

/-- The four motions and their drives, codes 0..3 (10.3). -/
inductive Motion where
  | hoist
  | drag
  | swing
  | propel
deriving DecidableEq, Repr

/-- The seven table kinds, codes 1..7 (R177). -/
inductive Kind where
  | plant
  | geometry
  | zone
  | swing
  | walk
  | alarm
  | station
deriving DecidableEq, Repr

/-- The source of a station's condition (R113). -/
inductive ConditionSource where
  | latch
  | output
  | level
deriving DecidableEq, Repr

/-- The channel choice of a station's condition (R113). -/
inductive ChannelChoice where
  | neither
  | a
  | b
  | either
deriving DecidableEq, Repr

/-- A station's condition: source, channel choice and polarity (R113). -/
structure StationCondition where
  source   : ConditionSource
  choice   : ChannelChoice
  polarity : Bool
deriving DecidableEq, Repr

/-- What the line gives back to a picked transaction (R114): no answer pulse to the roll call, no
reply to the command, or the bytes of a reply, its two check bytes last. -/
inductive PickedAnswer where
  | noPulse
  | noReply
  | reply (bytes : List Byte)
deriving DecidableEq, Repr

/-- What the line gives back to WRITE CONDITION. The manual gives no byte layout for a condition on
the line, so the reply is the condition it carries and whether its check matched (log entry 10). -/
inductive ConditionAnswer where
  | noPulse
  | noReply
  | reply (condition : StationCondition) (checkMatches : Bool)
deriving DecidableEq, Repr

/-- What the line gives back to one sweep pass (R116): no answer pulse, or the two reads of each bit
slot, from position 47 down. -/
inductive PassAnswer where
  | noPulse
  | slots (reads : List (Bool × Bool))
deriving DecidableEq, Repr

/-- One drum's pair and the other's: working, native and retained travel limits (R23, R35). -/
structure Limits where
  hoistMin : Nat
  hoistMax : Nat
  dragMin  : Nat
  dragMax  : Nat
deriving DecidableEq, Repr

/-- A copy that the retained store presents at a power-on start other than as it was left (R189): an
image, a key with whether its stored check is right, or a retained set with whether its stored check is
right (log entry 7). It acts where the store was left with a copy of the item. -/
inductive FoundItem where
  | image (kind : Kind) (bytes : Image)
  | key (bytes : List Byte) (checkRight : Bool)
  | limits (set : Limits) (checkRight : Bool)
deriving DecidableEq, Repr

/-- The commands. A frame operand is the bytes the port's receiver delimited, header and check
included (R1). -/
inductive Instr where
  /-- FRAME_DISCARDED (R1). -/
  | frameDiscarded (port : Port) (frame : List Byte)
  /-- REF_TAKEN_FROM_CAB (R5). -/
  | refTakenFromCab (frame : List Byte)
  /-- STAT_TAKEN (R19). -/
  | statTaken (frame : List Byte)
  /-- PASS_TRAFFIC (R3, R4): the port at which the frame arrived. -/
  | passTraffic (port : Port) (frame : List Byte)
  /-- MREQ_DISCARDED (R161). -/
  | mreqDiscarded (frame : List Byte)
  /-- TRANSMISSION_COMPLETION (R7): the port whose transmitter finished. -/
  | transmissionCompletion (port : Port)
  /-- DEFERRED_CONFIRMATION_OFFERED (R10). -/
  | deferredConfirmationOffered
  /-- CAB_SILENCE_TIMER_EXPIRY (R14). -/
  | cabSilenceTimerExpiry
  /-- HOLD_TIMER_EXPIRY (R15). -/
  | holdTimerExpiry
  /-- DRIVE_SILENCE_TIMER_EXPIRY (R20): the drive whose timer expired. -/
  | driveSilenceTimerExpiry (drive : Motion)
  /-- TRANSFER_TIMER_EXPIRY (R96). -/
  | transferTimerExpiry
  /-- SCAN_TIMER_EXPIRY (R122). -/
  | scanTimerExpiry
  /-- DEFERRED_ROUND_START (R122). -/
  | deferredRoundStart
  /-- ENROLLMENT_SWEEP_START (R130). -/
  | enrollmentSweepStart
  /-- WRITE_OUTPUTS (R115): what the line gave back. -/
  | writeOutputs (answer : PickedAnswer)
  /-- WRITE_CONDITION (R115): what the line gave back. -/
  | writeCondition (answer : ConditionAnswer)
  /-- READ_CLEARING (R115): what the line gave back. -/
  | readClearing (answer : PickedAnswer)
  /-- SEEK_IF_PASS (R116): what the line gave back. -/
  | seekIfPass (answer : PassAnswer)
  /-- SEEK_PASS (R130): what the line gave back. -/
  | seekPass (answer : PassAnswer)
  /-- ROUND_COMPLETION (R127). -/
  | roundCompletion
  /-- DELAY_TIMER_EXPIRY (R143): the slot whose delay timer expired. -/
  | delayTimerExpiry (slot : Nat)
  /-- TIME_COUNTER_TICK (R153). -/
  | timeCounterTick
  /-- RETAINED_WRITE_COMPLETION (R187): whether the write succeeded. -/
  | retainedWriteCompletion (success : Bool)
  /-- RESTART_TAKES_EFFECT (R175). -/
  | restartTakesEffect
  /-- POWER_ON_START (R190): the items the store presents other than as it was left. -/
  | powerOnStart (found : List FoundItem)
  /-- BRIEF_SUPPLY_DIP_START (R191). -/
  | briefSupplyDipStart
  /-- BRIEF_SUPPLY_DIP_END (R191). -/
  | briefSupplyDipEnd
  /-- SUPPLY_LOSS (R192). -/
  | supplyLoss
  /-- IDENTIFY (R173). -/
  | identify (frame : List Byte)
  /-- TABLE_STATE (R185). -/
  | tableState (frame : List Byte)
  /-- TABLE_READ (R184). -/
  | tableRead (frame : List Byte)
  /-- TABLE_BEGIN (R179). -/
  | tableBegin (frame : List Byte)
  /-- TABLE_BLOCK (R180). -/
  | tableBlock (frame : List Byte)
  /-- TABLE_END (R181). -/
  | tableEnd (frame : List Byte)
  /-- TABLE_COMMIT (R182). -/
  | tableCommit (frame : List Byte)
  /-- LIMITS_READ (R39). -/
  | limitsRead (frame : List Byte)
  /-- LIMITS_SET (R40). -/
  | limitsSet (frame : List Byte)
  /-- STATION_STATUS (R131). -/
  | stationStatus (frame : List Byte)
  /-- STATION_OUTPUT (R129). -/
  | stationOutput (frame : List Byte)
  /-- STATION_ENROLL (R130). -/
  | stationEnroll (frame : List Byte)
  /-- ALARM_LIST_READ (R156). -/
  | alarmListRead (frame : List Byte)
  /-- ALARM_ACKNOWLEDGE (R147). -/
  | alarmAcknowledge (frame : List Byte)
  /-- ALARM_RE_ANNOUNCE (R152). -/
  | alarmReAnnounce (frame : List Byte)
  /-- FIRST_OUT_READ (R150). -/
  | firstOutRead (frame : List Byte)
  /-- FIRST_OUT_CLEAR (R150). -/
  | firstOutClear (frame : List Byte)
  /-- LOG_READ (R155). -/
  | logRead (frame : List Byte)
  /-- KEY_SET (R168). -/
  | keySet (frame : List Byte)
  /-- KEY_UNLOCK (R169). -/
  | keyUnlock (frame : List Byte)
  /-- KEY_CLEAR (R170). -/
  | keyClear (frame : List Byte)
  /-- GUARD (R171). -/
  | guard (frame : List Byte)
  /-- FREEZE (R172). -/
  | freeze (frame : List Byte)
  /-- RESTART (R174). -/
  | restart (frame : List Byte)
  /-- UNDEFINED_REQUEST_CODE (R163). -/
  | undefinedRequestCode (frame : List Byte)
deriving DecidableEq, Repr

end Sys2Proof
end

