-- ==== Sys2Proof/Machine/Bytes.lean ====
section
/-! DEFINITION. Bytes and fields: the byte order and the widths of R193, the check generator of R2,
the identity check of R117, and the trailer of R177. -/

namespace Sys2Proof.Machine

/-! ### Reading a field at its position (R193) -/

/-- The byte at a position, 0 beyond the end. -/
def byteAt (bytes : List Byte) (pos : Nat) : Byte := bytes.getD pos 0

/-- An unsigned field of one byte. -/
def u8At (bytes : List Byte) (pos : Nat) : Nat := (byteAt bytes pos).toNat

/-- An unsigned field of two bytes, low byte first (R193). -/
def u16At (bytes : List Byte) (pos : Nat) : Nat := u8At bytes pos + 256 * u8At bytes (pos + 1)

/-- The two's complement reading of a 16-bit value (R193). -/
def signed16 (n : Nat) : Int := if n < 32768 then (n : Int) else (n : Int) - 65536

/-- A signed field of two bytes (R193). -/
def i16At (bytes : List Byte) (pos : Nat) : Int := signed16 (u16At bytes pos)

/-- A station identity of six bytes, low byte first (R118, 10.4). -/
def identityAt (bytes : List Byte) (pos : Nat) : Identity :=
  BitVec.ofNat 48 (u16At bytes pos + 65536 * u16At bytes (pos + 2) + 4294967296 * u16At bytes (pos + 4))

/-! ### Writing a value in the width of its kind (R193) -/

/-- One byte. -/
def u8 (n : Nat) : List Byte := [BitVec.ofNat 8 n]

/-- Two bytes, low byte first. -/
def u16 (n : Nat) : List Byte := [BitVec.ofNat 8 n, BitVec.ofNat 8 (n / 256)]

/-- Four bytes, low byte first. -/
def u32 (n : Nat) : List Byte := u16 n ++ u16 (n / 65536)

/-- A signed value in two bytes, two's complement. -/
def i16 (n : Int) : List Byte := u16 (n % 65536).toNat

/-- A flag: 0 or 1. -/
def flagByte (b : Bool) : List Byte := u8 b.toNat

/-- A one-byte value that may be none: none is sent as 255. -/
def optU8 : Option Nat → List Byte
  | none => u8 255
  | some n => u8 n

/-- A two-byte value that may be none: none is sent as 65535. -/
def optU16 : Option Nat → List Byte
  | none => u16 65535
  | some n => u16 n

/-- A one-byte flag that may be none. -/
def optFlag (b : Option Bool) : List Byte := optU8 (b.map Bool.toNat)

/-- Six bytes, check byte first. -/
def identityBytes (i : Identity) : List Byte :=
  u16 i.toNat ++ u16 (i.toNat / 65536) ++ u16 (i.toNat / 4294967296)

/-- A list, preceded by a count byte (R193). -/
def countedList (items : List (List Byte)) : List Byte := u8 items.length ++ items.flatten

/-- A byte of four flags, bit 0 first. -/
def fourFlags (b0 b1 b2 b3 : Bool) : List Byte :=
  u8 (b0.toNat + 2 * b1.toNat + 4 * b2.toNat + 8 * b3.toNat)

/-- Sixteen flags, flag s at bit s, in two bytes. -/
def flagBits (flags : List Bool) : Nat := flags.foldr (fun b acc => b.toNat + 2 * acc) 0

/-! ### The check generator (R2) -/

/-- One bit into the generator x^16 + x^12 + x^5 + 1, the register held with the coefficient of
x^15 in its lowest bit, as a generator fed least significant bit first holds it (log entry 8). -/
def crcBit (r : BitVec 16) (b : Bool) : BitVec 16 :=
  let shifted := r >>> 1
  if (r.getLsbD 0) != b then shifted ^^^ 0x8408#16 else shifted

/-- One byte into the generator, least significant bit first (R2). -/
def crcByte (r : BitVec 16) (x : Byte) : BitVec 16 :=
  (List.range 8).foldl (fun acc k => crcBit acc (x.getLsbD k)) r

/-- The check of a byte sequence: preset all ones, remainder complemented (R2). -/
def checkSequence (bytes : List Byte) : BitVec 16 := ~~~(bytes.foldl crcByte 0xFFFF#16)

/-- The check as sent, low byte first (R2). -/
def checkBytes (bytes : List Byte) : List Byte := u16 (checkSequence bytes).toNat

/-- Whether a reply of the station line ends in the check of the bytes before it (R114). The answer
is the reply less its check. -/
def checkedReply (bytes : List Byte) : Option (List Byte) :=
  let body := bytes.take (bytes.length - 2)
  if 2 ≤ bytes.length ∧ bytes.drop (bytes.length - 2) = checkBytes body then some body else none

/-! ### The identity check (R117) -/

/-- One bit into the generator x^8 + x^2 + x + 1 (R117). -/
def crc8Bit (r : Byte) (b : Bool) : Byte :=
  let shifted := r <<< 1
  if (r.getLsbD 7) != b then shifted ^^^ 0x07#8 else shifted

/-- The check byte of an identity: over bits 47 to 8, from bit 47 down, preset zero (R117). -/
def identityCheck (i : Identity) : Byte :=
  (List.range 40).foldl (fun acc k => crc8Bit acc (i.getLsbD (47 - k))) 0

/-- Whether an identity's check byte matches (R117). -/
def identityOk (i : Identity) : Bool := identityCheck i == i.setWidth 8

/-! ### The trailer of an image (R177) -/

/-- The sum of all bytes of an image, mod 256. -/
def byteSum (image : Image) : Byte := image.foldl (· + ·) 0

/-- Whether an image ends in the signature 0xC6 and its bytes sum to 0 mod 256 (R177). -/
def trailerOk (image : Image) : Bool :=
  2 ≤ image.length && byteAt image (image.length - 2) == 0xC6#8 && byteSum image == 0

end Sys2Proof.Machine
end

