-- ==== Sys2Proof/Machine/Frames.lean ====
section
/-! DEFINITION. Frames on the motion link: acceptance (R1), the check (R2), the classification of
each port (R3, R4), and the building of a frame (10.2). -/

namespace Sys2Proof.Machine

/-! ### Addresses and classes (Introduction; 10.2) -/

def addrCab : Byte := 0x01
def addrPart : Byte := 0x7E
def addrAllDrives : Byte := 0x7F
def classRef : Byte := 0x11
def classStat : Byte := 0x12
def classRpt : Byte := 0x13
def classMreq : Byte := 0x14
def classMcnf : Byte := 0x15

/-- The address of a drive (Introduction, "Addresses on the motion link"). -/
def driveAddress : Motion → Byte
  | .hoist => 0x10
  | .drag => 0x11
  | .swing => 0x12
  | .propel => 0x13

/-- The drive of an address. -/
def driveOfAddress (a : Byte) : Option Motion :=
  if a = 0x10 then some .hoist
  else if a = 0x11 then some .drag
  else if a = 0x12 then some .swing
  else if a = 0x13 then some .propel
  else none

/-! ### Fields of a frame (10.2) -/

def frameClass (frame : List Byte) : Byte := byteAt frame 0
def frameDest (frame : List Byte) : Byte := byteAt frame 1
def frameSource (frame : List Byte) : Byte := byteAt frame 2

/-- The payload length field. -/
def frameLength (frame : List Byte) : Nat := u8At frame 3

/-- The payload of a frame. -/
def framePayload (frame : List Byte) : List Byte := (frame.drop 4).take (frameLength frame)

/-- A frame built by the part: header, payload and the check over both (R2, 10.2). -/
def buildFrame (cls dest source : Byte) (payload : List Byte) : List Byte :=
  let body := [cls, dest, source] ++ u8 payload.length ++ payload
  body ++ checkBytes body

/-- R1: the payload length field is in 0..240, the number of bytes is 6 more, the check matches. -/
def accepted (frame : List Byte) : Bool :=
  let l := frameLength frame
  l ≤ 240 && frame.length == 6 + l && frame.drop (4 + l) == checkBytes (frame.take (4 + l))

/-! ### Classification at the ports -/

/-- What becomes of a frame that arrives at the cab port (R1, R3). -/
inductive CabArrival where
  | ref
  | mreq
  | pass
  | discarded
deriving DecidableEq, Repr

/-- What becomes of a frame that arrives at the drive port (R1, R4). -/
inductive DriveArrival where
  | stat (drive : Motion)
  | pass
  | discarded
deriving DecidableEq, Repr

/-- The cab port: R1, then the table of R3. -/
def classifyCab (frame : List Byte) : CabArrival :=
  if !accepted frame then .discarded
  else if frameClass frame = classRef then
    if frameSource frame = addrCab ∧ frameDest frame = addrAllDrives ∧ frameLength frame = 11
        ∧ u8At (framePayload frame) 0 ≤ 1 then .ref else .discarded
  else if frameClass frame = classMreq then
    if frameSource frame = addrCab ∧ frameDest frame = addrPart ∧ 2 ≤ frameLength frame
    then .mreq else .discarded
  else if frameClass frame = classStat ∨ frameClass frame = classRpt ∨ frameClass frame = classMcnf
  then .discarded
  else if frameDest frame = addrPart then .discarded
  else .pass

/-- The drive port: R1, then the table of R4. -/
def classifyDrive (frame : List Byte) : DriveArrival :=
  if !accepted frame then .discarded
  else if frameClass frame = classStat then
    match driveOfAddress (frameSource frame) with
    | some d => if frameDest frame = addrCab ∧ frameLength frame = 8 then .stat d else .discarded
    | none => .discarded
  else if frameClass frame = classRef ∨ frameClass frame = classRpt ∨ frameClass frame = classMreq
      ∨ frameClass frame = classMcnf then .discarded
  else if frameDest frame = addrPart then .discarded
  else .pass

/-- Whether a frame is PASS traffic at a port (R3, R4). -/
def isPass : Port → List Byte → Bool
  | .cab, frame => classifyCab frame == .pass
  | .drive, frame => classifyDrive frame == .pass

/-- Whether a frame is discarded at a port whatever the state (R1, R3, R4). -/
def isDiscarded : Port → List Byte → Bool
  | .cab, frame => classifyCab frame == .discarded
  | .drive, frame => classifyDrive frame == .discarded

/-- The request code of an MREQ (10.2). -/
def requestCode (frame : List Byte) : Nat := u8At (framePayload frame) 0

/-- The tag of an MREQ (10.2). -/
def requestTag (frame : List Byte) : Byte := byteAt (framePayload frame) 1

/-- The parameter bytes of an MREQ (10.3). -/
def requestParams (frame : List Byte) : List Byte := (framePayload frame).drop 2

/-- An MREQ that the cab port hands to the management unit, with the given request code (R3). -/
def isRequest (code : Nat) (frame : List Byte) : Bool :=
  classifyCab frame == .mreq && requestCode frame == code

/-- The 24 request codes of 10.3. -/
def definedCode (code : Nat) : Bool := 1 ≤ code && code ≤ 0x18

/-! ### Frames the part originates -/

/-- The payload of a forwarded REF or a hold frame (10.2). -/
def refPayload (mode cycle : Nat) (hoist drag swing propel : Int) (brakes : List Byte)
    (origin : Nat) : List Byte :=
  u8 mode ++ u8 cycle ++ i16 hoist ++ i16 drag ++ i16 swing ++ i16 propel ++ brakes ++ u8 origin

/-- A REF of the part: destination 0x7F, source 0x7E (R6, R16). -/
def buildRef (payload : List Byte) : List Byte := buildFrame classRef addrAllDrives addrPart payload

/-- The bytes of a hold frame with the given mode and cycle (R16). -/
def holdFrameBytes (mode cycle : Nat) : List Byte :=
  buildRef (refPayload mode cycle 0 0 0 0 (fourFlags false false false false) 1)

/-- An RPT (R21). -/
def buildRpt (payload : List Byte) : List Byte := buildFrame classRpt addrCab addrPart payload

/-- An MCNF (R162, 10.2): code, tag, outcome, deferred-store byte, result data. -/
def buildMcnf (code : Nat) (tag : Byte) (outcome deferredStore : Nat) (data : List Byte) :
    List Byte :=
  buildFrame classMcnf addrCab addrPart
    (u8 code ++ [tag] ++ u8 outcome ++ u8 deferredStore ++ data)

end Sys2Proof.Machine
end

