-- ==== Sys2Proof/WellFormed.lean ====
section
/-! DEFINITION. When a command's operands fit its row: the frame is one its port takes as that row
(R1, R3, R4, R163), the slot exists (R134). It reads the command alone, not the state: whether the
state admits the event is the machine's matter (R161 among them). -/

namespace Sys2Proof

open Machine

/-- Whether the operands of a command fit its row of the table. -/
def Instr.wellFormed : Instr → Bool
  | .frameDiscarded p f => isDiscarded p f
  | .refTakenFromCab f => classifyCab f == .ref
  | .statTaken f => match classifyDrive f with
    | .stat _ => true
    | .pass => false
    | .discarded => false
  | .passTraffic p f => isPass p f
  | .mreqDiscarded f => classifyCab f == .mreq
  | .transmissionCompletion _ => true
  | .deferredConfirmationOffered => true
  | .cabSilenceTimerExpiry => true
  | .holdTimerExpiry => true
  | .driveSilenceTimerExpiry _ => true
  | .transferTimerExpiry => true
  | .scanTimerExpiry => true
  | .deferredRoundStart => true
  | .enrollmentSweepStart => true
  | .writeOutputs _ => true
  | .writeCondition _ => true
  | .readClearing _ => true
  | .seekIfPass _ => true
  | .seekPass _ => true
  | .roundCompletion => true
  | .delayTimerExpiry n => n < 64
  | .timeCounterTick => true
  | .retainedWriteCompletion _ => true
  | .restartTakesEffect => true
  | .powerOnStart _ => true
  | .briefSupplyDipStart => true
  | .briefSupplyDipEnd => true
  | .supplyLoss => true
  | .identify f => isRequest 0x01 f
  | .tableState f => isRequest 0x02 f
  | .tableRead f => isRequest 0x03 f
  | .tableBegin f => isRequest 0x04 f
  | .tableBlock f => isRequest 0x05 f
  | .tableEnd f => isRequest 0x06 f
  | .tableCommit f => isRequest 0x07 f
  | .limitsRead f => isRequest 0x08 f
  | .limitsSet f => isRequest 0x09 f
  | .stationStatus f => isRequest 0x0A f
  | .stationOutput f => isRequest 0x0B f
  | .stationEnroll f => isRequest 0x0C f
  | .alarmListRead f => isRequest 0x0D f
  | .alarmAcknowledge f => isRequest 0x0E f
  | .alarmReAnnounce f => isRequest 0x0F f
  | .firstOutRead f => isRequest 0x10 f
  | .firstOutClear f => isRequest 0x11 f
  | .logRead f => isRequest 0x12 f
  | .keySet f => isRequest 0x13 f
  | .keyUnlock f => isRequest 0x14 f
  | .keyClear f => isRequest 0x15 f
  | .guard f => isRequest 0x16 f
  | .freeze f => isRequest 0x17 f
  | .restart f => isRequest 0x18 f
  | .undefinedRequestCode f => classifyCab f == .mreq && !definedCode (requestCode f)

end Sys2Proof
end

