-- ==== Sys2Proof/Decode.lean ====
section
/-! DEFINITION. Which command a word, or an arriving frame, spells. -/

namespace Sys2Proof

open Machine

/-- The command a word spells by the table's bits: no row of spec/opcode_table.json gives bits, so no
word spells one (log entry 34). -/
def decodeTableWord (_nbits _w : Nat) : Option Instr := none

/-- The request row of a request code (10.3); an undefined code is the row of R163. -/
def requestCommand (code : Nat) (frame : List Byte) : Instr :=
  match code with
  | 0x01 => .identify frame
  | 0x02 => .tableState frame
  | 0x03 => .tableRead frame
  | 0x04 => .tableBegin frame
  | 0x05 => .tableBlock frame
  | 0x06 => .tableEnd frame
  | 0x07 => .tableCommit frame
  | 0x08 => .limitsRead frame
  | 0x09 => .limitsSet frame
  | 0x0A => .stationStatus frame
  | 0x0B => .stationOutput frame
  | 0x0C => .stationEnroll frame
  | 0x0D => .alarmListRead frame
  | 0x0E => .alarmAcknowledge frame
  | 0x0F => .alarmReAnnounce frame
  | 0x10 => .firstOutRead frame
  | 0x11 => .firstOutClear frame
  | 0x12 => .logRead frame
  | 0x13 => .keySet frame
  | 0x14 => .keyUnlock frame
  | 0x15 => .keyClear frame
  | 0x16 => .guard frame
  | 0x17 => .freeze frame
  | 0x18 => .restart frame
  | _ => .undefinedRequestCode frame

/-- The command that a frame arriving at a port is, by R1, R3 and R4 alone. Whether an MREQ is taken
or discarded unanswered (R161, MREQ_DISCARDED) is for the state to say. -/
def arrivalCommand : Port → List Byte → Instr
  | .cab, frame => match classifyCab frame with
    | .ref => .refTakenFromCab frame
    | .mreq => requestCommand (requestCode frame) frame
    | .pass => .passTraffic .cab frame
    | .discarded => .frameDiscarded .cab frame
  | .drive, frame => match classifyDrive frame with
    | .stat _ => .statTaken frame
    | .pass => .passTraffic .drive frame
    | .discarded => .frameDiscarded .drive frame

end Sys2Proof
end

