-- ==== Sys2Proof/Machine/Tables.lean ====
section
/-! DEFINITION. The seven table images read at the positions of 10.4: each field of R23, R59, R62,
R69, R86, R118 and R136 as the value it carries. The part keeps images as bytes (R177); these
functions read them. -/

namespace Sys2Proof.Machine

/-! ### Kinds (R177) -/

/-- The code of a table kind (R177). -/
def kindCode : Kind → Nat
  | .plant => 1
  | .geometry => 2
  | .zone => 3
  | .swing => 4
  | .walk => 5
  | .alarm => 6
  | .station => 7

/-- The kind of a code, none outside 1..7 (R177). -/
def kindOfCode (n : Nat) : Option Kind :=
  match n with
  | 1 => some .plant
  | 2 => some .geometry
  | 3 => some .zone
  | 4 => some .swing
  | 5 => some .walk
  | 6 => some .alarm
  | 7 => some .station
  | _ => none

/-- All kinds, in order of code. -/
def allKinds : List Kind := [.plant, .geometry, .zone, .swing, .walk, .alarm, .station]

/-- The smallest and largest image length of a kind (10.4); equal for a kind of fixed length. -/
def kindLengths : Kind → Nat × Nat
  | .plant => (8, 8)
  | .geometry => (24601, 24601)
  | .zone => (178, 178)
  | .swing => (19, 155)
  | .walk => (30, 30)
  | .alarm => (3, 991)
  | .station => (5, 149)

/-- Whether a length is one a kind can have (R177, R179). -/
def lengthFits (k : Kind) (n : Nat) : Bool := (kindLengths k).1 ≤ n && n ≤ (kindLengths k).2

/-! ### Channels and bindings -/

/-- A channel of a station, codes 0 and 1 (10.3). -/
inductive Channel where
  | a
  | b
deriving DecidableEq, Repr

/-- A station index and a channel (R86, R134). -/
structure Binding where
  station : Nat
  channel : Channel
deriving DecidableEq, Repr

/-- A channel code of a validated image. -/
def channelOf (code : Nat) : Channel := if code = 0 then .a else .b

/-- A binding of two bytes (10.4). -/
def bindingAt (image : Image) (pos : Nat) : Binding :=
  { station := u8At image pos, channel := channelOf (u8At image (pos + 1)) }

/-! ### PLANT (R62) -/

structure PlantTable where
  silenceSelection : Nat
  holdInterval     : Nat
  driveSilence     : Nat
  neutralBand      : Nat
  blindCreep       : Nat
deriving DecidableEq, Repr

def readPlant (image : Image) : PlantTable :=
  { silenceSelection := u8At image 0
    holdInterval := u8At image 1
    driveSilence := u16At image 2
    neutralBand := u8At image 4
    blindCreep := u8At image 5 }

/-- The defaults while no PLANT table is active (R62). -/
def defaultPlant : PlantTable :=
  { silenceSelection := 1, holdInterval := 20, driveSilence := 60, neutralBand := 20,
    blindCreep := 50 }

/-- The cab-silence length a selection 0..3 gives: 50, 100, 200 or 400 ms (R17). -/
def silenceLength (selection : Nat) : Nat :=
  match selection with
  | 0 => 50
  | 1 => 100
  | 2 => 200
  | _ => 400

/-! ### GEOMETRY (R23) -/

structure PerDirection where
  raise   : Nat
  lower   : Nat
  haulIn  : Nat
  payOut  : Nat
deriving DecidableEq, Repr

structure GeometryHeader where
  kh         : Nat
  kd         : Nat
  native     : Limits
  unresolved : Nat
  gains      : PerDirection
  creeps     : PerDirection
deriving DecidableEq, Repr

def readGeometry (image : Image) : GeometryHeader :=
  { kh := u8At image 0
    kd := u8At image 1
    native := { hoistMin := u16At image 2, hoistMax := u16At image 4,
                dragMin := u16At image 6, dragMax := u16At image 8 }
    unresolved := u8At image 10
    gains := { raise := u16At image 11, lower := u16At image 13,
               haulIn := u16At image 15, payOut := u16At image 17 }
    creeps := { raise := u8At image 19, lower := u8At image 20,
                haulIn := u8At image 21, payOut := u8At image 22 } }

/-- A node record of the grid (R23). -/
structure Node where
  reach    : Int
  height   : Int
  feasible : Bool
  zone     : Nat
deriving DecidableEq, Repr

/-- The position of node [i][j] in the image (10.4). -/
def nodePos (i j : Nat) : Nat := 23 + 6 * (64 * i + j)

/-- Node [i][j] of the grid (R23, 10.4). -/
def nodeAt (image : Image) (i j : Nat) : Node :=
  { reach := (u16At image (nodePos i j) : Int)
    height := i16At image (nodePos i j + 2)
    feasible := u8At image (nodePos i j + 4) == 1
    zone := u8At image (nodePos i j + 5) }

/-! ### ZONE (R59) -/

structure ZoneRecord where
  limits     : PerDirection
  swingLimit : Nat
  walkPark   : Bool
deriving DecidableEq, Repr

/-- The record of zone z, 11 bytes at 11 z (10.4). -/
def readZone (image : Image) (z : Nat) : ZoneRecord :=
  { limits := { raise := u16At image (11 * z), lower := u16At image (11 * z + 2),
                haulIn := u16At image (11 * z + 4), payOut := u16At image (11 * z + 6) }
    swingLimit := u16At image (11 * z + 8)
    walkPark := u8At image (11 * z + 10) == 1 }

/-! ### SWING (R69) -/

inductive SectorClass where
  | forbidden
  | slow
  | height
deriving DecidableEq, Repr

/-- A sector; the parameter is the limit of a SLOW sector and the signed minimum height of a HEIGHT
sector (R69, 10.4). -/
structure Sector where
  start     : Nat
  stop      : Nat
  cls       : SectorClass
  limit     : Nat
  minHeight : Int
deriving DecidableEq, Repr

structure SwingTable where
  origin     : Nat
  gain       : Nat
  creep      : Nat
  hysteresis : Nat
  points     : List (Nat × Nat)
  sectors    : List Sector
deriving DecidableEq, Repr

def sectorClassOf (code : Nat) : SectorClass :=
  match code with
  | 0 => .forbidden
  | 1 => .slow
  | _ => .height

/-- A sector record of 7 bytes (10.4). -/
def sectorAt (image : Image) (pos : Nat) : Sector :=
  { start := u16At image pos
    stop := u16At image (pos + 2)
    cls := sectorClassOf (u8At image (pos + 4))
    limit := u16At image (pos + 5)
    minHeight := i16At image (pos + 5) }

/-- The position of the sector count, 8 + 4 (point count) (10.4). -/
def sectorCountPos (image : Image) : Nat := 8 + 4 * u8At image 7

def readSwing (image : Image) : SwingTable :=
  { origin := u16At image 0
    gain := u16At image 2
    creep := u8At image 4
    hysteresis := u16At image 5
    points := (List.range (u8At image 7)).map fun k =>
      (u16At image (8 + 4 * k), u16At image (8 + 4 * k + 2))
    sectors := (List.range (u8At image (sectorCountPos image))).map fun k =>
      sectorAt image (sectorCountPos image + 1 + 7 * k) }

/-! ### WALK (R86) -/

structure WalkTable where
  windowStart      : Nat
  windowEnd        : Nat
  stepTimeout      : Nat
  currentThreshold : Nat
  c1               : Nat
  c2               : Nat
  c3               : Nat
  c4               : Nat
  propelLimit      : Nat
  walkSwingLimit   : Nat
  digCommand       : Binding
  walkCommand      : Binding
  digFeedback      : Binding
  walkFeedback     : Binding
deriving DecidableEq, Repr

def readWalk (image : Image) : WalkTable :=
  { windowStart := u16At image 0
    windowEnd := u16At image 2
    stepTimeout := u16At image 4
    currentThreshold := u16At image 6
    c1 := u16At image 8
    c2 := u16At image 10
    c3 := u16At image 12
    c4 := u16At image 14
    propelLimit := u16At image 16
    walkSwingLimit := u16At image 18
    digCommand := bindingAt image 20
    walkCommand := bindingAt image 22
    digFeedback := bindingAt image 24
    walkFeedback := bindingAt image 26 }

/-- The four bindings in the order of the image. -/
def walkBindings (w : WalkTable) : List Binding :=
  [w.digCommand, w.walkCommand, w.digFeedback, w.walkFeedback]

/-! ### ALARM (R134, R136) -/

/-- Alarm classes, ranked from lowest to highest (R134). -/
inductive AlarmClass where
  | advise
  | restrict
  | stop
  | trip
deriving DecidableEq, Repr

/-- One value for each of the four motions or drives. -/
structure PerMotion (α : Type) where
  hoist  : α
  drag   : α
  swing  : α
  propel : α
deriving DecidableEq, Repr

/-- The fixed attributes of a slot (R134). -/
structure Attrs where
  cls     : AlarmClass
  motions : PerMotion Bool
  derate  : Nat
  latched : Bool
  notify  : Bool
  delay   : Nat
  output  : Option Binding
deriving DecidableEq, Repr

/-- The source of a loaded definition (R136). -/
inductive Source where
  | stationLevel (at' : Binding) (polarity : Bool)
  | stationEdge (at' : Binding)
  | driveFlag (drive : Motion) (flag : Nat)
  | driveValue (drive : Motion) (loop : Bool) (below : Bool) (threshold hysteresis : Int)
  | zone (z : Nat)
  | sector (n : Nat)
deriving DecidableEq, Repr

structure AlarmDef where
  source : Source
  attrs  : Attrs
deriving DecidableEq, Repr

def motionOfCode (code : Nat) : Motion :=
  match code with
  | 0 => .hoist
  | 1 => .drag
  | 2 => .swing
  | _ => .propel

def alarmClassOf (code : Nat) : AlarmClass :=
  match code with
  | 2 => .restrict
  | 3 => .stop
  | 4 => .trip
  | _ => .advise

/-- The source of the record at a position (10.4, "ALARM definition record"). -/
def sourceAt (image : Image) (pos : Nat) : Source :=
  match u8At image pos with
  | 0 => .stationLevel (bindingAt image (pos + 1)) (u8At image (pos + 3) == 1)
  | 1 => .stationEdge (bindingAt image (pos + 1))
  | 2 => .driveFlag (motionOfCode (u8At image (pos + 1))) (u8At image (pos + 2))
  | 3 => .driveValue (motionOfCode (u8At image (pos + 1))) (u8At image (pos + 2) == 1)
      (u8At image (pos + 3) == 1) (i16At image (pos + 4)) (u16At image (pos + 6) : Int)
  | 4 => .zone (u8At image (pos + 1))
  | _ => .sector (u8At image (pos + 1))

/-- Bits 0 to 3 of a byte, one for each motion (10.2, 10.4). -/
def motionBits (b : Byte) : PerMotion Bool :=
  { hoist := b.getLsbD 0, drag := b.getLsbD 1, swing := b.getLsbD 2, propel := b.getLsbD 3 }

/-- The definition record at a position (10.4). -/
def alarmDefAt (image : Image) (pos : Nat) : AlarmDef :=
  { source := sourceAt image pos
    attrs :=
      { cls := alarmClassOf (u8At image (pos + 8))
        motions := motionBits (byteAt image (pos + 9))
        derate := u16At image (pos + 10)
        latched := u8At image (pos + 12) == 1
        notify := u8At image (pos + 13) == 1
        delay := u16At image (pos + 17)
        output := if u8At image (pos + 14) = 1 then some (bindingAt image (pos + 15)) else none } }

/-- The definitions of an ALARM image, in table order (R136). -/
def readAlarm (image : Image) : List AlarmDef :=
  (List.range (u8At image 0)).map fun k => alarmDefAt image (1 + 19 * k)

/-! ### STATION (R118) -/

structure StationTable where
  scanPeriod : Nat
  ids        : List Identity
deriving DecidableEq, Repr

def readStation (image : Image) : StationTable :=
  { scanPeriod := u16At image 0
    ids := (List.range (u8At image 2)).map fun k => identityAt image (3 + 6 * k) }

end Sys2Proof.Machine
end

