-- ==== Sys2Proof/Machine/State.lean ====
section
/-! DEFINITION. The state of the part as plain data: one structure for each block of the Introduction's
block overview, the supply, the active tables, and the queue of waiting commands. -/

namespace Sys2Proof.Machine

/-! ### Supply and timers -/

/-- The supply: lost (R192), present, or within a brief dip (R191). -/
inductive Power where
  | off
  | on
  | dip
deriving DecidableEq, Repr

/-- A timer: stopped, or running with the length it was started with (R17). Its unit is the
millisecond, but for the delay timers, whose unit is 10 ms (R143). How much of the length has passed
is not held (log entry 5). -/
abbrev Timer := Option Nat

/-! ### Link ports (Chapter 1) -/

/-- The cab-link states (1.4). -/
inductive CabState where
  | waiting
  | normal
  | hold
deriving DecidableEq, Repr

/-- The freshness states of a drive record (1.5). -/
inductive Freshness where
  | unseen
  | fresh
  | silent
deriving DecidableEq, Repr

/-- A drive record (1.5, R18). -/
structure DriveRecord where
  /-- The armature current of the last STAT taken, or no value (R18, R19). -/
  current   : Option Int
  freshness : Freshness
  timer     : Timer
deriving DecidableEq, Repr

/-- What a frame in a queue or in transmission is, for the queue rules (R8, R9, R10). -/
inductive FrameKind where
  | ref
  | stat (drive : Motion)
  | rpt
  | mcnf (deferred : Bool)
  | pass
deriving DecidableEq, Repr

/-- A frame in a queue or in transmission, with its bytes, check included. -/
structure QFrame where
  kind  : FrameKind
  bytes : List Byte
deriving DecidableEq, Repr

/-- A port's transmitter and its queue of waiting frames, the head first (R7). -/
structure PortState where
  tx    : Option QFrame
  queue : List QFrame
deriving DecidableEq, Repr

/-- The link ports (1.3 to 1.5). -/
structure Link where
  cabState       : CabState
  silenceTimer   : Timer
  holdTimer      : Timer
  /-- The last cycle value, or none (1.4). -/
  lastCycle      : Option Nat
  /-- Whether the REF most recently offered to the drive port was a hold frame (1.4, R22). -/
  lastOriginHold : Bool
  drivePort      : PortState
  cabPort        : PortState
  /-- The one place for a held deferred confirmation (R10). -/
  held           : Option QFrame
  drives         : PerMotion DriveRecord
deriving DecidableEq, Repr

/-! ### Position unit (Chapter 2) -/

/-- A payout record: the last payout reported, or none, and the valid flag (R26). -/
structure PayoutRecord where
  payout : Option Nat
  valid  : Bool
deriving DecidableEq, Repr

/-- The position status, codes 0..3 (2.4, 10.3). -/
inductive PosStatus where
  | none
  | resolved
  | held
  | lost
deriving DecidableEq, Repr

/-- The position unit: payout records, position record, working limits (Chapter 2). -/
structure PositionUnit where
  hoistPayout : PayoutRecord
  dragPayout  : PayoutRecord
  status      : PosStatus
  /-- The unresolved count (R32). -/
  count       : Nat
  reach       : Int
  height      : Int
  zone        : Nat
  edge        : Bool
  working     : Option Limits
deriving DecidableEq, Repr

/-! ### Reference shaper (Chapter 3) -/

/-- A neutral gate (R56). -/
inductive Gate where
  | passing
  | gated
deriving DecidableEq, Repr

/-- The seven direction limits (R46). -/
structure DirLimits where
  raise  : Nat
  lower  : Nat
  haulIn : Nat
  payOut : Nat
  cw     : Nat
  ccw    : Nat
  step   : Nat
deriving DecidableEq, Repr

/-- The reference shaper (Chapter 3). -/
structure Shaper where
  gates    : PerMotion Gate
  limits   : DirLimits
  /-- The last references sent (R65). -/
  lastRefs : PerMotion Int
deriving DecidableEq, Repr

/-! ### Swing unit (Chapter 4) -/

/-- The swing unit (Chapter 4). The two lists of flags are by sector number, 16 long. -/
structure SwingUnit where
  raw        : Option Nat
  corrected  : Option Nat
  containing : List Bool
  /-- Whether each HEIGHT sector is clear (R72). -/
  clear      : List Bool
  heldLoad   : Nat
deriving DecidableEq, Repr

/-! ### Walk sequencer (Chapter 5) -/

/-- The sequencer states, codes 0..7 (10.3). -/
inductive SeqState where
  | startup
  | dig
  | transferOut
  | walkIdle
  | stepping
  | shoeHold
  | transferBack
  | transferFault
deriving DecidableEq, Repr

/-- The sub-steps, codes 0..4 (10.3). -/
inductive SubStep where
  | none
  | openingDig
  | closingWalk
  | openingWalk
  | closingDig
deriving DecidableEq, Repr

/-- The cam phases (R90). -/
inductive CamPhase where
  | clear
  | bearing
  | carried
  | setting
  | unknown
deriving DecidableEq, Repr

/-- The states of a live record (R120). -/
inductive StationState where
  | unseen
  | present
  | missing
deriving DecidableEq, Repr

/-- One value for each channel of a station. -/
structure PerChannel (α : Type) where
  a : α
  b : α
deriving DecidableEq, Repr

/-- What a round completion delivers of one live record for the feedback (R127, R93). -/
structure Delivered where
  state  : StationState
  levels : PerChannel (Option Bool)
deriving DecidableEq, Repr

/-- The walk sequencer (Chapter 5). The desired states of its two command outputs are held once, in
the live records of the bound stations (R92, R128). -/
structure WalkSequencer where
  /-- The settled usability of the active WALK table (R88). -/
  usable        : Bool
  state         : SeqState
  sub           : SubStep
  transferTimer : Timer
  cam           : CamPhase
  stepCount     : BitVec 16
  /-- The walk refusal code of the latest REF (R94). -/
  refusal       : Nat
  /-- The data of the last round completion, by table index (R97 condition 7, R109). -/
  delivered     : List Delivered
deriving DecidableEq, Repr

/-! ### Station line controller (Chapter 6) -/

/-- A live record (R120). -/
structure LiveRecord where
  state            : StationState
  misses           : Nat
  levels           : PerChannel (Option Bool)
  /-- The outputs held, as last echoed or read. -/
  held             : PerChannel (Option Bool)
  latches          : PerChannel Bool
  powerUp          : Bool
  conditionPending : Bool
  /-- The desired outputs (R128). -/
  desired          : PerChannel (Option Bool)
  outputPending    : Bool
deriving DecidableEq, Repr

/-- A picked transaction of a round (R115), with the table index it names. -/
inductive Job where
  | writeCondition (station : Nat)
  | writeOutputs (station : Nat) (outputs : PerChannel Bool)
  | readClearing (station : Nat)
deriving DecidableEq, Repr

/-- The five steps of a round (R123 to R127). -/
inductive Stage where
  | writing
  | sweeping
  | reading
  | rotating
  | completing
deriving DecidableEq, Repr

/-- A sweep between two passes: the marker, and the identity bits the previous pass sent (R117). -/
structure Sweep where
  marker   : Option Nat
  previous : Identity
deriving DecidableEq, Repr

/-- A scan round in flight (R122). The head of `jobs` is the transaction on the line. -/
structure Round where
  stage  : Stage
  jobs   : List Job
  sweep  : Sweep
  /-- The stations read successfully in this round (R127). -/
  readOk : List Nat
deriving DecidableEq, Repr

/-- An enrollment sweep in flight, with the enrollment list (R130). -/
structure Enrollment where
  sweep : Sweep
  list  : List Identity
deriving DecidableEq, Repr

/-- What is in flight on the line: nothing, a round, or an enrollment sweep. -/
inductive Flight where
  | idle
  | round (r : Round)
  | enroll (e : Enrollment)
deriving DecidableEq, Repr

/-- A transaction on the station line: a picked one, or a pass of a sweep (R114, R116). -/
inductive Transaction where
  | picked (identity : Identity) (job : Job)
  | seekIf (sweep : Sweep)
  | seek (sweep : Sweep)
deriving DecidableEq, Repr

/-- The station line controller (Chapter 6). -/
structure StationLine where
  records       : List LiveRecord
  /-- The found list, as table indices in list order, their identities strictly ascending (R124, R131). -/
  found         : List Nat
  pointer       : Nat
  scanTimer     : Timer
  deferredStart : Bool
  /-- An enrollment sweep is accepted and waits for the round in flight (R130). -/
  enrollWaiting : Bool
  flight        : Flight
  /-- The transaction of a round ended by a STATION commit that is still on the line; what is in flight
  goes on the line when it has finished, and its outcome is not recorded (R132). -/
  finishing     : Option Transaction
deriving DecidableEq, Repr

/-! ### Alarm unit (Chapter 7) -/

/-- A slot's condition and its delay timer, which runs exactly while the slot is PENDING (R142).
A slot is LISTED while it has an entry. -/
structure Slot where
  condition : Bool
  delay     : Timer
deriving DecidableEq, Repr

/-- The entry states (7.4). -/
inductive EntryState where
  | raisedUnack
  | raisedAck
  | returnedUnack
deriving DecidableEq, Repr

/-- An entry of the active list (7.4). -/
structure Entry where
  slot  : Nat
  state : EntryState
  time  : BitVec 32
deriving DecidableEq, Repr

/-- The kinds of log entry, codes 0..3 (R154, 10.3). -/
inductive LogKind where
  | raise
  | return'
  | ack
  | remove
deriving DecidableEq, Repr

/-- An entry of the history log (R154). -/
structure LogEntry where
  seq  : BitVec 32
  kind : LogKind
  slot : Nat
  time : BitVec 32
deriving DecidableEq, Repr

/-- A filled first-out record (R149). -/
structure FirstOut where
  slot     : Nat
  time     : BitVec 32
  status   : PosStatus
  reach    : Int
  height   : Int
  zone     : Nat
  angle    : Option Nat
  seqState : SeqState
  sub      : SubStep
  refs     : PerMotion Int
deriving DecidableEq, Repr

/-- A present position, as the position unit hands it on (R33). -/
structure HandedPosition where
  reach  : Int
  height : Int
  zone   : Nat
deriving DecidableEq, Repr

/-- The alarm unit (Chapter 7). -/
structure AlarmUnit where
  /-- The 64 slots (R134). -/
  slots          : List Slot
  /-- The active list, in raise order (R144). -/
  list           : List Entry
  firstOut       : Option FirstOut
  notices        : List Nat
  /-- The history log, oldest entry first (R154). -/
  log            : List LogEntry
  nextSeq        : BitVec 32
  time           : BitVec 32
  lastPosition   : Option HandedPosition
  lastContaining : List Bool
  /-- Whether each loaded definition is bound (R137, R138). -/
  bound          : List Bool
deriving DecidableEq, Repr

/-! ### Management unit (Chapter 8) -/

/-- The lock states, codes 0..3 (8.4, 10.3). -/
inductive Lock where
  | open
  | locked
  | unlocked
  | frozen
deriving DecidableEq, Repr

/-- The staging buffer (R178). -/
inductive Staging where
  | empty
  | open (kind : Kind) (total : Nat) (bytes : List Byte)
  | staged (kind : Kind) (image : Image)
deriving DecidableEq, Repr

/-- An outstanding deferred request: its code and tag (R166). -/
structure Outstanding where
  code : Nat
  tag  : Byte
deriving DecidableEq, Repr

/-- The management unit (Chapter 8). -/
structure Management where
  lock           : Lock
  key            : Option (List Byte)
  attempts       : Nat
  restartPending : Bool
  deferredStore  : Nat
  /-- The outstanding TABLE COMMIT with RETAIN_NOW (R166). -/
  outCommit      : Option Outstanding
  /-- The outstanding STATION ENROLL (R166). -/
  outEnroll      : Option Outstanding
  /-- The LIMITS READ sequence flag (R38). -/
  seqFlag        : Bool
  /-- The retained-this-power-on flag (R41). -/
  retainedOnce   : Bool
  staging        : Staging
deriving DecidableEq, Repr

/-! ### Retained store and tables (Chapter 9) -/

/-- The retained statuses, codes 0..3 (R186, 10.3). -/
inductive RetStatus where
  | none
  | current
  | writing
  | stale
deriving DecidableEq, Repr

/-- One value for each table kind. -/
structure PerKind (α : Type) where
  plant    : α
  geometry : α
  zone     : α
  swing    : α
  walk     : α
  alarm    : α
  station  : α
deriving DecidableEq, Repr

/-- A retained write in flight, with the value the store holds for it (R187). -/
inductive Write where
  | image (kind : Kind) (bytes : Image)
  | key (value : Option (List Byte))
  | limits (set : Limits)
deriving DecidableEq, Repr

/-- The retained store: the valid copy of each of the nine items, if it has one, their statuses, and
the write in flight (R186, R187). -/
structure RetainedStore where
  images       : PerKind (Option Image)
  keyCopy      : Option (List Byte)
  limitsCopy   : Option Limits
  imageStatus  : PerKind RetStatus
  keyStatus    : RetStatus
  limitsStatus : RetStatus
  inFlight     : Option Write
deriving DecidableEq, Repr

/-- The active image and the commit number of each kind (R177). -/
structure Tables where
  active   : PerKind (Option Image)
  commitNo : PerKind (BitVec 8)
deriving DecidableEq, Repr

/-! ### The state -/

/-- The state of the part, and the queue of commands that are waiting, first in, first out. -/
structure State where
  power    : Power
  link     : Link
  position : PositionUnit
  shaper   : Shaper
  swing    : SwingUnit
  walk     : WalkSequencer
  line     : StationLine
  alarm    : AlarmUnit
  mgmt     : Management
  store    : RetainedStore
  tables   : Tables
  pending  : List Instr
deriving DecidableEq, Repr

/-- No command of the part stops it: loss of supply is a state (R192), errors are outcomes (R162) or
alarms. So there is no fault, and no meaning answers one (safe). -/
inductive Fault where
deriving DecidableEq, Repr

/-- Why a command has no outcome. -/
inductive Refusal where
  /-- Raised by an arm of exec whose command has no meaning yet, and by nothing else (safe: the
  machine stops where the part goes on). No arm of this model raises it. -/
  | notModelled (mnemonic : String)
deriving DecidableEq, Repr

/-! ### Named updates, one for each block -/

/-- The state with its power replaced. -/
def State.withPower (s : State) (x : Power) : State := { s with power := x }

/-- The state with its link replaced. -/
def State.withLink (s : State) (x : Link) : State := { s with link := x }

/-- The state with its position replaced. -/
def State.withPosition (s : State) (x : PositionUnit) : State := { s with position := x }

/-- The state with its shaper replaced. -/
def State.withShaper (s : State) (x : Shaper) : State := { s with shaper := x }

/-- The state with its swing replaced. -/
def State.withSwing (s : State) (x : SwingUnit) : State := { s with swing := x }

/-- The state with its walk replaced. -/
def State.withWalk (s : State) (x : WalkSequencer) : State := { s with walk := x }

/-- The state with its line replaced. -/
def State.withLine (s : State) (x : StationLine) : State := { s with line := x }

/-- The state with its alarm replaced. -/
def State.withAlarm (s : State) (x : AlarmUnit) : State := { s with alarm := x }

/-- The state with its mgmt replaced. -/
def State.withMgmt (s : State) (x : Management) : State := { s with mgmt := x }

/-- The state with its store replaced. -/
def State.withStore (s : State) (x : RetainedStore) : State := { s with store := x }

/-- The state with its tables replaced. -/
def State.withTables (s : State) (x : Tables) : State := { s with tables := x }

/-- The state with its queue of waiting commands replaced. -/
def State.withPending (s : State) (x : List Instr) : State := { s with pending := x }

/-! ### The values of a start -/

/-- The same value for every kind. -/
def PerKind.const {α : Type} (x : α) : PerKind α := ⟨x, x, x, x, x, x, x⟩

/-- The same value for every motion. -/
def PerMotion.const {α : Type} (x : α) : PerMotion α := ⟨x, x, x, x⟩

/-- A drive record after a start (R18). -/
def DriveRecord.start : DriveRecord := { current := none, freshness := .unseen, timer := none }

/-- The ports idle and empty, the drive records UNSEEN, the cab link with its timers stopped and no
last cycle value: the link just before a start enters WAITING (R7, R11, R18). -/
def Link.start : Link :=
  { cabState := .waiting, silenceTimer := none, holdTimer := none, lastCycle := none,
    lastOriginHold := false, drivePort := { tx := none, queue := [] },
    cabPort := { tx := none, queue := [] }, held := none, drives := .const .start }

/-- The position unit after a start with no working limits (R26, R32, R36). -/
def PositionUnit.start : PositionUnit :=
  { hoistPayout := { payout := none, valid := false },
    dragPayout := { payout := none, valid := false },
    status := .none, count := 0, reach := 0, height := 0, zone := 0, edge := false,
    working := none }

/-- The shaper after a start (R46, R56, R65). -/
def Shaper.start : Shaper :=
  { gates := .const .gated, limits := ⟨0, 0, 0, 0, 0, 0, 0⟩, lastRefs := .const 0 }

/-- The swing unit after a start (R84). -/
def SwingUnit.start : SwingUnit :=
  { raw := none, corrected := none, containing := List.replicate 16 false,
    clear := List.replicate 16 false, heldLoad := 2000 }

/-- The walk sequencer after a power-on start, before usability is settled (R111). -/
def WalkSequencer.start : WalkSequencer :=
  { usable := false, state := .startup, sub := .none, transferTimer := none, cam := .unknown,
    stepCount := 0, refusal := 0, delivered := [] }

/-- The station line controller after a start with no STATION table, before its first round (R133). -/
def StationLine.start : StationLine :=
  { records := [], found := [], pointer := 0, scanTimer := none, deferredStart := false,
    enrollWaiting := false, flight := .idle, finishing := none }

/-- A slot after a start (R159, R160). -/
def Slot.start : Slot := { condition := false, delay := none }

/-- The alarm unit at a power-on start, before binding is settled (R159). -/
def AlarmUnit.start : AlarmUnit :=
  { slots := List.replicate 64 .start, list := [], firstOut := none, notices := [], log := [],
    nextSeq := 0, time := 0, lastPosition := none, lastContaining := List.replicate 16 false,
    bound := [] }

/-- The management unit at a power-on start without a valid retained key (R176). -/
def Management.start : Management :=
  { lock := .open, key := none, attempts := 5, restartPending := false, deferredStore := 0,
    outCommit := none, outEnroll := none, seqFlag := false, retainedOnce := false,
    staging := .empty }

/-- A retained store that holds nothing (log entry 1). -/
def RetainedStore.blank : RetainedStore :=
  { images := .const none, keyCopy := none, limitsCopy := none, imageStatus := .const .none,
    keyStatus := .none, limitsStatus := .none, inFlight := none }

/-- No active table, commit numbers 0 (R177). -/
def Tables.start : Tables := { active := .const none, commitNo := .const 0 }

/-- The part without supply, with what its retained store holds (R192; log entry 31). -/
def State.dark (store : RetainedStore) (pending : List Instr) : State :=
  { power := .off, link := .start, position := .start, shaper := .start, swing := .start,
    walk := .start, line := .start, alarm := .start, mgmt := .start, store := store,
    tables := .start, pending := pending }

/-- The part right after a completed power-on start (R190) with a retained store that holds nothing
(log entry 1): the link in WAITING with its first hold frame in transmission (R11, R12), the TABLE
ABSENT entry raised (R159), the first scan round due to complete at once (R122). -/
def State.reset : State :=
  { power := .on
    link := { Link.start with
      holdTimer := some 20, lastOriginHold := true,
      drivePort := { tx := some { kind := .ref, bytes := holdFrameBytes 0 0 }, queue := [] } }
    position := .start
    shaper := .start
    swing := .start
    walk := .start
    line := { StationLine.start with
      scanTimer := some 100
      flight := .round { stage := .completing, jobs := [], sweep := { marker := none, previous := 0 },
                         readOk := [] } }
    alarm := { AlarmUnit.start with
      slots := (List.replicate 64 Slot.start).set 10 { condition := true, delay := none }
      list := [{ slot := 10, state := .raisedUnack, time := 0 }]
      notices := [10]
      log := [{ seq := 0, kind := .raise, slot := 10, time := 0 }]
      nextSeq := 1 }
    mgmt := .start
    store := .blank
    tables := .start
    pending := [] }

end Sys2Proof.Machine
end

