-- ==== Sys2Proof/Machine/Operands.lean ====
section
/-! DEFINITION. What a command's operands carry: the payloads of REF and STAT frames (10.2), the codes
of 10.3, and access by motion, channel and kind. -/

namespace Sys2Proof.Machine

/-! ### Access by motion, channel and kind -/

def PerMotion.get {α : Type} (p : PerMotion α) : Motion → α
  | .hoist => p.hoist
  | .drag => p.drag
  | .swing => p.swing
  | .propel => p.propel

def PerMotion.set {α : Type} (p : PerMotion α) (m : Motion) (x : α) : PerMotion α :=
  match m with
  | .hoist => { p with hoist := x }
  | .drag => { p with drag := x }
  | .swing => { p with swing := x }
  | .propel => { p with propel := x }

def PerChannel.get {α : Type} (p : PerChannel α) : Channel → α
  | .a => p.a
  | .b => p.b

def PerChannel.set {α : Type} (p : PerChannel α) (c : Channel) (x : α) : PerChannel α :=
  match c with
  | .a => { p with a := x }
  | .b => { p with b := x }

/-- The same value for both channels. -/
def PerChannel.both {α : Type} (x : α) : PerChannel α := ⟨x, x⟩

def PerKind.get {α : Type} (p : PerKind α) : Kind → α
  | .plant => p.plant
  | .geometry => p.geometry
  | .zone => p.zone
  | .swing => p.swing
  | .walk => p.walk
  | .alarm => p.alarm
  | .station => p.station

def PerKind.set {α : Type} (p : PerKind α) (k : Kind) (x : α) : PerKind α :=
  match k with
  | .plant => { p with plant := x }
  | .geometry => { p with geometry := x }
  | .zone => { p with zone := x }
  | .swing => { p with swing := x }
  | .walk => { p with walk := x }
  | .alarm => { p with alarm := x }
  | .station => { p with station := x }

/-! ### REF and STAT payloads (10.2) -/

/-- A REF from the cab: mode 0 DIG or 1 WALK, cycle, references as received, brake-release requests. -/
structure RefPayload where
  walkMode : Bool
  cycle    : Nat
  refs     : PerMotion Int
  brakes   : PerMotion Bool
deriving DecidableEq, Repr

/-- The payload of a REF from the cab (10.2). Reserved bits are ignored (R194). -/
def readRef (frame : List Byte) : RefPayload :=
  let p := framePayload frame
  { walkMode := u8At p 0 == 1
    cycle := u8At p 1
    refs := { hoist := i16At p 2, drag := i16At p 4, swing := i16At p 6, propel := i16At p 8 }
    brakes := motionBits (byteAt p 10) }

/-- A STAT: position, position valid, brake set, armature current, loop voltage, fault flags. -/
structure StatPayload where
  position : Nat
  valid    : Bool
  brakeSet : Bool
  current  : Int
  voltage  : Int
  faults   : Byte
deriving DecidableEq, Repr

/-- The payload of a STAT (10.2). Reserved bits are ignored (R194). -/
def readStat (frame : List Byte) : StatPayload :=
  let p := framePayload frame
  { position := u16At p 0
    valid := (byteAt p 2).getLsbD 0
    brakeSet := (byteAt p 2).getLsbD 1
    current := i16At p 3
    voltage := i16At p 5
    faults := byteAt p 7 }

/-! ### Codes (10.3) -/

def motionCode : Motion → Nat
  | .hoist => 0
  | .drag => 1
  | .swing => 2
  | .propel => 3

def channelCode : Channel → Nat
  | .a => 0
  | .b => 1

/-- The channel of a code of a request, none for an undefined one (R195). -/
def channelOfCode (n : Nat) : Option Channel :=
  match n with
  | 0 => some .a
  | 1 => some .b
  | _ => none

def seqStateCode : SeqState → Nat
  | .startup => 0
  | .dig => 1
  | .transferOut => 2
  | .walkIdle => 3
  | .stepping => 4
  | .shoeHold => 5
  | .transferBack => 6
  | .transferFault => 7

def subStepCode : SubStep → Nat
  | .none => 0
  | .openingDig => 1
  | .closingWalk => 2
  | .openingWalk => 3
  | .closingDig => 4

def posStatusCode : PosStatus → Nat
  | .none => 0
  | .resolved => 1
  | .held => 2
  | .lost => 3

/-- Alarm class codes; 0 is NONE. -/
def classCode : AlarmClass → Nat
  | .advise => 1
  | .restrict => 2
  | .stop => 3
  | .trip => 4

/-- Entry state codes; 0 is NOT LISTED. -/
def entryStateCode : EntryState → Nat
  | .raisedUnack => 1
  | .raisedAck => 2
  | .returnedUnack => 3

def logKindCode : LogKind → Nat
  | .raise => 0
  | .return' => 1
  | .ack => 2
  | .remove => 3

def retStatusCode : RetStatus → Nat
  | .none => 0
  | .current => 1
  | .writing => 2
  | .stale => 3

def lockCode : Lock → Nat
  | .open => 0
  | .locked => 1
  | .unlocked => 2
  | .frozen => 3

/-- The states of a live record. The manual gives these no code: the order of R120 (log entry 17). -/
def stationStateCode : StationState → Nat
  | .unseen => 0
  | .present => 1
  | .missing => 2

/-- The outcomes of a confirmation (8.2). -/
inductive ReqOutcome where
  | accepted
  | badRequest
  | locked
  | busy
  | sequence
  | range
  | integrity
  | keyMismatch
  | attempts
  | retained
  | state
  | owned
  | storeFailed
deriving DecidableEq, Repr

/-- The codes of the outcomes (10.3). -/
def outcomeCode : ReqOutcome → Nat
  | .accepted => 0
  | .badRequest => 1
  | .locked => 2
  | .busy => 3
  | .sequence => 4
  | .range => 5
  | .integrity => 6
  | .keyMismatch => 7
  | .attempts => 8
  | .retained => 9
  | .state => 10
  | .owned => 11
  | .storeFailed => 12

/-- The value of R165 for the item a write concerns: 1 the key, the kind's code plus 1 an image,
9 the retained working limits. -/
def itemCode : Write → Nat
  | .key _ => 1
  | .image k _ => kindCode k + 1
  | .limits _ => 9

end Sys2Proof.Machine
end

