-- ==== Sys2Proof/Machine/Active.lean ====
section
/-! DEFINITION. What the blocks read of one another: the active tables and the values in force
(Chapters 2 to 7), the usable payout (R27), the present position (R33), sector containment (R71),
the slots' attributes (R134), and who owns a station output (R128). -/

namespace Sys2Proof.Machine

/-! ### Active tables -/

/-- The PLANT values in force: the active table, or the defaults (R62). -/
def plantOf (s : State) : PlantTable :=
  match s.tables.active.plant with
  | some image => readPlant image
  | none => defaultPlant

/-- The active GEOMETRY table's fields before the grid, or none. -/
def geometryOf (s : State) : Option GeometryHeader := s.tables.active.geometry.map readGeometry

/-- The active SWING table, or none. -/
def swingOf (s : State) : Option SwingTable := s.tables.active.swing.map readSwing

/-- The sectors of the active SWING table; none exist while no table is active (R68). -/
def sectorsOf (s : State) : List Sector :=
  match swingOf s with
  | some t => t.sectors
  | none => []

/-- The active WALK table, or none. -/
def walkOf (s : State) : Option WalkTable := s.tables.active.walk.map readWalk

/-- The active WALK table while it is usable (R88). -/
def usableWalk (s : State) : Option WalkTable := if s.walk.usable then walkOf s else none

/-- The active STATION table, or none. -/
def stationOf (s : State) : Option StationTable := s.tables.active.station.map readStation

/-- The number of enrolled stations; an index is held by the table when it is less (R118). -/
def stationCount (s : State) : Nat :=
  match stationOf s with
  | some t => t.ids.length
  | none => 0

/-- The scan period in force (R122). -/
def scanPeriod (s : State) : Nat :=
  match stationOf s with
  | some t => t.scanPeriod
  | none => 100

/-- The loaded definitions, in table order; none while no ALARM table is active (R134). -/
def definitionsOf (s : State) : List AlarmDef :=
  match s.tables.active.alarm with
  | some image => readAlarm image
  | none => []

/-! ### Position -/

/-- A payout record of the hoist or the drag drum. -/
def payoutRecord (s : State) : Motion → PayoutRecord
  | .hoist => s.position.hoistPayout
  | .drag => s.position.dragPayout
  | .swing => { payout := none, valid := false }
  | .propel => { payout := none, valid := false }

/-- Whether a drive counts as fresh (1.5). -/
def isFresh (s : State) (m : Motion) : Bool := (s.link.drives.get m).freshness == .fresh

/-- The payout of a drum whose record is usable (R27). -/
def usablePayout (s : State) (m : Motion) : Option Nat :=
  let r := payoutRecord s m
  match r.payout with
  | some p => if isFresh s m && r.valid && p != 65535 then some p else none
  | none => none

/-- The position as it is handed on: present in RESOLVED and HELD (R33). -/
def presentPosition (s : State) : Option HandedPosition :=
  match s.position.status with
  | .resolved => some { reach := s.position.reach, height := s.position.height, zone := s.position.zone }
  | .held => some { reach := s.position.reach, height := s.position.height, zone := s.position.zone }
  | .none => none
  | .lost => none

/-- The zone record that applies: a ZONE table is active and the position is present (R52, R59). -/
def zoneInForce (s : State) : Option ZoneRecord :=
  match s.tables.active.zone, presentPosition s with
  | some image, some p => some (readZone image p.zone)
  | _, _ => none

/-! ### Angles and sectors -/

/-- The clockwise distance from one angle to another, in hundredths of a degree: (to − from) mod
36 000. -/
def arc (fromAngle toAngle : Nat) : Nat := (((toAngle : Int) - (fromAngle : Int)) % 36000).toNat

/-- R71: the arc from its start, inclusive, to its end, exclusive. -/
def arcContains (start stop angle : Nat) : Bool := arc start angle < arc start stop

/-- Whether a sector contains an angle (R71). -/
def Sector.contains (t : Sector) (angle : Nat) : Bool := arcContains t.start t.stop angle

/-- Whether sector number n of the active table blocks: FORBIDDEN, or HEIGHT and not clear (R73). -/
def sectorBlocks (s : State) (n : Nat) (t : Sector) : Bool :=
  match t.cls with
  | .forbidden => true
  | .slow => false
  | .height => !(s.swing.clear.getD n false)

/-- The blocking sectors of the active SWING table (R73). -/
def blockingSectors (s : State) : List Sector :=
  ((sectorsOf s).zipIdx.filter fun (t, n) => sectorBlocks s n t).map (·.1)

/-- The containing-sector set of an angle: flag n is true when sector n exists, the angle is valid and
the sector contains it (R68). -/
def containingSet (sectors : List Sector) (angle : Option Nat) : List Bool :=
  (List.range 16).map fun n =>
    match sectors[n]?, angle with
    | some t, some a => t.contains a
    | _, _ => false

/-! ### Slots (R134) -/

def noMotions : PerMotion Bool := ⟨false, false, false, false⟩
def allMotions : PerMotion Bool := ⟨true, true, true, true⟩

/-- The attributes built into the part for slots 0..11 (R134). -/
def internalAttrs (cls : AlarmClass) (latched : Bool) (motions : PerMotion Bool) : Attrs :=
  { cls := cls, motions := motions, derate := 0, latched := latched, notify := true, delay := 0,
    output := none }

/-- The attributes of an internal slot, by the table of R134. -/
def internalSlot (n : Nat) : Attrs :=
  match n with
  | 0 => internalAttrs .stop true allMotions
  | 1 => internalAttrs .stop true { noMotions with hoist := true }
  | 2 => internalAttrs .stop true { noMotions with drag := true }
  | 3 => internalAttrs .stop true { noMotions with swing := true }
  | 4 => internalAttrs .stop true { noMotions with propel := true }
  | 8 => internalAttrs .trip true allMotions
  | 9 => internalAttrs .advise true noMotions
  | 11 => internalAttrs .advise true noMotions
  | _ => internalAttrs .advise false noMotions

/-- Attributes without an output, for an entry whose slot has no definition. -/
def plainAttrs : Attrs := internalAttrs .advise false noMotions

/-- The attributes of a slot: built in for 0..11, of definition n − 12 for a loaded slot, none where
there is no definition (R134). -/
def attrsOf (s : State) (n : Nat) : Option Attrs :=
  if n < 12 then some (internalSlot n) else ((definitionsOf s)[n - 12]?).map (·.attrs)

/-- Whether a slot is in use: internal, or a bound definition (R134, R137). -/
def slotInUse (s : State) (n : Nat) : Bool := n < 12 || s.alarm.bound.getD (n - 12) false

/-- The SILENT slot of a drive (R19). -/
def silentSlot : Motion → Nat
  | .hoist => 1
  | .drag => 2
  | .swing => 3
  | .propel => 4

def slotOf (s : State) (n : Nat) : Slot := s.alarm.slots.getD n Slot.start

/-- The entry of a slot on the active list. -/
def entryOf (s : State) (n : Nat) : Option Entry := s.alarm.list.find? (·.slot == n)

/-- The class of an entry's slot. -/
def classOf (s : State) (e : Entry) : AlarmClass :=
  match attrsOf s e.slot with
  | some a => a.cls
  | none => .advise

/-- Whether an entry of a class is listed, whatever its state (R50). -/
def classListed (s : State) (c : AlarmClass) : Bool := s.alarm.list.any fun e => classOf s e == c

/-- The entries of a class that name a motion (R50). -/
def listedNaming (s : State) (c : AlarmClass) (m : Motion) : List Attrs :=
  (s.alarm.list.filterMap fun e => attrsOf s e.slot).filter fun a => a.cls == c && a.motions.get m

/-! ### Owners of station outputs (R128) -/

/-- Whether a usable WALK table binds a command to the channel (R88, R128). -/
def walkOwns (s : State) (b : Binding) : Bool :=
  match usableWalk s with
  | some w => w.digCommand == b || w.walkCommand == b
  | none => false

/-- Whether a bound definition names the channel as its output (R128, R148). -/
def alarmOwns (s : State) (b : Binding) : Bool :=
  ((definitionsOf s).zipIdx.any fun (d, k) => s.alarm.bound.getD k false && d.attrs.output == some b)

/-- The outputs of the bound definitions, in slot order, but for a channel that a usable WALK table
binds a command to, which the alarm unit sets at no time (R148). -/
def ownedOutputs (s : State) : List Binding :=
  ((definitionsOf s).zipIdx.filterMap fun (d, k) =>
    if s.alarm.bound.getD k false then d.attrs.output else none).filter fun b => !walkOwns s b

/-- The computed value of a channel: energised while a listed entry's definition names it (R148). -/
def computedValue (s : State) (b : Binding) : Bool :=
  s.alarm.list.any fun e =>
    match attrsOf s e.slot with
    | some a => a.output == some b
    | none => false

/-! ### Station line -/

/-- The live record of a table index. -/
def recordOf (s : State) (n : Nat) : Option LiveRecord := s.line.records[n]?

/-- Whether an enrollment sweep is waiting or running (R130). -/
def enrollBusy (s : State) : Bool :=
  s.line.enrollWaiting ||
    match s.line.flight with
    | .enroll _ => true
    | .idle => false
    | .round _ => false

end Sys2Proof.Machine
end

