-- ==== Sys2Proof/Machine/Flags.lean ====
section
/-! DEFINITION. The conditions of the internal slots that are computed from the state (R34, R37, R73,
R121, R135). Slots 0 to 4 and 8 take their conditions from their owners' events (R13, R14, R19, R20,
R108). -/

namespace Sys2Proof.Machine

/-- Slot 5, POSITION LOST (R34). -/
def positionLost (s : State) : Bool := s.position.status == .lost

/-- Whether a usable payout lies beyond a drum's working limits (R37). -/
def beyond (payout : Option Nat) (lo hi : Nat) : Bool :=
  match payout with
  | some p => p < lo || hi < p
  | none => false

/-- Slot 6, TRAVEL LIMIT EXCEEDED (R37); false while no GEOMETRY table is active. -/
def travelExceeded (s : State) : Bool :=
  match s.tables.active.geometry, s.position.working with
  | some _, some w =>
    beyond (usablePayout s .hoist) w.hoistMin w.hoistMax
      || beyond (usablePayout s .drag) w.dragMin w.dragMax
  | _, _ => false

/-- Slot 7, SWING SECTOR ENTERED: the valid angle lies in a blocking sector (R73). -/
def sectorEntered (s : State) : Bool :=
  match s.swing.corrected with
  | some a => (blockingSectors s).any (·.contains a)
  | none => false

/-- Slot 9, STATION MISSING (R121). -/
def stationMissing (s : State) : Bool := s.line.records.any (·.state == .missing)

/-- The number of UNBOUND definitions (R137). -/
def unboundCount (s : State) : Nat :=
  ((definitionsOf s).zipIdx.filter fun (_, k) => !(s.alarm.bound.getD k false)).length

/-- Slot 10, TABLE ABSENT: a kind absent, the WALK table UNUSABLE, or an unbound definition (R135). -/
def tableAbsent (s : State) : Bool :=
  allKinds.any (fun k => (s.tables.active.get k).isNone) || !s.walk.usable || unboundCount s != 0

/-- Slot 11, STORE WRITE FAILED: an item is STALE (R186). An item that failed and is being written again
is WRITING and does not count (R135; log entry 45). -/
def storeFailed (s : State) : Bool :=
  allKinds.any (fun k => s.store.imageStatus.get k == .stale)
    || s.store.keyStatus == .stale || s.store.limitsStatus == .stale

end Sys2Proof.Machine
end

