-- ==== Sys2Proof/Machine/Ops.lean ====
section
/-! DEFINITION. The named operations every command shares: gates, the output queues of the ports
(R7 to R10), hold frames (R16), confirmations (R162, R165), desired outputs (R128), and the life of an
alarm slot (R142 to R151). -/

namespace Sys2Proof.Machine

/-! ### Gates (R57) -/

/-- Close the gates of the motions named; a GATED gate stays GATED. -/
def closeGates (which : PerMotion Bool) (s : State) : State :=
  let close (w : Bool) (g : Gate) : Gate := if w then .gated else g
  let g := s.shaper.gates
  s.withShaper { s.shaper with
    gates := { hoist := close which.hoist g.hoist, drag := close which.drag g.drag,
               swing := close which.swing g.swing, propel := close which.propel g.propel } }

/-! ### Output queues (R7 to R10) -/

/-- Capacities (R7). -/
def driveQueueCap : Nat := 4
def cabQueueCap : Nat := 8

/-- Whether an offered frame replaces a waiting frame of its own kind (R8, R9). -/
def replacesWaiting : FrameKind → Bool
  | .ref => true
  | .stat _ => true
  | .rpt => true
  | .mcnf _ => false
  | .pass => false

/-- Whether an offered frame evicts the oldest PASS frame of a full queue (R8, R9). -/
def evictsPass (k : FrameKind) : Bool := k != .pass

/-- A frame joins a queue (R8, R9): it replaces the waiting frame of its kind, or joins the tail, or
evicts the oldest waiting PASS frame, or is discarded. A full queue always holds a PASS frame for a
frame that may evict one (R8, R9), so the last case is a PASS frame's (log entry 23). -/
def joinQueue (cap : Nat) (f : QFrame) (queue : List QFrame) : List QFrame :=
  if replacesWaiting f.kind && queue.any (·.kind == f.kind) then
    queue.eraseP (·.kind == f.kind) ++ [f]
  else if queue.length < cap then queue ++ [f]
  else if evictsPass f.kind && queue.any (·.kind == .pass) then
    queue.eraseP (·.kind == .pass) ++ [f]
  else queue

/-- An idle transmitter takes the head of its queue (R7). -/
def startNext (p : PortState) : PortState :=
  match p.tx, p.queue with
  | none, f :: rest => { tx := some f, queue := rest }
  | _, _ => p

/-- The transmitter finishes its frame; the head of the queue begins, or the transmitter goes idle
(R7). -/
def completeTx (p : PortState) : PortState := startNext { p with tx := none }

/-- A frame offered to a port: it joins the queue, and an idle transmitter takes it at once (R7). -/
def offerTo (cap : Nat) (f : QFrame) (p : PortState) : PortState :=
  startNext { p with queue := joinQueue cap f p.queue }

/-- Whether the ports take and send (R190, R191). -/
def portsOpen (s : State) : Bool := s.power == .on

/-- Offer a frame to the drive port; a frame offered during a dip is discarded (R191). -/
def offerDrive (f : QFrame) (s : State) : State :=
  if portsOpen s then
    s.withLink { s.link with drivePort := offerTo driveQueueCap f s.link.drivePort }
  else s

/-- Offer a frame to the cab port; a frame offered during a dip is discarded (R191). -/
def offerCab (f : QFrame) (s : State) : State :=
  if portsOpen s then
    s.withLink { s.link with cabPort := offerTo cabQueueCap f s.link.cabPort }
  else s

/-- Whether a deferred confirmation waits in the cab-port queue (R10). -/
def deferredWaiting (s : State) : Bool := s.link.cabPort.queue.any (·.kind == .mcnf true)

/-- Whether an immediate confirmation waits in the cab-port queue (R10, R161). -/
def immediateWaiting (s : State) : Bool := s.link.cabPort.queue.any (·.kind == .mcnf false)

/-- The held deferred confirmation is offered to the cab-port queue (R10). -/
def offerHeld (s : State) : State :=
  match s.link.held with
  | some f => offerCab f (s.withLink { s.link with held := none })
  | none => s

/-- A deferred confirmation is offered at once, or held while another waits (R10; log entry 24). -/
def offerOrHold (f : QFrame) (s : State) : State :=
  if portsOpen s && deferredWaiting s then s.withLink { s.link with held := some f }
  else offerCab f s

/-- A deferred confirmation that has become due (R10): one that is held with no other waiting goes
first, so that they leave in the order of their completions. During a dip it is discarded (R191). -/
def offerDeferred (f : QFrame) (s : State) : State :=
  offerOrHold f (if portsOpen s && !deferredWaiting s then offerHeld s else s)

/-! ### Hold frames (R12, R14, R16) -/

/-- The mode field of a hold frame: DIG in DIG and STARTUP, WALK otherwise (R16). -/
def holdMode (s : State) : Nat :=
  match s.walk.state with
  | .dig => 0
  | .startup => 0
  | .transferOut => 1
  | .walkIdle => 1
  | .stepping => 1
  | .shoeHold => 1
  | .transferBack => 1
  | .transferFault => 1

/-- Build a hold frame and offer it: the last references become 0 (R65) and the origin of the most
recent REF becomes 1 (1.4). -/
def originateHold (s : State) : State :=
  let frame : QFrame :=
    { kind := .ref, bytes := holdFrameBytes (holdMode s) (s.link.lastCycle.getD 0) }
  let s1 := s.withShaper { s.shaper with lastRefs := .const 0 }
  let s2 := offerDrive frame s1
  s2.withLink { s2.link with lastOriginHold := true }

/-- Start or restart the hold timer with the hold interval in force (R12, R17). -/
def startHoldTimer (s : State) : State :=
  s.withLink { s.link with holdTimer := some (plantOf s).holdInterval }

/-! ### Confirmations (R162, R165) -/

/-- Build an MCNF with the deferred-store byte as it stands and make the byte 0; during a dip the
MCNF is discarded as it is offered and the byte is left as it stands (R165, R191). -/
def confirm (deferred : Bool) (code : Nat) (tag : Byte) (outcome : ReqOutcome) (data : List Byte)
    (s : State) : State :=
  let frame : QFrame :=
    { kind := .mcnf deferred
      bytes := buildMcnf code tag (outcomeCode outcome) s.mgmt.deferredStore data }
  if portsOpen s then
    let s1 := s.withMgmt { s.mgmt with deferredStore := 0 }
    if deferred then offerDeferred frame s1 else offerCab frame s1
  else s

/-! ### Live records and desired outputs (R128) -/

/-- Change the live record of a table index; an index the table does not hold has none. -/
def updateRecord (n : Nat) (f : LiveRecord → LiveRecord) (s : State) : State :=
  s.withLine { s.line with records := s.line.records.modify n f }

/-- Set a desired output: the station becomes pending even when the value is the one already desired
(R128). -/
def setDesired (b : Binding) (v : Bool) (s : State) : State :=
  updateRecord b.station (fun r =>
    { r with desired := r.desired.set b.channel (some v), outputPending := true }) s

/-! ### The history log and the notice queue (R151, R154) -/

/-- Capacities (R151, R154). -/
def noticeCap : Nat := 8
def logCap : Nat := 256

/-- Append a log entry; the oldest of 256 is overwritten (R154). -/
def logEvent (kind : LogKind) (slot : Nat) (s : State) : State :=
  let e : LogEntry := { seq := s.alarm.nextSeq, kind := kind, slot := slot, time := s.alarm.time }
  let kept := if s.alarm.log.length < logCap then s.alarm.log else s.alarm.log.drop 1
  s.withAlarm { s.alarm with log := kept ++ [e], nextSeq := s.alarm.nextSeq + 1 }

/-- Offer a slot to the notice queue; a full queue is unchanged (R151). -/
def queueNotice (slot : Nat) (s : State) : State :=
  if s.alarm.notices.length < noticeCap then
    s.withAlarm { s.alarm with notices := s.alarm.notices ++ [slot] }
  else s

/-! ### First-out (R149) -/

/-- Fill an empty first-out record at a raise of class STOP or TRIP (R149). -/
def captureFirstOut (slot : Nat) (cls : AlarmClass) (s : State) : State :=
  if (cls == .stop || cls == .trip) && s.alarm.firstOut.isNone then
    let record : FirstOut :=
      { slot := slot, time := s.alarm.time, status := s.position.status,
        reach := s.position.reach, height := s.position.height, zone := s.position.zone,
        angle := s.swing.corrected, seqState := s.walk.state, sub := s.walk.sub,
        refs := s.shaper.lastRefs }
    s.withAlarm { s.alarm with firstOut := some record }
  else s

/-! ### The life of a slot (R142 to R148) -/

def setSlot (n : Nat) (x : Slot) (s : State) : State :=
  s.withAlarm { s.alarm with slots := s.alarm.slots.set n x }

/-- Bring an owned channel up to date after a raise or a removal that changes its computed value; a
channel the walk sequencer owns is not set (R148). `before` is the computed value before. -/
def updateOutput (output : Option Binding) (before : Bool) (s : State) : State :=
  match output with
  | none => s
  | some b =>
    if computedValue s b != before && !walkOwns s b then setDesired b (computedValue s b) s else s

/-- The computed value of a slot's output, false where it has none. -/
def outputValue (s : State) (output : Option Binding) : Bool :=
  match output with
  | none => false
  | some b => computedValue s b

/-- A raise of slot n, with its attributes, in the six steps of R144. -/
def raiseSlot (n : Nat) (a : Attrs) (s : State) : State :=
  let before := outputValue s a.output
  let entry : Entry := { slot := n, state := .raisedUnack, time := s.alarm.time }
  let s1 := s.withAlarm { s.alarm with list := s.alarm.list ++ [entry] }
  let s2 := logEvent .raise n (setSlot n { slotOf s1 n with delay := none } s1)
  let s3 := captureFirstOut n a.cls s2
  let s4 := if a.cls == .trip then closeGates allMotions s3 else s3
  let s5 := if a.notify then queueNotice n s4 else s4
  updateOutput a.output before s5

/-- Remove the entry of slot n, with its attributes: REMOVE is logged and the slot's output is
brought up to date (R145, R148). -/
def removeEntry (n : Nat) (a : Attrs) (s : State) : State :=
  let before := outputValue s a.output
  let s1 := s.withAlarm { s.alarm with list := s.alarm.list.filter (·.slot != n) }
  updateOutput a.output before (logEvent .remove n s1)

/-- Change the state of slot n's entry at its place, keeping its raise time (R145, R146, R147). -/
def setEntryState (n : Nat) (x : EntryState) (s : State) : State :=
  s.withAlarm { s.alarm with
    list := s.alarm.list.map fun e => if e.slot == n then { e with state := x } else e }

/-- The return of a listed slot's condition (R145). -/
def returnEntry (n : Nat) (a : Attrs) (e : Entry) (s : State) : State :=
  match e.state with
  | .raisedUnack =>
    if a.latched then setEntryState n .returnedUnack (logEvent .return' n s)
    else removeEntry n a (logEvent .return' n s)
  | .raisedAck => removeEntry n a (logEvent .return' n s)
  | .returnedUnack => s

/-- A true evaluation of a listed slot: a re-assertion from RETURNED_UNACK, otherwise nothing
(R142, R146). -/
def reassert (n : Nat) (e : Entry) (s : State) : State :=
  match e.state with
  | .returnedUnack => setEntryState n .raisedUnack s
  | .raisedUnack => s
  | .raisedAck => s

/-- An evaluation of slot n's condition (R142): the value is stored, and the slot acts by its
qualification state. -/
def evaluate (n : Nat) (v : Bool) (s : State) : State :=
  match attrsOf s n with
  | none => s
  | some a =>
    let stored := setSlot n { slotOf s n with condition := v } s
    match entryOf s n with
    | some e => if v then reassert n e stored else returnEntry n a e stored
    | none =>
      if v then
        if (slotOf s n).delay.isSome then stored
        else if a.delay = 0 then raiseSlot n a stored
        else setSlot n { condition := true, delay := some a.delay } stored
      else setSlot n { condition := false, delay := none } stored

/-- Remove the entry of a listed slot with the attributes the slot has (R147, R157). -/
def removeListed (n : Nat) (s : State) : State := removeEntry n ((attrsOf s n).getD plainAttrs) s

/-- What a change of binding does to a loaded slot: its entry is removed, its timer cancelled, its
condition made false (R138). -/
def resetSlot (n : Nat) (s : State) : State :=
  setSlot n .start (if (entryOf s n).isSome then removeListed n s else s)

/-- Evaluate, in slot order, every bound definition for which `value` gives a value from the
definition and its slot's present condition (R139, R140, R141). -/
def evaluateBound (value : AlarmDef → Bool → Option Bool) (s : State) : State :=
  (definitionsOf s).zipIdx.foldl (fun acc (d, k) =>
    if acc.alarm.bound.getD k false then
      match value d (slotOf acc (12 + k)).condition with
      | some v => evaluate (12 + k) v acc
      | none => acc
    else acc) s

/-- The value of a ZONE source at a hand-off of the position (R141). -/
def zoneSource (p : Option HandedPosition) (d : AlarmDef) (_ : Bool) : Option Bool :=
  match d.source with
  | .zone z => some ((p.map (·.zone)) == some z)
  | _ => none

/-- The value of a SECTOR source at a hand-off of the containing-sector set (R141). -/
def sectorSource (set : List Bool) (d : AlarmDef) (_ : Bool) : Option Bool :=
  match d.source with
  | .sector n => some (set.getD n false)
  | _ => none

/-- A DRIVE_VALUE source: the value against the threshold, with hysteresis (R140). -/
def thresholdSource (below : Bool) (threshold hysteresis value : Int) (present : Bool) : Bool :=
  if below then
    if value < threshold then true
    else if threshold + hysteresis ≤ value then false
    else present
  else
    if threshold < value then true
    else if value ≤ threshold - hysteresis then false
    else present

/-- The value of a drive source at a delivery of a STAT from a drive (R140). -/
def driveSource (m : Motion) (p : StatPayload) (d : AlarmDef) (present : Bool) : Option Bool :=
  match d.source with
  | .driveFlag m' n => if m' = m then some (p.faults.getLsbD n) else none
  | .driveValue m' loop below t h =>
    if m' = m then some (thresholdSource below t h (if loop then p.voltage else p.current) present)
    else none
  | _ => none

/-- The value of a station source at a round completion: its station read successfully in the round
(R139). -/
def stationSource (s : State) (readOk : List Nat) (d : AlarmDef) (_ : Bool) : Option Bool :=
  match d.source with
  | .stationLevel b polarity =>
    match recordOf s b.station with
    | some r =>
      if readOk.contains b.station then
        match r.levels.get b.channel with
        | some high => some (high == polarity)
        | none => none
      else none
    | none => none
  | .stationEdge b =>
    match recordOf s b.station with
    | some r => if readOk.contains b.station then some (r.latches.get b.channel) else none
    | none => none
  | _ => none

/-! ### Binding (R137, R138) -/

/-- Whether a loaded definition is bound (R137). -/
def isBound (s : State) (d : AlarmDef) : Bool :=
  let sourceOk := match d.source with
    | .stationLevel b _ => b.station < stationCount s
    | .stationEdge b => b.station < stationCount s
    | .sector n => n < (sectorsOf s).length
    | .driveFlag _ _ => true
    | .driveValue _ _ _ _ _ => true
    | .zone _ => true
  let outputOk := match d.attrs.output with
    | some b => b.station < stationCount s && !walkOwns s b
    | none => true
  sourceOk && outputOk

/-- Settle the binding of every loaded definition: one that becomes UNBOUND loses its entry, timer and
condition; one that becomes bound starts IDLE (R138). Several are dealt with in slot order, an order that
R138 does not give (log entry 44). -/
def settleBinding (s : State) : State :=
  let now := (definitionsOf s).map (isBound s)
  let s1 := (definitionsOf s).zipIdx.foldl (fun acc (_, k) =>
    if acc.alarm.bound.getD k false != now.getD k false then resetSlot (12 + k) acc else acc) s
  s1.withAlarm { s1.alarm with bound := now }

/-! ### Retained writes (R187) -/

/-- Whether a retained write of any item is in flight. -/
def writing (s : State) : Bool := s.store.inFlight.isSome

/-- Start a retained write: the value is held by the store, the item has no valid copy and is WRITING
until the completion (R186, R187). -/
def startWrite (w : Write) (s : State) : State :=
  let st := { s.store with inFlight := some w }
  s.withStore <|
    match w with
    | .image k _ =>
      { st with images := st.images.set k none, imageStatus := st.imageStatus.set k .writing }
    | .key _ => { st with keyCopy := none, keyStatus := .writing }
    | .limits _ => { st with limitsCopy := none, limitsStatus := .writing }

end Sys2Proof.Machine
end

