-- ==== Sys2Proof/Machine/Swing.lean ====
section
/-! DEFINITION. The swing unit (Chapter 4): the corrected angle, the derived state, the clearance of
HEIGHT sectors, the held load, and the swing direction limits. -/

namespace Sys2Proof.Machine

/-- The origin in force: 0 while no SWING table is active (R66). -/
def swingOrigin (s : State) : Nat :=
  match swingOf s with
  | some t => t.origin
  | none => 0

/-- The corrected angle of a raw one, (raw + 36 000 − origin) mod 36 000 (R66). -/
def correctedAngle (origin raw : Nat) : Nat := (raw + 36000 - origin) % 36000

/-- Steps 1 and 2 of R68: the containing-sector set and the condition of slot 7. -/
def refreshSectors (s : State) : State :=
  let s1 := s.withSwing { s.swing with containing := containingSet (sectorsOf s) s.swing.corrected }
  evaluate 7 (sectorEntered s1) s1

/-- Hand the containing-sector set to the alarm unit, which keeps it (R68 step 3, R141). -/
def keepSectorSet (s : State) : State :=
  s.withAlarm { s.alarm with lastContaining := s.swing.containing }

/-- Step 3 of R68: the set is handed on and the SECTOR sources are evaluated (R141). -/
def handSectors (s : State) : State :=
  evaluateBound (sectorSource s.swing.containing) (keepSectorSet s)

/-- Set the raw angle and the corrected one derived from it, and bring the derived state up to date
(R66, R67, R68). -/
def setAngle (raw : Option Nat) (s : State) : State :=
  let s1 := s.withSwing { s.swing with
    raw := raw, corrected := raw.map (correctedAngle (swingOrigin s)) }
  handSectors (refreshSectors s1)

/-- A STAT from SWING (R66): the raw angle is kept when it is valid and below 36 000. -/
def deliverSwing (p : StatPayload) (s : State) : State :=
  setAngle (if p.valid && p.position < 36000 then some p.position else none) s

/-- The new clearance of a HEIGHT sector (R72): `m` its minimum height, `h` the hysteresis. -/
def newClearance (p : Option HandedPosition) (m h : Int) (old : Bool) : Bool :=
  match p with
  | none => false
  | some q => if m ≤ q.height then true else if q.height < m - h then false else old

/-- The clearance flags after a hand-off of the position (R72). -/
def clearanceAfter (p : Option HandedPosition) (s : State) : List Bool :=
  match swingOf s with
  | none => s.swing.clear
  | some t => (List.range 16).map fun n =>
    let old := s.swing.clear.getD n false
    match t.sectors[n]? with
    | some sec =>
      if sec.cls = .height then newClearance p sec.minHeight (t.hysteresis : Int) old else old
    | none => old

/-- Re-evaluate every HEIGHT sector; a change brings the derived state up to date (R72, R68). -/
def updateClearance (p : Option HandedPosition) (s : State) : State :=
  let after := clearanceAfter p s
  if after = s.swing.clear then s
  else refreshSectors (s.withSwing { s.swing with clear := after })

/-- A STAT from HOIST at the swing unit (R74). -/
def deliverLoad (p : StatPayload) (s : State) : State :=
  if p.brakeSet then s
  else s.withSwing { s.swing with heldLoad := min p.current.natAbs 2000 }

/-! ### The swing direction limits (R75 to R82) -/

/-- The load curve at a held load (R75). Division is floor division. -/
def loadCurve : List (Nat × Nat) → Nat → Nat
  | [], _ => 1000
  | [(_, y)], _ => y
  | (x1, y1) :: (x2, y2) :: rest, x =>
    if x ≤ x1 then y1
    else if x < x2 then
      ((y1 : Int) + ((x : Int) - x1) * ((y2 : Int) - y1) / ((x2 : Int) - x1)).toNat
    else loadCurve ((x2, y2) :: rest) x

/-- The zone swing term (R77). -/
def zoneSwingTerm (s : State) : Nat :=
  match zoneInForce s with
  | some z => z.swingLimit
  | none => (plantOf s).blindCreep

/-- The SLOW terms: the limit of each SLOW sector that contains the angle (R78). -/
def slowTerms (t : SwingTable) (angle : Nat) : List Nat :=
  (t.sectors.filter fun sec => sec.cls == .slow && sec.contains angle).map (·.limit)

/-- The approach terms of a direction: one for each blocking sector that does not contain the angle
(R79). -/
def swingApproachTerms (s : State) (t : SwingTable) (angle : Nat) (clockwise : Bool) : List Nat :=
  ((blockingSectors s).filter fun sec => !sec.contains angle).map fun sec =>
    let distance := if clockwise then arc angle sec.start else arc sec.stop angle
    min 1000 (distance * t.gain / 100)

/-- The inside-sector term (R80). -/
def insideTerms (s : State) (t : SwingTable) (angle : Nat) : List Nat :=
  if (blockingSectors s).any (·.contains angle) then [t.creep] else []

/-- The walk term (R81). -/
def walkSwingTerms (s : State) : List Nat :=
  if s.walk.state = .walkIdle ∧ s.walk.cam = .clear then
    match walkOf s with
    | some w => [w.walkSwingLimit]
    | none => []
  else []

/-- The terms of one swing direction, by the table of R76. -/
def swingTerms (s : State) (clockwise : Bool) : List Nat :=
  zoneSwingTerm s :: walkSwingTerms s ++
    match swingOf s with
    | none => [(plantOf s).blindCreep]
    | some t =>
      loadCurve t.points s.swing.heldLoad ::
        match s.swing.corrected with
        | none => [(plantOf s).blindCreep]
        | some a => slowTerms t a ++ swingApproachTerms s t a clockwise ++ insideTerms s t a

/-- The minimum of 1000 and a list of terms (R46, R76). -/
def minTerms (terms : List Nat) : Nat := terms.foldl min 1000

/-- The swing unit's limit of a direction (R76). -/
def swingLimit (s : State) (clockwise : Bool) : Nat := minTerms (swingTerms s clockwise)

/-! ### Commit (R83) -/

/-- What the swing unit and the alarm unit's kept set do at a SWING commit, steps 1 to 3 of R83: the
angle corrected anew, every HEIGHT sector blocking, the derived state up to date, the set kept. -/
def swingCommitAngle (s : State) : State :=
  let s1 := s.withSwing { s.swing with
    corrected := s.swing.raw.map (correctedAngle (swingOrigin s))
    clear := List.replicate 16 false }
  keepSectorSet (refreshSectors s1)

end Sys2Proof.Machine
end

