-- ==== Sys2Proof/Machine/Position.lean ====
section
/-! DEFINITION. The position unit (Chapter 2): payout records, the computation attempt, the position
status, the hand-off, and the travel limits. -/

namespace Sys2Proof.Machine

/-! ### The hand-off (R33) -/

/-- Hand the position to the swing unit and then to the alarm unit, which keeps it, evaluates its
ZONE sources and the conditions of slots 5 and 6 (R33, R34, R37, R141). -/
def handPosition (s : State) : State :=
  let p := presentPosition s
  let s1 := updateClearance p s
  let s2 := s1.withAlarm { s1.alarm with lastPosition := p }
  let s3 := evaluateBound (zoneSource p) s2
  let s4 := evaluate 5 (positionLost s3) s3
  evaluate 6 (travelExceeded s4) s4

/-! ### The computation (R28 to R31) -/

/-- The cell on one axis: index and fraction after saturation, and whether the axis saturated
(R29). -/
def axisCell (payout spacing : Nat) : Nat × Nat × Bool :=
  if 63 ≤ payout / spacing then (62, spacing, true) else (payout / spacing, payout % spacing, false)

/-- The weighted mean of four corner values, rounded to the nearest with an exact half toward plus
infinity (R30). `sh`, `sd` are the spacings, `fh`, `fd` the fractions. -/
def interpolate (sh sd fh fd : Nat) (v00 v10 v01 v11 : Int) : Int :=
  let area : Int := (sh * sd : Nat)
  let sum := v00 * ((sh - fh) * (sd - fd) : Nat) + v10 * (fh * (sd - fd) : Nat)
    + v01 * ((sh - fh) * fd : Nat) + v11 * (fh * fd : Nat)
  (sum + area / 2) / area

/-- A resolved attempt (R31). -/
structure Resolved where
  reach  : Int
  height : Int
  zone   : Nat
  edge   : Bool
deriving DecidableEq, Repr

/-- The values of an attempt with both payouts usable: none where a corner is infeasible (R28 to
R31). -/
def resolveAt (image : Image) (ph pd : Nat) : Option Resolved :=
  let g := readGeometry image
  let sh := 2 ^ g.kh
  let sd := 2 ^ g.kd
  let (i, fh, eh) := axisCell ph sh
  let (j, fd, ed) := axisCell pd sd
  let n00 := nodeAt image i j
  let n10 := nodeAt image (i + 1) j
  let n01 := nodeAt image i (j + 1)
  let n11 := nodeAt image (i + 1) (j + 1)
  if n00.feasible && n10.feasible && n01.feasible && n11.feasible then
    some { reach := interpolate sh sd fh fd n00.reach n10.reach n01.reach n11.reach
           height := interpolate sh sd fh fd n00.height n10.height n01.height n11.height
           zone := n00.zone
           edge := eh || ed }
  else none

/-- The attempt's outcome from the payout records as they stand (R28). -/
def attempt (s : State) (image : Image) : Option Resolved :=
  match usablePayout s .hoist, usablePayout s .drag with
  | some ph, some pd => resolveAt image ph pd
  | _, _ => none

/-- The status and count after an unresolved attempt, with the unresolved limit N (R32). -/
def unresolvedMove (limit : Nat) : PosStatus → Nat → PosStatus × Nat
  | .none, c => if c + 1 = limit then (.lost, c + 1) else (.none, c + 1)
  | .resolved, _ => if 1 = limit then (.lost, 1) else (.held, 1)
  | .held, c => if c + 1 = limit then (.lost, c + 1) else (.held, c + 1)
  | .lost, c => (.lost, c)

/-- The position record after an attempt (R31, R32). -/
def afterAttempt (limit : Nat) (r : Option Resolved) (p : PositionUnit) : PositionUnit :=
  match r with
  | some r => { p with reach := r.reach, height := r.height, zone := r.zone, edge := r.edge,
                       status := .resolved, count := 0 }
  | none => { p with status := (unresolvedMove limit p.status p.count).1
                     count := (unresolvedMove limit p.status p.count).2 }

/-- A computation attempt and its hand-off, while a GEOMETRY table is active (R25, R28, R33). -/
def makeAttempt (s : State) : State :=
  match s.tables.active.geometry with
  | none => s
  | some image =>
    handPosition (s.withPosition
      (afterAttempt (readGeometry image).unresolved (attempt s image) s.position))

/-- Write a drum's payout record from a STAT (R26). -/
def writePayout (m : Motion) (p : StatPayload) (s : State) : State :=
  let r : PayoutRecord := { payout := some p.position, valid := p.valid }
  match m with
  | .hoist => s.withPosition { s.position with hoistPayout := r }
  | .drag => s.withPosition { s.position with dragPayout := r }
  | .swing => s
  | .propel => s

/-- A STAT from HOIST or DRAG at the position unit: the record is written, slot 6 re-evaluated (R37),
an attempt made (R26, R28). -/
def deliverPayout (m : Motion) (p : StatPayload) (s : State) : State :=
  let s1 := writePayout m p s
  makeAttempt (evaluate 6 (travelExceeded s1) s1)

/-! ### Travel limits (R36, R43) -/

/-- A bound raised to the native min or lowered to the native max (R36). -/
def clampBound (lo hi n : Nat) : Nat := if n < lo then lo else if hi < n then hi else n

/-- A drum's pair clamped into its native range (R36). -/
def clampPair (lo hi a b : Nat) : Nat × Nat :=
  if clampBound lo hi a < clampBound lo hi b then (clampBound lo hi a, clampBound lo hi b)
  else (lo, hi)

/-- Both drums' pairs clamped into the native range (R36). -/
def clampLimits (native w : Limits) : Limits :=
  let h := clampPair native.hoistMin native.hoistMax w.hoistMin w.hoistMax
  let d := clampPair native.dragMin native.dragMax w.dragMin w.dragMax
  { hoistMin := h.1, hoistMax := h.2, dragMin := d.1, dragMax := d.2 }

/-- The working limits where none were in force: the valid retained set clamped, or the native limits
(R36, R43). -/
def limitsFromStore (s : State) (native : Limits) : Limits :=
  match s.store.limitsCopy with
  | some w => clampLimits native w
  | none => native

/-- The working limits a power-on start settles (R36). -/
def startLimits (s : State) : Option Limits := (geometryOf s).map fun g => limitsFromStore s g.native

/-- The working limits a GEOMETRY commit settles (R43 step 2). -/
def commitLimits (s : State) : Option Limits :=
  (geometryOf s).map fun g =>
    match s.position.working with
    | some w => clampLimits g.native w
    | none => limitsFromStore s g.native

/-- The position record with no position (R32): status NONE, count 0, values 0. -/
def noPosition (p : PositionUnit) : PositionUnit :=
  { p with status := .none, count := 0, reach := 0, height := 0, zone := 0, edge := false }

/-- The effects of a GEOMETRY commit, once the new table is active (R43). -/
def geometryCommit (s : State) : State :=
  let s1 := s.withPosition { noPosition s.position with working := commitLimits s }
  let s2 := closeGates { noMotions with hoist := true, drag := true } s1
  handPosition s2

end Sys2Proof.Machine
end

