-- ==== Sys2Proof/Machine/Walk.lean ====
section
/-! DEFINITION. The walk sequencer (Chapter 5): usability, cam phase and step count, command outputs
and feedback, the round steps, and the rules of a reference frame. -/

namespace Sys2Proof.Machine

/-! ### Usability (R88) -/

/-- Whether the active WALK table is usable against the active STATION table (R88). -/
def walkUsable (s : State) : Bool :=
  match walkOf s, stationOf s with
  | some w, some t => (walkBindings w).all fun b => b.station < t.ids.length
  | _, _ => false

/-- Settle the usability (R88). -/
def settleUsability (s : State) : State := s.withWalk { s.walk with usable := walkUsable s }

/-! ### Command outputs and feedback (R92, R93) -/

/-- The desired DIG and WALK commands of a state and sub-step, by the table at the head of Chapter 5;
none in STARTUP. -/
def desiredCommands : SeqState → SubStep → Option (Bool × Bool)
  | .startup, _ => none
  | .dig, _ => some (true, false)
  | .transferOut, .closingWalk => some (false, true)
  | .transferOut, _ => some (false, false)
  | .walkIdle, _ => some (false, true)
  | .stepping, _ => some (false, true)
  | .shoeHold, _ => some (false, true)
  | .transferBack, .closingDig => some (true, false)
  | .transferBack, _ => some (false, false)
  | .transferFault, _ => some (false, false)

/-- Set the desired outputs of the two command bindings as the present state requires, while the WALK
table is usable (R92). -/
def setCommands (s : State) : State :=
  match usableWalk s, desiredCommands s.walk.state s.walk.sub with
  | some w, some (dig, walk) => setDesired w.walkCommand walk (setDesired w.digCommand dig s)
  | _, _ => s

/-- A feedback as read (R93). -/
inductive Feedback where
  | closed
  | opened
  | unknown
deriving DecidableEq, Repr

/-- The data of a round completion, as the walk sequencer takes it (R127). -/
def deliveredNow (s : State) : List Delivered :=
  s.line.records.map fun r => { state := r.state, levels := r.levels }

/-- A feedback as last delivered at a round completion (R93). -/
def feedback (s : State) (b : Binding) : Feedback :=
  match s.walk.delivered[b.station]? with
  | some d =>
    if d.state = .present then
      match d.levels.get b.channel with
      | some true => .closed
      | some false => .opened
      | none => .unknown
    else .unknown
  | none => .unknown

/-- Whether a command is settled to a desired state (R93): its station PRESENT, no output pending, the
output held equal to the state. -/
def settled (s : State) (b : Binding) (v : Bool) : Bool :=
  match recordOf s b.station with
  | some r => r.state == .present && !r.outputPending && r.held.get b.channel == some v
  | none => false

/-- Whether a command is found unsettled at a round completion (R92): its station PRESENT, no output
pending, the output held other than the desired one. -/
def unsettled (s : State) (b : Binding) (v : Bool) : Bool :=
  match recordOf s b.station with
  | some r => r.state == .present && !r.outputPending && r.held.get b.channel == some (!v)
  | none => false

/-- Whether both feedbacks are open, as last delivered. -/
def bothOpen (s : State) (w : WalkTable) : Bool :=
  feedback s w.digFeedback == .opened && feedback s w.walkFeedback == .opened

/-- Whether both commands are settled de-energised. -/
def bothSettledOff (s : State) (w : WalkTable) : Bool :=
  settled s w.digCommand false && settled s w.walkCommand false

/-! ### Changes of state (R92, R96, R104, R108) -/

/-- Enter a state and sub-step: the transfer timer runs exactly in a sub-step (R96), and the desired
commands are set (R92). -/
def enterState (state : SeqState) (sub : SubStep) (s : State) : State :=
  let timer : Timer := match sub with
    | .none => none
    | .openingDig => (walkOf s).map (·.stepTimeout)
    | .closingWalk => (walkOf s).map (·.stepTimeout)
    | .openingWalk => (walkOf s).map (·.stepTimeout)
    | .closingDig => (walkOf s).map (·.stepTimeout)
  setCommands (s.withWalk { s.walk with state := state, sub := sub, transferTimer := timer })

/-- The state becomes TRANSFER_FAULT (R108): commands de-energised, timer cancelled, gates closed
(R104), the condition of slot 8 true. -/
def enterFault (s : State) : State :=
  evaluate 8 true (closeGates allMotions (enterState .transferFault .none s))

def propelSwingMotions : PerMotion Bool := { noMotions with propel := true, swing := true }
def swingMotion : PerMotion Bool := { noMotions with swing := true }

/-- Complete a transfer out: WALK_IDLE, the PROPEL and SWING gates close (R100, R104). -/
def completeOut (s : State) : State := closeGates propelSwingMotions (enterState .walkIdle .none s)

/-- Complete a return: DIG, all four gates close (R107, R104). -/
def completeBack (s : State) : State := closeGates allMotions (enterState .dig .none s)

/-! ### Cam phase and step count (R90, R91, R105) -/

/-- The cam phase of an angle (R90); UNKNOWN from 3600 on and while no WALK table is active. -/
def camPhaseOf (w : Option WalkTable) (valid : Bool) (angle : Nat) : CamPhase :=
  match w with
  | none => .unknown
  | some w =>
    if !valid || 3600 ≤ angle then .unknown
    else if angle < w.c1 || w.c4 ≤ angle then .clear
    else if angle < w.c2 then .bearing
    else if angle < w.c3 then .carried
    else .setting

/-- Set the cam phase, count a step on SETTING to CLEAR (R91), and apply the rules of WALK_IDLE and
SHOE_HOLD (R105). -/
def setCam (phase : CamPhase) (s : State) : State :=
  let before := s.walk.cam
  let count := if before = .setting ∧ phase = .clear then s.walk.stepCount + 1 else s.walk.stepCount
  let s1 := s.withWalk { s.walk with cam := phase, stepCount := count }
  if s.walk.state = .walkIdle ∧ before ≠ .clear ∧ phase = .clear then closeGates swingMotion s1
  else if s.walk.state = .shoeHold ∧ phase = .clear then
    closeGates swingMotion (enterState .walkIdle .none s1)
  else s1

/-- A STAT from PROPEL (R90). -/
def deliverCam (p : StatPayload) (s : State) : State :=
  setCam (camPhaseOf (walkOf s) p.valid p.position) s

/-! ### The round steps (R93, R95) -/

/-- Whether a station of the four bindings is UNSEEN (R95). -/
def bindingUnseen (s : State) (w : WalkTable) : Bool :=
  (walkBindings w).any fun b =>
    match recordOf s b.station with
    | some r => r.state == .unseen
    | none => true

/-- Whether a command station is MISSING (R95). -/
def commandMissing (s : State) (w : WalkTable) : Bool :=
  [w.digCommand, w.walkCommand].any fun b =>
    match recordOf s b.station with
    | some r => r.state == .missing
    | none => false

/-- A command output as the live record holds it (R95). -/
def commandHeld (s : State) (b : Binding) : Option Bool :=
  match recordOf s b.station with
  | some r => r.held.get b.channel
  | none => none

/-- The STARTUP decision with a usable table, by the table of R95. -/
def startupDecision (s : State) (w : WalkTable) : State :=
  let dig := commandHeld s w.digCommand
  let walk := commandHeld s w.walkCommand
  let fd := feedback s w.digFeedback
  let fw := feedback s w.walkFeedback
  if bindingUnseen s w then s
  else if commandMissing s w then enterFault s
  else if dig = some true ∧ walk = some true then enterFault s
  else if fd = .unknown ∨ fw = .unknown then enterFault s
  else if dig = some true ∧ walk = some false ∧ fd = .closed ∧ fw = .opened then
    enterState .dig .none s
  else if dig = some false ∧ walk = some true ∧ fw = .closed ∧ fd = .opened then
    if s.walk.cam = .clear then enterState .walkIdle .none s else enterState .shoeHold .none s
  else enterFault s

/-- Steps 2 to 4 of R93: at most one change of state or sub-step. -/
def roundAdvance (s : State) (w : WalkTable) : State :=
  let fd := feedback s w.digFeedback
  let fw := feedback s w.walkFeedback
  if fd = .closed ∧ fw = .closed then enterFault s
  else match s.walk.state, s.walk.sub with
    | .dig, _ => if fw = .closed then enterFault s else s
    | .walkIdle, _ => if fd = .closed then enterFault s else s
    | .stepping, _ => if fd = .closed then enterFault s else s
    | .shoeHold, _ => if fd = .closed then enterFault s else s
    | .transferOut, .openingDig =>
      if fd = .opened ∧ fw = .opened ∧ bothSettledOff s w then enterState .transferOut .closingWalk s
      else s
    | .transferOut, .closingWalk =>
      if fw = .closed ∧ fd = .opened ∧ settled s w.walkCommand true then completeOut s else s
    | .transferBack, .openingWalk =>
      if fw = .opened ∧ fd = .opened ∧ bothSettledOff s w then enterState .transferBack .closingDig s
      else s
    | .transferBack, .closingDig =>
      if fd = .closed ∧ fw = .opened ∧ settled s w.digCommand true then completeBack s else s
    | _, _ => s

/-- Step 5 of R93: in TRANSFER_FAULT since before this completion, slot 8's condition becomes false
when both feedbacks are open (R108). -/
def faultReturn (before : SeqState) (s : State) (w : WalkTable) : State :=
  if before = .transferFault ∧ bothOpen s w then evaluate 8 false s else s

/-- Whether unsettled commands are requested again in a state (R92). -/
def rewrites : SeqState → Bool
  | .dig => true
  | .walkIdle => true
  | .stepping => true
  | .shoeHold => true
  | .startup => false
  | .transferOut => false
  | .transferBack => false
  | .transferFault => false

/-- Step 6 of R93: an unsettled command is set again to its desired state (R92). -/
def requestAgain (s : State) (w : WalkTable) : State :=
  match desiredCommands s.walk.state s.walk.sub with
  | some (dig, walk) =>
    if rewrites s.walk.state then
      let s1 := if unsettled s w.digCommand dig then setDesired w.digCommand dig s else s
      if unsettled s w.walkCommand walk then setDesired w.walkCommand walk s1 else s1
    else s
  | none => s

/-- The walk sequencer at a scan round completion (R93, R95). -/
def walkRound (s : State) : State :=
  let s0 := s.withWalk { s.walk with delivered := deliveredNow s }
  match usableWalk s0 with
  | none => if s.walk.state = .startup then enterState .dig .none s0 else s0
  | some w =>
    if s.walk.state = .startup then startupDecision s0 w
    else requestAgain (faultReturn s.walk.state (roundAdvance s0 w) w) w

/-! ### Reference frames at the sequencer (R94 to R109) -/

/-- Whether a reference lies within the neutral band in force (R94). -/
def inBand (s : State) (r : Int) : Bool := r.natAbs ≤ (plantOf s).neutralBand

/-- Whether a propel reference is above the band (R94). -/
def aboveBand (s : State) (r : Int) : Bool := (((plantOf s).neutralBand : Nat) : Int) < r

/-- Whether the corrected angle is valid and in the walk window (R86, R97, R101). -/
def inWindow (s : State) (w : WalkTable) : Bool :=
  match s.swing.corrected with
  | some a => arcContains w.windowStart w.windowEnd a
  | none => false

/-- Whether a drive is FRESH with a current not above the threshold (R97 condition 6). -/
def quietDrive (s : State) (w : WalkTable) (m : Motion) : Bool :=
  isFresh s m &&
    match (s.link.drives.get m).current with
    | some c => c.natAbs ≤ w.currentThreshold
    | none => false

/-- Whether the position is RESOLVED in a walk-park zone of an active ZONE table (R97 condition 4). -/
def parked (s : State) : Bool :=
  s.position.status == .resolved &&
    match zoneInForce s with
    | some z => z.walkPark
    | none => false

/-- Whether the stations of all four bindings are PRESENT (R97 condition 8). -/
def bindingsPresent (s : State) (w : WalkTable) : Bool :=
  (walkBindings w).all fun b =>
    match recordOf s b.station with
    | some r => r.state == .present
    | none => false

/-- The walk conditions with their numbers, in order (R97). -/
def walkConditions (s : State) (p : RefPayload) : List (Nat × Bool) :=
  match usableWalk s with
  | none => [(1, false)]
  | some w =>
    [ (1, true),
      (2, !(classListed s .stop || classListed s .trip)),
      (3, inBand s p.refs.hoist && inBand s p.refs.drag && inBand s p.refs.swing),
      (4, parked s),
      (5, inWindow s w),
      (6, quietDrive s w .hoist && quietDrive s w .drag),
      (7, feedback s w.digFeedback == .closed && feedback s w.walkFeedback == .opened),
      (8, bindingsPresent s w) ]

/-- The number of the first condition that fails. -/
def firstFailed (conditions : List (Nat × Bool)) : Option Nat :=
  (conditions.find? fun c => !c.2).map (·.1)

/-- A REF in DIG (R97): the state after, and the refusal code. -/
def refInDig (p : RefPayload) (s : State) : State × Nat :=
  if p.walkMode then
    match firstFailed (walkConditions s p) with
    | some code => (s, code)
    | none => (enterState .transferOut .openingDig s, 0)
  else (s, 0)

/-- A REF in TRANSFER_OUT: mode DIG reverses the transfer (R98, R99, R100). -/
def refInTransferOut (p : RefPayload) (s : State) : State × Nat :=
  if p.walkMode then (s, 0)
  else
    let walkOff : Bool := match usableWalk s with
      | some w => settled s w.walkCommand false
      | none => false
    if s.walk.sub = .openingDig ∧ walkOff then (enterState .transferBack .closingDig s, 0)
    else (enterState .transferBack .openingWalk s, 0)

/-- A REF in WALK_IDLE (R101). -/
def refInWalkIdle (p : RefPayload) (s : State) : State × Nat :=
  if !p.walkMode then
    if s.walk.cam = .clear then (enterState .transferBack .openingWalk s, 0) else (s, 10)
  else if aboveBand s p.refs.propel then
    let window : Bool := match walkOf s with
      | some w => inWindow s w
      | none => false
    if !window then (s, 9)
    else if s.walk.cam ≠ .clear then (s, 10)
    else (enterState .stepping .none s, 0)
  else (s, 0)

/-- The code of STEPPING and SHOE_HOLD: 11 for mode DIG (R102, R103). -/
def stepCode (p : RefPayload) : Nat := if p.walkMode then 0 else 11

/-- A REF in STEPPING (R102). -/
def refInStepping (p : RefPayload) (s : State) : State × Nat :=
  if aboveBand s p.refs.propel then (s, stepCode p)
  else if s.walk.cam = .clear then
    (closeGates swingMotion (enterState .walkIdle .none s), stepCode p)
  else (enterState .shoeHold .none s, stepCode p)

/-- A REF in SHOE_HOLD (R103). -/
def refInShoeHold (p : RefPayload) (s : State) : State × Nat :=
  if aboveBand s p.refs.propel then (enterState .stepping .none s, stepCode p) else (s, stepCode p)

/-- Whether the exit of TRANSFER_FAULT is open (R109). -/
def exitOpen (s : State) : Bool :=
  match usableWalk s with
  | some w => (entryOf s 8).isNone && bothOpen s w && bothSettledOff s w
  | none => false

/-- A REF in TRANSFER_FAULT (R109). -/
def refInFault (p : RefPayload) (s : State) : State × Nat :=
  if !exitOpen s then (s, 13)
  else if !p.walkMode then (enterState .transferBack .closingDig s, 0)
  else
    match firstFailed ((walkConditions s p).filter fun c => c.1 != 7) with
    | some code => (s, code)
    | none => (enterState .transferOut .closingWalk s, 0)

/-- Stage 2 of a REF: the rule of the present state, and the refusal code (R94, R95). -/
def refDecision (p : RefPayload) (s : State) : State × Nat :=
  match s.walk.state with
  | .startup => (s, if p.walkMode then 14 else 0)
  | .dig => refInDig p s
  | .transferOut => refInTransferOut p s
  | .walkIdle => refInWalkIdle p s
  | .stepping => refInStepping p s
  | .shoeHold => refInShoeHold p s
  | .transferBack => (s, if p.walkMode then 12 else 0)
  | .transferFault => refInFault p s

/-- The walk sequencer takes a REF (R5 stage 2, R94). -/
def walkTakesRef (p : RefPayload) (s : State) : State :=
  let d := refDecision p s
  d.1.withWalk { d.1.walk with refusal := d.2 }

/-! ### Commits (R89, R110) -/

/-- The sequencer's part of a WALK or a STATION commit: usability settled, and the commands set as DIG
requires while the table is usable (R89, R110). Both are taken in DIG. -/
def walkSettlesCommit (s : State) : State := setCommands (settleUsability s)

end Sys2Proof.Machine
end

