-- ==== Sys2Proof/Machine/Shaper.lean ====
section
/-! DEFINITION. The reference shaper (Chapter 3): the seven direction limits, the forwarded references,
the brake releases, and the opening of gates. -/

namespace Sys2Proof.Machine

/-! ### Clamping (R45) -/

def clampSigned (r : Int) : Int := if r < -1000 then -1000 else if 1000 < r then 1000 else r
def clampPropel (r : Int) : Int := if r < 0 then 0 else if 1000 < r then 1000 else r

/-- The clamped cab references (R45). -/
def clampRefs (r : PerMotion Int) : PerMotion Int :=
  { hoist := clampSigned r.hoist, drag := clampSigned r.drag, swing := clampSigned r.swing,
    propel := clampPropel r.propel }

/-! ### Terms common to all motions (R49, R50, R51) -/

/-- Walk permission (R51). -/
def walkPermits (s : State) : Motion → Bool
  | .hoist => s.walk.state == .dig
  | .drag => s.walk.state == .dig
  | .swing => s.walk.state == .dig || (s.walk.state == .walkIdle && s.walk.cam == .clear)
  | .propel => s.walk.state == .stepping

/-- The gate term (R49). -/
def gateTerms (s : State) (m : Motion) : List Nat :=
  match s.shaper.gates.get m with
  | .gated => [0]
  | .passing => []

/-- The alarm terms of a motion (R50). -/
def alarmTerms (s : State) (m : Motion) : List Nat :=
  (if classListed s .trip then [0] else [])
    ++ (listedNaming s .stop m).map (fun _ => 0)
    ++ (listedNaming s .restrict m).map (·.derate)

/-- The walk term (R51). -/
def walkTerms (s : State) (m : Motion) : List Nat := if walkPermits s m then [] else [0]

/-- The common terms of a motion (R46). -/
def commonTerms (s : State) (m : Motion) : List Nat :=
  gateTerms s m ++ alarmTerms s m ++ walkTerms s m

/-! ### Hoist and drag terms (R52, R53, R54) -/

/-- The zone terms of the hoist and drag directions; the blind creep where no zone record applies
(R52). -/
def zoneTerms (s : State) : PerDirection :=
  match zoneInForce s with
  | some z => z.limits
  | none =>
    let b := (plantOf s).blindCreep
    { raise := b, lower := b, haulIn := b, payOut := b }

/-- The approach term of a distance (R53). -/
def approachTerm (distance : Int) (gain creep : Nat) : Nat :=
  if distance ≤ 0 then 0 else max creep (min 1000 (distance.toNat * gain / 100))

/-- The approach terms of the hoist and drag directions (R53); a drum whose payout is unusable, and
both drums while no GEOMETRY table is active, take the blind creep (R54). -/
def approachTerms (s : State) : PerDirection :=
  let b := (plantOf s).blindCreep
  match geometryOf s, s.position.working with
  | some g, some w =>
    let hoist : Nat × Nat := match usablePayout s .hoist with
      | some p => (approachTerm ((p : Int) - w.hoistMin) g.gains.raise g.creeps.raise,
                   approachTerm ((w.hoistMax : Int) - p) g.gains.lower g.creeps.lower)
      | none => (b, b)
    let drag : Nat × Nat := match usablePayout s .drag with
      | some p => (approachTerm ((p : Int) - w.dragMin) g.gains.haulIn g.creeps.haulIn,
                   approachTerm ((w.dragMax : Int) - p) g.gains.payOut g.creeps.payOut)
      | none => (b, b)
    { raise := hoist.1, lower := hoist.2, haulIn := drag.1, payOut := drag.2 }
  | _, _ => { raise := b, lower := b, haulIn := b, payOut := b }

/-- The propel term: the WALK table's propel limit while STEPPING (R55). -/
def propelTerms (s : State) : List Nat :=
  if s.walk.state = .stepping then
    match walkOf s with
    | some w => [w.propelLimit]
    | none => []
  else []

/-! ### Direction limits and forwarded references (R46, R47, R48) -/

/-- The seven direction limits (R46). -/
def directionLimits (s : State) : DirLimits :=
  let z := zoneTerms s
  let a := approachTerms s
  { raise := minTerms (commonTerms s .hoist ++ [z.raise, a.raise])
    lower := minTerms (commonTerms s .hoist ++ [z.lower, a.lower])
    haulIn := minTerms (commonTerms s .drag ++ [z.haulIn, a.haulIn])
    payOut := minTerms (commonTerms s .drag ++ [z.payOut, a.payOut])
    cw := minTerms (commonTerms s .swing ++ [swingLimit s true])
    ccw := minTerms (commonTerms s .swing ++ [swingLimit s false])
    step := minTerms (commonTerms s .propel ++ propelTerms s) }

/-- A forwarded reference from a clamped cab reference, the neutral band and the two limits (R47). -/
def forwardRef (band : Nat) (c : Int) (upper lower : Nat) : Int :=
  if c.natAbs ≤ band then 0
  else if 0 < c then min c (upper : Int)
  else max c (-(lower : Int))

/-- The four forwarded references (R47). Propel has no lower limit and is never negative (R45). -/
def forwardRefs (band : Nat) (c : PerMotion Int) (l : DirLimits) : PerMotion Int :=
  { hoist := forwardRef band c.hoist l.raise l.lower
    drag := forwardRef band c.drag l.haulIn l.payOut
    swing := forwardRef band c.swing l.cw l.ccw
    propel := forwardRef band c.propel l.step 0 }

/-- The forwarded brake release of a motion, by the five conditions of R48. -/
def brakeRelease (s : State) (requested : PerMotion Bool) (m : Motion) : Bool :=
  requested.get m
    && s.shaper.gates.get m == .passing
    && (listedNaming s .stop m).isEmpty
    && !classListed s .trip
    && walkPermits s m

/-- The four brake releases (R48). -/
def brakeReleases (s : State) (requested : PerMotion Bool) : PerMotion Bool :=
  { hoist := brakeRelease s requested .hoist, drag := brakeRelease s requested .drag,
    swing := brakeRelease s requested .swing, propel := brakeRelease s requested .propel }

/-- Open the gate of each motion whose clamped reference lies within the neutral band (R58). -/
def openGates (band : Nat) (c : PerMotion Int) (g : PerMotion Gate) : PerMotion Gate :=
  let gate (r : Int) (x : Gate) : Gate := if r.natAbs ≤ band then .passing else x
  { hoist := gate c.hoist g.hoist, drag := gate c.drag g.drag, swing := gate c.swing g.swing,
    propel := gate c.propel g.propel }

/-- What shaping gives the link for the forwarded REF (R44). -/
structure Shaped where
  refs   : PerMotion Int
  brakes : PerMotion Bool
deriving DecidableEq, Repr

/-- The references and brake releases of a REF, from the state as shaping begins (R44). -/
def shape (p : RefPayload) (s : State) : Shaped :=
  { refs := forwardRefs (plantOf s).neutralBand (clampRefs p.refs) (directionLimits s)
    brakes := brakeReleases s p.brakes }

/-- The shaper after a REF: the limits computed, the gates opened that the frame allows (R44, R46,
R58), the last references (R65). -/
def shaperTakesRef (p : RefPayload) (s : State) : State :=
  s.withShaper
    { gates := openGates (plantOf s).neutralBand (clampRefs p.refs) s.shaper.gates
      limits := directionLimits s
      lastRefs := (shape p s).refs }

end Sys2Proof.Machine
end

