-- ==== Sys2Proof/Machine/Report.lean ====
section
/-! DEFINITION. The supervisor report (R21, R22, 10.2). -/

namespace Sys2Proof.Machine

/-- The rank of the highest class among listed entries, 0 when the list is empty (R22). -/
def highestClass (s : State) : Nat :=
  (s.alarm.list.map fun e => classCode (classOf s e)).foldl max 0

/-- Whether an entry counts as unacknowledged (R22). -/
def isUnack (e : Entry) : Bool :=
  match e.state with
  | .raisedUnack => true
  | .returnedUnack => true
  | .raisedAck => false

/-- The unacknowledged count (R22). -/
def unackCount (s : State) : Nat := (s.alarm.list.filter isUnack).length

/-- The class of a slot as a report gives it: 0 while the slot is unused (R22). -/
def reportClass (s : State) (n : Nat) : Nat :=
  if slotInUse s n then
    match attrsOf s n with
    | some a => classCode a.cls
    | none => 0
  else 0

/-- The entry state of a slot as a report gives it: 0, NOT LISTED, without an entry (R22). -/
def reportEntryState (s : State) (n : Nat) : Nat :=
  match entryOf s n with
  | some e => entryStateCode e.state
  | none => 0

/-- The notice part of a report (R22). -/
def noticeBytes (s : State) : Option Nat → List Byte
  | none => u8 0 ++ u8 0 ++ u8 0 ++ u8 0
  | some n => u8 1 ++ u8 n ++ u8 (reportClass s n) ++ u8 (reportEntryState s n)

/-- The payload of an RPT, 41 bytes (R22, 10.2). `originHold` is the origin of the REF offered before
this frame's forwarded REF. -/
def reportPayload (s : State) (cycle : Nat) (originHold : Bool) (notice : Option Nat) : List Byte :=
  u8 cycle ++ flagByte originHold
    ++ u8 (seqStateCode s.walk.state) ++ u8 (subStepCode s.walk.sub) ++ u8 s.walk.refusal
    ++ u8 (posStatusCode s.position.status + 4 * s.position.edge.toNat)
    ++ i16 s.position.reach ++ i16 s.position.height ++ u8 s.position.zone
    ++ optU16 s.swing.corrected ++ u16 (flagBits s.swing.containing) ++ u16 s.swing.heldLoad
    ++ u16 s.shaper.limits.raise ++ u16 s.shaper.limits.lower
    ++ u16 s.shaper.limits.haulIn ++ u16 s.shaper.limits.payOut
    ++ u16 s.shaper.limits.cw ++ u16 s.shaper.limits.ccw ++ u16 s.shaper.limits.step
    ++ fourFlags (s.shaper.gates.hoist == .passing) (s.shaper.gates.drag == .passing)
        (s.shaper.gates.swing == .passing) (s.shaper.gates.propel == .passing)
    ++ u16 s.walk.stepCount.toNat
    ++ u8 s.alarm.list.length ++ u8 (unackCount s) ++ u8 (highestClass s)
    ++ noticeBytes s notice

/-- The RPT that waits in the cab-port queue, if one does (R21). -/
def waitingReport (s : State) : Option QFrame := s.link.cabPort.queue.find? (·.kind == .rpt)

/-- The notice a waiting RPT carries, read from its payload (R21, 10.2). -/
def waitingNotice (s : State) : Option Nat :=
  match waitingReport s with
  | some f => if u8At (framePayload f.bytes) 37 = 1 then some (u8At (framePayload f.bytes) 38) else none
  | none => none

/-- The notice of the report about to be built, and the state with the notice queue after it (R21):
the slot of the waiting RPT it replaces, or else the head of the notice queue. -/
def takeNotice (s : State) : Option Nat × State :=
  match waitingNotice s with
  | some n => (some n, s)
  | none =>
    match s.alarm.notices with
    | n :: rest => (some n, s.withAlarm { s.alarm with notices := rest })
    | [] => (none, s)

/-- Stage 5 of a REF: the report is built and offered to the cab port (R21). -/
def sendReport (cycle : Nat) (originHold : Bool) (s : State) : State :=
  let t := takeNotice s
  offerCab { kind := .rpt, bytes := buildRpt (reportPayload t.2 cycle originHold t.1) } t.2

end Sys2Proof.Machine
end

