-- ==== Sys2Proof/Machine/Line.lean ====
section
/-! DEFINITION. The station line controller (Chapter 6): sweep passes, live records, the five steps of
a scan round, the enrollment sweep. -/

namespace Sys2Proof.Machine

/-! ### One pass of a sweep (R116, R117) -/

/-- The bit the part sends at a position where both values are present (R117). -/
def chosenBit (sweep : Sweep) (position : Nat) : Bool :=
  match sweep.marker with
  | none => false
  | some m =>
    if m < position then sweep.previous.getLsbD position
    else if position = m then true
    else false

/-- The bit sent in a slot from its two reads, with whether both values were present; none where no
participant is present and the pass ends (R116). -/
def slotBit (sweep : Sweep) (position : Nat) (reads : Bool × Bool) : Option (Bool × Bool) :=
  match reads with
  | (false, true) => some (false, false)
  | (true, false) => some (true, false)
  | (false, false) => some (chosenBit sweep position, true)
  | (true, true) => none

/-- The slots of a pass from position n − 1 down: the identity bits sent, and the lowest position at
which 0 was sent with both values present. A slot with no read is one in which nobody answered
(log entry 11). -/
def passSlots (sweep : Sweep) : (n : Nat) → List (Bool × Bool) → (sent : Nat) → (low : Option Nat) →
    Option (Nat × Option Nat)
  | 0, _, sent, low => some (sent, low)
  | n + 1, reads, sent, low =>
    match slotBit sweep n (reads.headD (true, true)) with
    | none => none
    | some (bit, both) =>
      passSlots sweep n reads.tail (2 * sent + bit.toNat) (if both && !bit then some n else low)

/-- A pass of a sweep (R116): the identity it yields and the marker after it, or none where the pass
ends without an identity. -/
def runPass (sweep : Sweep) : PassAnswer → Option (Identity × Option Nat)
  | .noPulse => none
  | .slots reads =>
    (passSlots sweep 48 reads 0 none).map fun r => (BitVec.ofNat 48 r.1, r.2)

/-- A sweep before its first pass (R117). -/
def firstSweep : Sweep := { marker := none, previous := 0 }

/-! ### Live records (R120, R121) -/

/-- A live record of a station just enrolled or after a start: UNSEEN, no values (R132, R133). The manual
names no value of the power-up flag, which no read has shown yet: it is false (log entry 48). -/
def freshRecord : LiveRecord :=
  { state := .unseen, misses := 0, levels := .both none, held := .both none,
    latches := .both false, powerUp := false, conditionPending := false, desired := .both none,
    outputPending := false }

/-- The records of an active STATION table after a commit or a start (R132, R133). -/
def freshRecords (s : State) : List LiveRecord := List.replicate (stationCount s) freshRecord

/-- The state and miss count of a record after a charged transaction (R120). -/
def chargeRecord (ok : Bool) (r : LiveRecord) : LiveRecord :=
  if ok then { r with state := .present, misses := 0 }
  else if r.state = .missing ∨ 2 ≤ r.misses then { r with state := .missing, misses := 3 }
  else { r with misses := r.misses + 1 }

/-- Charge a transaction to a station; a change of its state re-evaluates slot 9 (R120, R121). -/
def charge (n : Nat) (ok : Bool) (s : State) : State :=
  match recordOf s n with
  | none => s
  | some r =>
    let s1 := updateRecord n (chargeRecord ok) s
    if (chargeRecord ok r).state = r.state then s1 else evaluate 9 (stationMissing s1) s1

/-! ### The steps of a round -/

def setFlight (f : Flight) (s : State) : State := s.withLine { s.line with flight := f }

/-- The values a WRITE OUTPUTS would carry: the desired output, or else the held one, for both
channels; none where a channel has neither (R123). -/
def writeValues (r : LiveRecord) : Option (PerChannel Bool) :=
  match r.desired.a <|> r.held.a, r.desired.b <|> r.held.b with
  | some a, some b => some { a := a, b := b }
  | _, _ => none

/-- The write-list entry of a record (R123). -/
def writeEntry (r : LiveRecord) : Option (PerChannel Bool) :=
  if r.outputPending then writeValues r else none

/-- The transactions of step 1 for one station: WRITE CONDITION if owed, then WRITE OUTPUTS if it is
on the write list (R123). -/
def writeJobs (r : LiveRecord) (n : Nat) : List Job :=
  (if r.conditionPending then [Job.writeCondition n] else [])
    ++ match writeEntry r with
      | some v => [Job.writeOutputs n v]
      | none => []

/-- Step 5 is due: the round awaits its completion (R127). -/
def beginCompletion (r : Round) (s : State) : State :=
  setFlight (.round { r with stage := .completing, jobs := [] }) s

/-- The table indices from the rotation pointer on, wrapping; from 0 where the pointer is not less
than the count (R126). -/
def rotationOrder (count pointer : Nat) : List Nat :=
  (List.range count).map fun k => ((if pointer < count then pointer else 0) + k) % count

/-- Step 4: the first index in rotation order not attempted in step 3, which attempts every station
of the found list (R125, R126). -/
def beginRotation (r : Round) (s : State) : State :=
  match (rotationOrder (stationCount s) s.line.pointer).find? (fun n => !s.line.found.contains n) with
  | some n => setFlight (.round { r with stage := .rotating, jobs := [.readClearing n] }) s
  | none => beginCompletion r s

/-- Step 3: READ CLEARING to each station on the found list, in list order (R125). -/
def beginReading (r : Round) (s : State) : State :=
  if s.line.found.isEmpty then beginRotation r s
  else setFlight (.round { r with stage := .reading, jobs := s.line.found.map .readClearing }) s

/-- Step 2: the conditional sweep starts with an empty found list (R124). -/
def beginSweep (r : Round) (s : State) : State :=
  let s1 := s.withLine { s.line with found := [] }
  setFlight (.round { r with stage := .sweeping, jobs := [], sweep := firstSweep }) s1

/-- A round starts (R122, R123): with no STATION table it is due to complete at once; otherwise the
write list is taken, its stations' pending flags are cleared, and step 1 begins. -/
def startRound (s : State) : State :=
  let empty : Round := { stage := .writing, jobs := [], sweep := firstSweep, readOk := [] }
  match s.tables.active.station with
  | none => beginCompletion empty s
  | some _ =>
    let jobs := s.line.records.zipIdx.flatMap fun (r, n) => writeJobs r n
    let taken := s.line.records.map fun r =>
      if (writeEntry r).isSome then { r with outputPending := false } else r
    let s1 := s.withLine { s.line with records := taken }
    if jobs.isEmpty then beginSweep empty s1 else setFlight (.round { empty with jobs := jobs }) s1

/-- The pointer after a rotation read of an index: that index plus 1, wrapping to 0 at the count
(R126). -/
def pointerAfter (count n : Nat) : Nat := if n + 1 < count then n + 1 else 0

/-- The transaction of station n, the head of the round's jobs, is done; `rest` are the jobs after
it. The next transaction begins, or the next step does; the rotation pointer moves when step 4 ends
(R123 to R127; log entry 19). -/
def nextTransaction (r : Round) (n : Nat) (rest : List Job) (s : State) : State :=
  match rest with
  | _ :: _ => setFlight (.round { r with jobs := rest }) s
  | [] =>
    match r.stage with
    | .writing => beginSweep r s
    | .sweeping => s
    | .reading => beginRotation r s
    | .rotating =>
      beginCompletion r
        (s.withLine { s.line with pointer := pointerAfter (stationCount s) n })
    | .completing => s

/-! ### Picked transactions (R114, R115) -/

/-- The single byte of a reply whose check matches (R114, 10.5). A reply whose check matches over a body of
any other length is a failed transaction (log entry 46). -/
def replyByte : PickedAnswer → Option Byte
  | .reply bytes =>
    match checkedReply bytes with
    | some [b] => some b
    | _ => none
  | .noPulse => none
  | .noReply => none

/-- What READ CLEARING records from a status byte (R115, 10.5). The reserved bit is ignored (R194). -/
def recordStatus (b : Byte) (r : LiveRecord) : LiveRecord :=
  { r with
    levels := { a := some (b.getLsbD 0), b := some (b.getLsbD 1) }
    held := { a := some (b.getLsbD 2), b := some (b.getLsbD 3) }
    latches := { a := b.getLsbD 4, b := b.getLsbD 5 }
    powerUp := b.getLsbD 6 }

/-- Completion of READ CLEARING to station n (R115, R120, R125). A read that shows the power-up flag is
followed at once by WRITE CONDITION. -/
def completeRead (answer : PickedAnswer) (r : Round) (n : Nat) (rest : List Job) (s : State) : State :=
  match replyByte answer with
  | some b =>
    let s1 := charge n true (updateRecord n (recordStatus b) s)
    let r1 : Round := { r with readOk := r.readOk ++ [n] }
    if b.getLsbD 6 then
      let s2 := updateRecord n (fun x => { x with conditionPending := true }) s1
      setFlight (.round { r1 with jobs := .writeCondition n :: rest }) s2
    else nextTransaction r1 n rest s1
  | none => nextTransaction r n rest (charge n false s)

/-- Completion of WRITE OUTPUTS to station n (R115, R123): the echo is recorded, or the station is
pending again. -/
def completeWrite (answer : PickedAnswer) (r : Round) (n : Nat) (v : PerChannel Bool)
    (rest : List Job) (s : State) : State :=
  match replyByte answer with
  | some b =>
    if b.getLsbD 2 = v.a ∧ b.getLsbD 3 = v.b then
      nextTransaction r n rest (charge n true (updateRecord n (fun x =>
        { x with held := { a := some v.a, b := some v.b } }) s))
    else
      nextTransaction r n rest (charge n false (updateRecord n (fun x =>
        { x with outputPending := true }) s))
  | none =>
    nextTransaction r n rest (charge n false (updateRecord n (fun x =>
      { x with outputPending := true }) s))

/-- The one condition the part writes: LATCH, EITHER, polarity 1 (R113). -/
def writtenCondition : StationCondition := { source := .latch, choice := .either, polarity := true }

/-- Whether a WRITE CONDITION succeeds: the check matches and the condition is the one written
(R115). -/
def conditionEchoed : ConditionAnswer → Bool
  | .reply c checkMatches => checkMatches && c == writtenCondition
  | .noPulse => false
  | .noReply => false

/-- Completion of WRITE CONDITION to station n (R115, R123, R125). -/
def completeCondition (answer : ConditionAnswer) (r : Round) (n : Nat) (rest : List Job) (s : State) :
    State :=
  if conditionEchoed answer then
    nextTransaction r n rest (charge n true (updateRecord n (fun x =>
      { x with conditionPending := false }) s))
  else nextTransaction r n rest (charge n false s)

/-! ### The conditional sweep (R124) -/

/-- The table index of an enrolled identity. -/
def stationIndex (s : State) (i : Identity) : Option Nat :=
  match stationOf s with
  | some t => t.ids.findIdx? (· == i)
  | none => none

/-- Whether a sweep lists an identity it yields: the check byte matches (R117), and the identity is above
every one listed before, so that the list stays strictly ascending (R124, R130). One that a disturbed pass
yields again, or out of order, is passed over (log entry 43). -/
def joinsList (listed : List Identity) (i : Identity) : Bool :=
  identityOk i && listed.all fun j => decide (j.toNat < i.toNat)

/-- The identities of the found list, in list order (R124). -/
def foundIdentities (s : State) : List Identity :=
  match stationOf s with
  | some t => s.line.found.filterMap fun n => t.ids[n]?
  | none => []

/-- An identity the conditional sweep yields: appended to the found list if the table holds it and it
joins the list (R117, R124). -/
def foundIdentity (i : Identity) (s : State) : State :=
  if joinsList (foundIdentities s) i then
    match stationIndex s i with
    | some n => s.withLine { s.line with found := s.line.found ++ [n] }
    | none => s
  else s

/-- Completion of a SEEK IF pass (R116, R117, R124). -/
def completeSeekIf (answer : PassAnswer) (r : Round) (s : State) : State :=
  match runPass r.sweep answer with
  | none => beginReading r s
  | some (i, marker) =>
    let s1 := foundIdentity i s
    match marker with
    | none => beginReading r s1
    | some m => setFlight (.round { r with sweep := { marker := some m, previous := i } }) s1

/-! ### The enrollment sweep (R130) -/

/-- The capacity of the enrollment list (R130). -/
def enrollCap : Nat := 32

/-- An enrollment sweep starts (R130). -/
def startEnrollment (s : State) : State :=
  s.withLine { s.line with
    enrollWaiting := false, flight := .enroll { sweep := firstSweep, list := [] } }

/-- The result data of STATION ENROLL: the MORE flag, the count, the identities (R193). -/
def enrollData (more : Bool) (list : List Identity) : List Byte :=
  flagByte more ++ countedList (list.map identityBytes)

/-- The sweep ends: the deferred confirmation is due, and the line is free (R130, R166). -/
def endEnrollment (list : List Identity) (more : Bool) (s : State) : State :=
  let s1 := setFlight .idle s
  match s1.mgmt.outEnroll with
  | none => s1
  | some o =>
    let s2 := confirm true o.code o.tag .accepted (enrollData more list) s1
    s2.withMgmt { s2.mgmt with outEnroll := none }

/-- Completion of a SEEK pass (R116, R117, R130): the sweep ends without an identity, at a 33rd one that
would join the list, or without a marker. -/
def completeSeek (answer : PassAnswer) (e : Enrollment) (s : State) : State :=
  match runPass e.sweep answer with
  | none => endEnrollment e.list false s
  | some (i, marker) =>
    if joinsList e.list i && e.list.length == enrollCap then endEnrollment e.list true s
    else
      let list := if joinsList e.list i then e.list ++ [i] else e.list
      match marker with
      | none => endEnrollment list false s
      | some m => setFlight (.enroll { sweep := { marker := some m, previous := i }, list := list }) s

/-! ### The transaction on the line (R114, R132) -/

/-- The table index a picked transaction names. -/
def jobStation : Job → Nat
  | .writeCondition n => n
  | .writeOutputs n _ => n
  | .readClearing n => n

/-- The transaction that what is in flight has on the line, or will have once the line is free (R114). -/
def flightTransaction (s : State) : Option Transaction :=
  match s.line.flight with
  | .idle => none
  | .enroll e => some (.seek e.sweep)
  | .round r =>
    match r.stage, r.jobs with
    | .sweeping, _ => some (.seekIf r.sweep)
    | .completing, _ => none
    | _, j :: _ =>
      match stationOf s with
      | some t => (t.ids[jobStation j]?).map fun i => .picked i j
      | none => none
    | _, [] => none

/-- The transaction the part has on the line, if any: the one that still finishes, or else that of what is
in flight (R114, R132). -/
def lineTransaction (s : State) : Option Transaction := s.line.finishing <|> flightTransaction s

/-- The completion of a transaction of a kind. Where one whose round a STATION commit ended is on the line, a
completion of its kind is its own: its outcome is not recorded, and the line is free for what is in flight;
one of another kind completes nothing (R132). Otherwise the completion is of what is in flight. -/
def completion (ofKind : Transaction → Bool) (record : State → State) (s : State) : State :=
  match s.line.finishing with
  | none => record s
  | some t => if ofKind t then s.withLine { s.line with finishing := none } else s

/-! ### Starts (R133) and the STATION commit (R132) -/

/-- The line controller after a start, before its first round: fresh records, the scan timer running
(R122, R133). -/
def lineStart (s : State) : State :=
  s.withLine { StationLine.start with records := freshRecords s, scanTimer := some (scanPeriod s) }

/-- Steps 1 to 4 of R132 but for the start of the new round: the round in flight ends without its
completion, the transaction that is on the line as the commit is taken finishes, the deferred start is cleared, the records are made anew, the found list is emptied, the
pointer is 0, the condition of slot 9 becomes false. The walk sequencer holds no delivered data
(R110). -/
def stationCommitLine (onLine : Option Transaction) (s : State) : State :=
  let s1 := s.withLine { s.line with
    records := freshRecords s, found := [], pointer := 0, deferredStart := false, flight := .idle
    finishing := onLine }
  let s2 := s1.withWalk { s1.walk with delivered := [] }
  evaluate 9 (stationMissing s2) s2

/-! ### What the part sends on the line (R114 to R117) -/

/-- What the part puts on the station line, in the order of sending. The manual gives PICK, SEEK, SEEK
IF and the commands no codes, so they stand by name. -/
inductive Sent where
  | rollCall
  | pick
  | byte (b : Byte)
  | readClearing
  | writeOutputs (a b : Bool)
  | writeCondition (c : StationCondition)
  | seek
  | seekIf
  | bit (b : Bool)
deriving DecidableEq, Repr

/-- The command of a picked transaction, with its parameters (R113, R115). -/
def jobCommand : Job → Sent
  | .writeCondition _ => .writeCondition writtenCondition
  | .writeOutputs _ v => .writeOutputs v.a v.b
  | .readClearing _ => .readClearing

/-- The bits sent in the slots of a pass from position n − 1 down: none in a slot with no participant,
which ends the pass (R116). -/
def passBits (sweep : Sweep) : (n : Nat) → List (Bool × Bool) → List Bool
  | 0, _ => []
  | n + 1, reads =>
    match slotBit sweep n (reads.headD (true, true)) with
    | none => []
    | some (bit, _) => bit :: passBits sweep n reads.tail

/-- What follows an answered roll call: PICK with the identity low byte first and the command, or SEEK
or SEEK IF with the bits of the slots, by what was read in them (R114, R116). -/
def sentAfterRollCall (reads : List (Bool × Bool)) : Transaction → List Sent
  | .picked i job => .pick :: (identityBytes i).map .byte ++ [jobCommand job]
  | .seekIf sweep => .seekIf :: (passBits sweep 48 reads).map .bit
  | .seek sweep => .seek :: (passBits sweep 48 reads).map .bit

/-- What the part sends in a transaction: the roll call, and nothing further where no answer pulse
comes (R114, R116). -/
def sentInTransaction (answered : Bool) (reads : List (Bool × Bool)) (t : Transaction) : List Sent :=
  .rollCall :: if answered then sentAfterRollCall reads t else []

end Sys2Proof.Machine
end

