-- ==== Sys2Proof/Machine/Store.lean ====
section
/-! DEFINITION. The completion of a retained write (R165, R183, R187). -/

namespace Sys2Proof.Machine

/-- The item after its write: the copy it now holds and its status (R186, R187). No write is in
flight. -/
def settleItem (w : Write) (success : Bool) (s : State) : State :=
  let st := { s.store with inFlight := none }
  s.withStore <|
    match w with
    | .image k bytes =>
      if success then
        { st with images := st.images.set k (some bytes)
                  imageStatus := st.imageStatus.set k .current }
      else
        { st with images := st.images.set k none, imageStatus := st.imageStatus.set k .stale }
    | .key value =>
      if success then
        { st with keyCopy := value, keyStatus := if value.isSome then .current else .none }
      else { st with keyCopy := none, keyStatus := .stale }
    | .limits set =>
      if success then { st with limitsCopy := some set, limitsStatus := .current }
      else { st with limitsCopy := none, limitsStatus := .stale }

/-- The outstanding RETAIN_NOW request that a write has, with the kind it committed (R165, R183). -/
def outstandingOf (w : Write) (s : State) : Option (Outstanding × Kind) :=
  match w with
  | .image k _ => s.mgmt.outCommit.map fun o => (o, k)
  | .key _ => none
  | .limits _ => none

/-- The result data of an accepted TABLE COMMIT: the kind and its commit number (R183). -/
def commitData (k : Kind) (s : State) : List Byte :=
  u8 (kindCode k) ++ u8 (s.tables.commitNo.get k).toNat

/-- The management unit takes the completion: it builds the outstanding confirmation if the write has
one, or else records a failure in the deferred-store byte (R165, R187). -/
def reportWrite (w : Write) (success : Bool) (s : State) : State :=
  match outstandingOf w s with
  | some (o, k) =>
    let outcome : ReqOutcome := if success then .accepted else .storeFailed
    let s1 := confirm true o.code o.tag outcome (commitData k s) s
    s1.withMgmt { s1.mgmt with outCommit := none }
  | none => if success then s else s.withMgmt { s.mgmt with deferredStore := itemCode w }

/-- The completion of the write in flight (R187): the item is settled, the management unit is told,
the condition of slot 11 is re-evaluated. Without a write in flight there is no completion. -/
def finishWrite (success : Bool) (s : State) : State :=
  match s.store.inFlight with
  | none => s
  | some w =>
    let s1 := reportWrite w success (settleItem w success s)
    evaluate 11 (storeFailed s1) s1

end Sys2Proof.Machine
end

