-- ==== Sys2Proof/Machine/Requests.lean ====
section
/-! DEFINITION. Taking a management request (R161): the order of checks (R163, R164), the sequence
flag (R38), the confirmation (R162). -/

namespace Sys2Proof.Machine

/-- How the block that owns a request answers it: a confirmation at once, or a deferred one that the
block has recorded as outstanding (R166). -/
inductive Answer where
  | now (outcome : ReqOutcome) (data : List Byte)
  | later
deriving DecidableEq, Repr

/-- The columns of the table of R164. `held` is the row of KEY UNLOCK, KEY CLEAR and GUARD: refused in
FROZEN alone, before their own rules. -/
inductive Admission where
  | every
  | changing
  | held
deriving DecidableEq, Repr

/-- Whether a lock state admits a request (R164). -/
def admits : Admission → Lock → Bool
  | .every, _ => true
  | .changing, .open => true
  | .changing, .unlocked => true
  | .changing, .locked => false
  | .changing, .frozen => false
  | .held, .frozen => false
  | .held, .open => true
  | .held, .locked => true
  | .held, .unlocked => true

/-- What is particular to a request code: the lengths its parameters may have (R163), its row of
R164, and what its owner does with the tag and the parameters. -/
structure Rules where
  sized  : List Byte → Bool
  admits : Admission
  run    : Byte → List Byte → State → State × Answer

/-- A request of a fixed number of parameter bytes (R163, 10.3). -/
def fixed (n : Nat) (params : List Byte) : Bool := params.length == n

/-- Whether an MREQ of a request code is taken (R161): the ports are open, the cab port hands it on
with that code, no immediate confirmation waits, no restart is pending. -/
def taken (code : Nat) (frame : List Byte) (s : State) : Bool :=
  portsOpen s && isRequest code frame && !immediateWaiting s && !s.mgmt.restartPending

/-- The checks of R164 in order, and the owner's answer when they pass. A refusal with BAD_REQUEST or
LOCKED carries no result data (R162). -/
def checkRequest (r : Rules) (frame : List Byte) (s : State) : State × Answer :=
  if !r.sized (requestParams frame) then (s, .now .badRequest [])
  else if !admits r.admits s.mgmt.lock then (s, .now .locked [])
  else r.run (requestTag frame) (requestParams frame) s

/-- Steps 3 and 4 of R161: the sequence flag is left set by an accepted LIMITS READ alone (R38), and
an immediate confirmation is built and offered. -/
def answerRequest (code : Nat) (tag : Byte) (a : State × Answer) : State :=
  match a.2 with
  | .now outcome data =>
    confirm false code tag outcome data
      (a.1.withMgmt { a.1.mgmt with seqFlag := code == 0x08 && outcome == .accepted })
  | .later => a.1.withMgmt { a.1.mgmt with seqFlag := false }

/-- An MREQ with a request code at the management unit (R161). One that is not taken changes
nothing. -/
def takeRequest (code : Nat) (r : Rules) (frame : List Byte) (s : State) : State :=
  if taken code frame s then answerRequest code (requestTag frame) (checkRequest r frame s) else s

/-- A request that changes nothing but the sequence flag and is accepted with data. -/
def readAnswer (data : State → List Byte) (s : State) : State × Answer :=
  (s, .now .accepted (data s))

/-- A refusal that changes nothing and carries no result data. -/
def refuse (outcome : ReqOutcome) (s : State) : State × Answer := (s, .now outcome [])

end Sys2Proof.Machine
end

