-- ==== Sys2Proof/Machine/Validate.lean ====
section
/-! DEFINITION. Content validation of a staged image, one function for each owner (R24, R60, R63,
R70, R87, R119, R136). Each answers the offset of the first field that fails, in the order in which
its rule examines them, or none where the image passes. -/

namespace Sys2Proof.Machine

/-- A field to examine: the offset a refusal names, and whether the field passes. -/
abbrev FieldCheck := Nat × Bool

/-- The offset of the first field that fails. -/
def firstFailure (checks : List FieldCheck) : Option Nat :=
  (checks.find? fun c => !c.2).map (·.1)

/-- A value within a range. -/
def within (lo n hi : Nat) : Bool := lo ≤ n && n ≤ hi

/-- PLANT (R63): the fields in the order of R62. -/
def validatePlant (image : Image) : Option Nat :=
  let t := readPlant image
  firstFailure
    [ (0, t.silenceSelection ≤ 3),
      (1, within 10 t.holdInterval 100),
      (2, within 20 t.driveSilence 500),
      (4, within 5 t.neutralBand 100),
      (5, t.blindCreep ≤ 200) ]

/-- The node records from one on, in order of i and then j (R24). `k` counts the nodes left and
`index` is 64 i + j of the first of them. -/
def firstBadNode : (k index : Nat) → List Byte → Option Nat
  | 0, _, _ => none
  | k + 1, index, r0 :: r1 :: _h0 :: _h1 :: f :: z :: rest =>
    let pos := 23 + 6 * index
    let reach := r0.toNat + 256 * r1.toNat
    let cornerless := index / 64 = 63 ∨ index % 64 = 63
    if 32767 < reach then some pos
    else if 1 < f.toNat then some (pos + 4)
    else if 15 < z.toNat ∧ ¬ cornerless then some (pos + 5)
    else firstBadNode k (index + 1) rest
  | _ + 1, index, _ => some (23 + 6 * index)

/-- Whether some node of the next `k` is feasible (R24). -/
def someFeasible : (k : Nat) → List Byte → Bool
  | 0, _ => false
  | k + 1, _ :: _ :: _ :: _ :: f :: _ :: rest => f.toNat == 1 || someFeasible k rest
  | _ + 1, _ => false

/-- The fields of a GEOMETRY image before the grid (R24). -/
def geometryHeaderChecks (image : Image) : List FieldCheck :=
  let t := readGeometry image
  [ (0, within 6 t.kh 9),
    (1, within 6 t.kd 9),
    (2, t.native.hoistMin ≤ 65534),
    (4, t.native.hoistMax ≤ 65534 && t.native.hoistMin < t.native.hoistMax),
    (6, t.native.dragMin ≤ 65534),
    (8, t.native.dragMax ≤ 65534 && t.native.dragMin < t.native.dragMax),
    (10, within 1 t.unresolved 15),
    (11, within 1 t.gains.raise 1000),
    (13, within 1 t.gains.lower 1000),
    (15, within 1 t.gains.haulIn 1000),
    (17, within 1 t.gains.payOut 1000),
    (19, t.creeps.raise ≤ 200),
    (20, t.creeps.lower ≤ 200),
    (21, t.creeps.haulIn ≤ 200),
    (22, t.creeps.payOut ≤ 200) ]

/-- GEOMETRY (R24). -/
def validateGeometry (image : Image) : Option Nat :=
  match firstFailure (geometryHeaderChecks image) with
  | some pos => some pos
  | none =>
    match firstBadNode 4096 0 (image.drop 23) with
    | some pos => some pos
    | none => if someFeasible 4096 (image.drop 23) then none else some 23

/-- The fields of one zone record (R60). -/
def zoneChecks (image : Image) (z : Nat) : List FieldCheck :=
  let r := readZone image z
  [ (11 * z, r.limits.raise ≤ 1000),
    (11 * z + 2, r.limits.lower ≤ 1000),
    (11 * z + 4, r.limits.haulIn ≤ 1000),
    (11 * z + 6, r.limits.payOut ≤ 1000),
    (11 * z + 8, r.swingLimit ≤ 1000),
    (11 * z + 10, u8At image (11 * z + 10) ≤ 1) ]

/-- ZONE (R60). -/
def validateZone (image : Image) : Option Nat :=
  firstFailure ((List.range 16).flatMap (zoneChecks image))

/-- The fields of load curve point k (R70). -/
def pointChecks (image : Image) (k : Nat) : List FieldCheck :=
  let pos := 8 + 4 * k
  let x := u16At image pos
  [ (pos, x ≤ 2000 && (k == 0 || u16At image (pos - 4) < x)),
    (pos + 2, u16At image (pos + 2) ≤ 1000) ]

/-- The fields of the sector record at a position (R70). -/
def sectorChecks (image : Image) (pos : Nat) : List FieldCheck :=
  let start := u16At image pos
  let stop := u16At image (pos + 2)
  let cls := u8At image (pos + 4)
  [ (pos, start ≤ 35999),
    (pos + 2, stop ≤ 35999 && start != stop),
    (pos + 4, cls ≤ 2),
    (pos + 5, cls != 1 || u16At image (pos + 5) ≤ 1000) ]

/-- SWING (R70): the fixed fields, the points, the sector count with the length the two counts give,
the sectors. -/
def validateSwing (image : Image) : Option Nat :=
  let points := u8At image 7
  let countPos := sectorCountPos image
  let sectors := u8At image countPos
  let fixed : List FieldCheck :=
    [ (0, u16At image 0 ≤ 35999),
      (2, within 1 (u16At image 2) 1000),
      (4, u8At image 4 ≤ 200),
      (5, u16At image 5 ≤ 500),
      (7, within 2 points 8 && countPos < image.length - 2) ]
  let count : FieldCheck :=
    (countPos, sectors ≤ 16 && image.length == countPos + 1 + 7 * sectors + 2)
  firstFailure (fixed ++ (List.range points).flatMap (pointChecks image) ++ [count]
    ++ (List.range sectors).flatMap fun k => sectorChecks image (countPos + 1 + 7 * k))

/-- The fields of binding k of a WALK image (R87): a binding differs from every one before it,
checked at its station index. -/
def bindingChecks (image : Image) (k : Nat) : List FieldCheck :=
  let pos := 20 + 2 * k
  let same (m : Nat) : Bool :=
    u8At image (20 + 2 * m) == u8At image pos && u8At image (20 + 2 * m + 1) == u8At image (pos + 1)
  [ (pos, u8At image pos ≤ 23 && !(List.range k).any same),
    (pos + 1, u8At image (pos + 1) ≤ 1) ]

/-- WALK (R87). -/
def validateWalk (image : Image) : Option Nat :=
  let t := readWalk image
  let fixed : List FieldCheck :=
    [ (0, t.windowStart ≤ 35999),
      (2, t.windowEnd ≤ 35999 && t.windowStart != t.windowEnd),
      (4, within 200 t.stepTimeout 5000),
      (6, t.currentThreshold ≤ 2000),
      (8, t.c1 ≤ 3599),
      (10, t.c2 ≤ 3599 && t.c1 < t.c2),
      (12, t.c3 ≤ 3599 && t.c2 < t.c3),
      (14, t.c4 ≤ 3599 && t.c3 < t.c4),
      (16, t.propelLimit ≤ 1000),
      (18, t.walkSwingLimit ≤ 1000) ]
  firstFailure (fixed ++ (List.range 4).flatMap (bindingChecks image))

/-- The source parameters of the definition record at a position, by its source kind (R136). -/
def sourceChecks (image : Image) (pos : Nat) : List FieldCheck :=
  match u8At image pos with
  | 0 => [ (pos + 1, u8At image (pos + 1) ≤ 23), (pos + 2, u8At image (pos + 2) ≤ 1),
           (pos + 3, u8At image (pos + 3) ≤ 1) ]
  | 1 => [ (pos + 1, u8At image (pos + 1) ≤ 23), (pos + 2, u8At image (pos + 2) ≤ 1) ]
  | 2 => [ (pos + 1, u8At image (pos + 1) ≤ 3), (pos + 2, u8At image (pos + 2) ≤ 7) ]
  | 3 => [ (pos + 1, u8At image (pos + 1) ≤ 3), (pos + 2, u8At image (pos + 2) ≤ 1),
           (pos + 3, u8At image (pos + 3) ≤ 1),
           (pos + 4, -2000 ≤ i16At image (pos + 4) && i16At image (pos + 4) ≤ 2000),
           (pos + 6, u16At image (pos + 6) ≤ 1000) ]
  | 4 => [ (pos + 1, u8At image (pos + 1) ≤ 15) ]
  | _ => [ (pos + 1, u8At image (pos + 1) ≤ 15) ]

/-- The fields of the definition record at a position (R136). -/
def alarmDefChecks (image : Image) (pos : Nat) : List FieldCheck :=
  let cls := u8At image (pos + 8)
  let present := u8At image (pos + 14)
  let kind : FieldCheck := (pos, u8At image pos ≤ 5)
  let rest : List FieldCheck :=
    [ (pos + 8, within 1 cls 4),
      (pos + 10, cls != 2 || u16At image (pos + 10) ≤ 1000),
      (pos + 12, u8At image (pos + 12) ≤ 1),
      (pos + 13, u8At image (pos + 13) ≤ 1),
      (pos + 14, present ≤ 1),
      (pos + 15, present != 1 || u8At image (pos + 15) ≤ 23),
      (pos + 16, present != 1 || u8At image (pos + 16) ≤ 1),
      (pos + 17, u16At image (pos + 17) ≤ 6000) ]
  kind :: sourceChecks image pos ++ rest

/-- ALARM (R136): the count with the length it gives, then the records. -/
def validateAlarm (image : Image) : Option Nat :=
  let n := u8At image 0
  let count : FieldCheck := (0, n ≤ 52 && image.length == 1 + 19 * n + 2)
  firstFailure (count :: (List.range n).flatMap fun k => alarmDefChecks image (1 + 19 * k))

/-- STATION (R119): the period, the count with the length it gives, then each identity: its check
byte matches and it differs from every one before it. -/
def validateStation (image : Image) : Option Nat :=
  let n := u8At image 2
  let id (k : Nat) : Identity := identityAt image (3 + 6 * k)
  let period : FieldCheck := (0, within 20 (u16At image 0) 500)
  let count : FieldCheck := (2, n ≤ 24 && image.length == 3 + 6 * n + 2)
  firstFailure (period :: count :: (List.range n).map fun k =>
      (3 + 6 * k, identityOk (id k) && !(List.range k).any fun m => id m == id k))

/-- The content validation of a kind's owner (R177). -/
def validateContent : Kind → Image → Option Nat
  | .plant, image => validatePlant image
  | .geometry, image => validateGeometry image
  | .zone, image => validateZone image
  | .swing, image => validateSwing image
  | .walk, image => validateWalk image
  | .alarm, image => validateAlarm image
  | .station, image => validateStation image

/-- Whether an image is one the kind can have: length, trailer, content (R181, R189). -/
def imageValid (k : Kind) (image : Image) : Bool :=
  lengthFits k image.length && trailerOk image && (validateContent k image).isNone

end Sys2Proof.Machine
end

