-- ==== Sys2Proof/Machine/AlarmRequests.lean ====
section
/-! DEFINITION. The requests on alarms (R147, R150, R152, R155, R156). -/

namespace Sys2Proof.Machine

/-! ### ALARM LIST READ (R156) -/

/-- One entry as it is read: slot, class, entry state, raise time (R156). -/
def entryData (s : State) (e : Entry) : List Byte :=
  u8 e.slot ++ u8 (classCode (classOf s e)) ++ u8 (entryStateCode e.state) ++ u32 e.time.toNat

/-- ALARM LIST READ: first position, count (R156; log entry 30). -/
def alarmListRead (p : List Byte) (s : State) : State × Answer :=
  let first := u8At p 0
  let count := u8At p 1
  if 63 < first || !within 1 count 24 then refuse .range s
  else
    (s, .now .accepted (u8 s.alarm.list.length
      ++ countedList (((s.alarm.list.drop first).take count).map (entryData s))))

def alarmListReadRules : Rules :=
  { sized := fixed 2, admits := .every, run := fun _ p s => alarmListRead p s }

/-- ALARM LIST READ (R156). -/
def execAlarmListRead (frame : List Byte) (s : State) : Host.Outcome State Fault Refusal :=
  .next (takeRequest 0x0D alarmListReadRules frame s)

/-! ### ALARM ACKNOWLEDGE (R147) -/

/-- Acknowledge the entry of a listed slot (R147). -/
def acknowledgeSlot (n : Nat) (s : State) : State :=
  match entryOf s n with
  | none => s
  | some e =>
    match e.state with
    | .raisedUnack => logEvent .ack n (setEntryState n .raisedAck s)
    | .returnedUnack => removeListed n (logEvent .ack n s)
    | .raisedAck => s

/-- The slots an ALARM ACKNOWLEDGE names: one that is listed, or every listed one in list order; none
where the number names no listed entry or lies outside 0..63 (R147). -/
def acknowledged (n : Nat) (s : State) : Option (List Nat) :=
  if n = 255 then some (s.alarm.list.map (·.slot))
  else if n < 64 ∧ (entryOf s n).isSome = true then some [n]
  else none

/-- Whether a slot's entry is one that an acknowledgement changes. -/
def awaitsAck (s : State) (n : Nat) : Bool :=
  match entryOf s n with
  | some e => isUnack e
  | none => false

/-- ALARM ACKNOWLEDGE: a slot, or 255 for ALL (R147). -/
def alarmAcknowledge (p : List Byte) (s : State) : State × Answer :=
  match acknowledged (u8At p 0) s with
  | none => refuse .range s
  | some slots =>
    let s1 := slots.foldl (fun acc n => acknowledgeSlot n acc) s
    (s1, .now .accepted (u8 (slots.filter (awaitsAck s)).length ++ u8 s1.alarm.list.length
      ++ u8 (unackCount s1)))

def alarmAcknowledgeRules : Rules :=
  { sized := fixed 1, admits := .every, run := fun _ p s => alarmAcknowledge p s }

/-- ALARM ACKNOWLEDGE (R147). -/
def execAlarmAcknowledge (frame : List Byte) (s : State) : Host.Outcome State Fault Refusal :=
  .next (takeRequest 0x0E alarmAcknowledgeRules frame s)

/-! ### ALARM RE-ANNOUNCE (R152) -/

/-- The slots of the unacknowledged entries in list order, at most 8 (R152). -/
def reannounced (s : State) : List Nat :=
  ((s.alarm.list.filter isUnack).map (·.slot)).take noticeCap

/-- ALARM RE-ANNOUNCE (R152). -/
def alarmReAnnounce (s : State) : State × Answer :=
  (s.withAlarm { s.alarm with notices := reannounced s },
    .now .accepted (u8 (reannounced s).length))

def alarmReAnnounceRules : Rules :=
  { sized := fixed 0, admits := .every, run := fun _ _ s => alarmReAnnounce s }

/-- ALARM RE-ANNOUNCE (R152). -/
def execAlarmReAnnounce (frame : List Byte) (s : State) : Host.Outcome State Fault Refusal :=
  .next (takeRequest 0x0F alarmReAnnounceRules frame s)

/-! ### FIRST-OUT READ and FIRST-OUT CLEAR (R150) -/

/-- Whether the slot of the first-out record has an entry on the active list (R150). -/
def firstOutListed (s : State) : Bool :=
  match s.alarm.firstOut with
  | some f => (entryOf s f.slot).isSome
  | none => false

/-- The fields of a filled record, in the order of R149. -/
def firstOutFields (f : FirstOut) : List Byte :=
  u8 f.slot ++ u32 f.time.toNat ++ u8 (posStatusCode f.status)
    ++ i16 f.reach ++ i16 f.height ++ u8 f.zone ++ optU16 f.angle
    ++ u8 (seqStateCode f.seqState) ++ u8 (subStepCode f.sub)
    ++ i16 f.refs.hoist ++ i16 f.refs.drag ++ i16 f.refs.swing ++ i16 f.refs.propel

/-- The result data of FIRST-OUT READ (R150; log entry 28). -/
def firstOutData (s : State) : List Byte :=
  match s.alarm.firstOut with
  | some f => flagByte true ++ firstOutFields f ++ flagByte (firstOutListed s)
  | none => flagByte false ++ flagByte false

def firstOutReadRules : Rules :=
  { sized := fixed 0, admits := .every, run := fun _ _ s => readAnswer firstOutData s }

/-- FIRST-OUT READ (R150). -/
def execFirstOutRead (frame : List Byte) (s : State) : Host.Outcome State Fault Refusal :=
  .next (takeRequest 0x10 firstOutReadRules frame s)

/-- FIRST-OUT CLEAR (R150). -/
def firstOutClear (s : State) : State × Answer :=
  if firstOutListed s then refuse .state s
  else (s.withAlarm { s.alarm with firstOut := none }, .now .accepted [])

def firstOutClearRules : Rules :=
  { sized := fixed 0, admits := .every, run := fun _ _ s => firstOutClear s }

/-- FIRST-OUT CLEAR (R150). -/
def execFirstOutClear (frame : List Byte) (s : State) : Host.Outcome State Fault Refusal :=
  .next (takeRequest 0x11 firstOutClearRules frame s)

/-! ### LOG READ (R155) -/

/-- One log entry as it is read, in the order of R154. -/
def logEntryData (e : LogEntry) : List Byte :=
  u32 e.seq.toNat ++ u8 (logKindCode e.kind) ++ u8 e.slot ++ u32 e.time.toNat

/-- LOG READ: index, count; index 0 is the newest entry (R155). -/
def logRead (p : List Byte) (s : State) : State × Answer :=
  let index := u8At p 0
  let count := u8At p 1
  if !within 1 count 20 then refuse .range s
  else
    (s, .now .accepted
      (countedList (((s.alarm.log.reverse.drop index).take count).map logEntryData)
        ++ u16 s.alarm.log.length ++ u32 s.alarm.nextSeq.toNat))

def logReadRules : Rules :=
  { sized := fixed 2, admits := .every, run := fun _ p s => logRead p s }

/-- LOG READ (R155). -/
def execLogRead (frame : List Byte) (s : State) : Host.Outcome State Fault Refusal :=
  .next (takeRequest 0x12 logReadRules frame s)

end Sys2Proof.Machine
end

