-- ==== Sys2Proof/Machine/LinkCommands.lean ====
section
/-! DEFINITION. The commands of the link ports: arriving frames other than requests, transmissions,
the timers of the cab link and of the drive records (Chapter 1). -/

namespace Sys2Proof.Machine

/-! ### Frames without effect -/

/-- FRAME_DISCARDED (R1, R3, R4): nothing changes, whichever port the frame arrived at. -/
def execFrameDiscarded (_port : Port) (_frame : List Byte) (s : State) :
    Host.Outcome State Fault Refusal :=
  .next s

/-- MREQ_DISCARDED (R161): nothing changes and no confirmation is sent. -/
def execMreqDiscarded (_frame : List Byte) (s : State) : Host.Outcome State Fault Refusal := .next s

/-! ### PASS traffic (R3, R4) -/

/-- PASS traffic joins the queue of the other port unchanged (R3, R4, R8, R9). -/
def passOn (port : Port) (frame : List Byte) (s : State) : State :=
  match port with
  | .cab => offerDrive { kind := .pass, bytes := frame } s
  | .drive => offerCab { kind := .pass, bytes := frame } s

/-- PASS_TRAFFIC (R3, R4). A frame arriving during a dip is lost (R191). -/
def execPassTraffic (port : Port) (frame : List Byte) (s : State) :
    Host.Outcome State Fault Refusal :=
  .next (if portsOpen s && isPass port frame then passOn port frame s else s)

/-! ### Transmission (R7, R10) -/

/-- Whether a port is transmitting. -/
def transmitting (port : Port) (s : State) : Bool :=
  match port with
  | .cab => s.link.cabPort.tx.isSome
  | .drive => s.link.drivePort.tx.isSome

/-- The transmission completion at a port (R7). -/
def completeAt (port : Port) (s : State) : State :=
  match port with
  | .cab => s.withLink { s.link with cabPort := completeTx s.link.cabPort }
  | .drive => s.withLink { s.link with drivePort := completeTx s.link.drivePort }

/-- TRANSMISSION_COMPLETION (R7), of a port that is transmitting. -/
def execTransmissionCompletion (port : Port) (s : State) : Host.Outcome State Fault Refusal :=
  .next (if transmitting port s then completeAt port s else s)

/-- DEFERRED_CONFIRMATION_OFFERED (R10): no other deferred confirmation waits. -/
def execDeferredConfirmationOffered (s : State) : Host.Outcome State Fault Refusal :=
  .next (if portsOpen s && !deferredWaiting s then offerHeld s else s)

/-! ### A REF from the cab (R5) -/

/-- The cab-silence length in force (R17). -/
def cabSilence (s : State) : Nat := silenceLength (plantOf s).silenceSelection

/-- Stage 1 of R5: the cab link takes the frame (R13). -/
def linkTakesRef (cycle : Nat) (s : State) : State :=
  let s1 := s.withLink { s.link with
    cabState := .normal, silenceTimer := some (cabSilence s), holdTimer := none,
    lastCycle := some cycle }
  if s.link.cabState = .hold then evaluate 0 false s1 else s1

/-- The forwarded REF (R6). -/
def forwardedRef (p : RefPayload) (x : Shaped) : QFrame :=
  { kind := .ref
    bytes := buildRef (refPayload p.walkMode.toNat p.cycle x.refs.hoist x.refs.drag x.refs.swing
      x.refs.propel (fourFlags x.brakes.hoist x.brakes.drag x.brakes.swing x.brakes.propel) 0) }

/-- Stage 4 of R5: the forwarded REF joins the drive-port queue; the origin of the most recent REF
becomes 0 (R6, 1.4). -/
def forward (p : RefPayload) (x : Shaped) (s : State) : State :=
  let s1 := offerDrive (forwardedRef p x) s
  s1.withLink { s1.link with lastOriginHold := false }

/-- The five stages of R5. The report gives the origin of the REF offered before this one (R22). -/
def takeRef (p : RefPayload) (s : State) : State :=
  let s2 := walkTakesRef p (linkTakesRef p.cycle s)
  sendReport p.cycle s.link.lastOriginHold (forward p (shape p s2) (shaperTakesRef p s2))

/-- REF_TAKEN_FROM_CAB (R5). A frame arriving during a dip is lost (R191). -/
def execRefTakenFromCab (frame : List Byte) (s : State) : Host.Outcome State Fault Refusal :=
  .next (if portsOpen s && classifyCab frame == .ref then takeRef (readRef frame) s else s)

/-! ### A STAT from a drive (R19) -/

/-- The drive record takes the frame (R19). -/
def refreshDrive (m : Motion) (p : StatPayload) (s : State) : State :=
  let record : DriveRecord :=
    { current := some p.current, freshness := .fresh, timer := some (plantOf s).driveSilence }
  s.withLink { s.link with drives := s.link.drives.set m record }

/-- Whether a drive record is SILENT. -/
def isSilent (s : State) (m : Motion) : Bool := (s.link.drives.get m).freshness == .silent

/-- The deliveries of R19 but for the alarm unit's. -/
def deliverTo (m : Motion) (p : StatPayload) (s : State) : State :=
  match m with
  | .hoist => deliverLoad p (deliverPayout .hoist p s)
  | .drag => deliverPayout .drag p s
  | .swing => deliverSwing p s
  | .propel => deliverCam p s

/-- A STAT taken from a drive (R19): the record, the SILENT slot, the deliveries with the alarm unit's
last (R140), the frame offered unchanged to the cab port. -/
def takeStat (m : Motion) (frame : List Byte) (s : State) : State :=
  let p := readStat frame
  let s1 := refreshDrive m p s
  let s2 := if isSilent s m then evaluate (silentSlot m) false s1 else s1
  let s3 := evaluateBound (driveSource m p) (deliverTo m p s2)
  offerCab { kind := .stat m, bytes := frame } s3

/-- STAT_TAKEN (R19). A frame arriving during a dip is lost (R191). -/
def execStatTaken (frame : List Byte) (s : State) : Host.Outcome State Fault Refusal :=
  .next (if portsOpen s then
      match classifyDrive frame with
      | .stat m => takeStat m frame s
      | .pass => s
      | .discarded => s
    else s)

/-! ### The timers of the cab link (R14, R15) -/

/-- Whether the part has supply; its timers run on in a brief dip (R191). -/
def powered (s : State) : Bool := s.power != .off

/-- Entry to HOLD (R14). The manual gives its effects no order but the listing: slot 0 raises first, so a
first-out record it fills holds the references sent before the hold frame (R149, R65; log entry 47). -/
def enterHold (s : State) : State :=
  let s1 := s.withLink { s.link with cabState := .hold, silenceTimer := none }
  startHoldTimer (originateHold (closeGates allMotions (evaluate 0 true s1)))

/-- CAB_SILENCE_TIMER_EXPIRY (R14): the timer runs, which it does in NORMAL alone. -/
def execCabSilenceTimerExpiry (s : State) : Host.Outcome State Fault Refusal :=
  .next (if powered s && s.link.cabState == .normal && s.link.silenceTimer.isSome then enterHold s
    else s)

/-- HOLD_TIMER_EXPIRY (R12, R15): the timer runs, which it does in WAITING and HOLD. -/
def execHoldTimerExpiry (s : State) : Host.Outcome State Fault Refusal :=
  .next (if powered s && s.link.holdTimer.isSome then startHoldTimer (originateHold s) else s)

/-! ### The drive silence timers (R20) -/

/-- What the drive's blocks do at its silence (R37, R67, R90). -/
def silenceAt (m : Motion) (s : State) : State :=
  match m with
  | .hoist => evaluate 6 (travelExceeded s) s
  | .drag => evaluate 6 (travelExceeded s) s
  | .swing => setAngle none s
  | .propel => setCam .unknown s

/-- A drive falls silent (R20): its record becomes SILENT with its last current, its SILENT slot's
condition becomes true, its blocks follow (log entry 22). -/
def fallSilent (m : Motion) (s : State) : State :=
  let record : DriveRecord := { s.link.drives.get m with freshness := .silent, timer := none }
  let s1 := s.withLink { s.link with drives := s.link.drives.set m record }
  silenceAt m (evaluate (silentSlot m) true s1)

/-- Whether a drive's silence timer runs, which it does while its record is FRESH. -/
def silenceRuns (s : State) (m : Motion) : Bool :=
  isFresh s m && (s.link.drives.get m).timer.isSome

/-- DRIVE_SILENCE_TIMER_EXPIRY (R20). -/
def execDriveSilenceTimerExpiry (drive : Motion) (s : State) : Host.Outcome State Fault Refusal :=
  .next (if powered s && silenceRuns s drive then fallSilent drive s else s)

end Sys2Proof.Machine
end

