-- ==== Sys2Proof/Machine/EventCommands.lean ====
section
/-! DEFINITION. The commands of the walk sequencer's timer (R96), of the alarm unit's timers (R143,
R153) and of the retained store (R187). -/

namespace Sys2Proof.Machine

/-- TRANSFER_TIMER_EXPIRY (R96): the timer runs, which it does in a transfer sub-step alone. -/
def execTransferTimerExpiry (s : State) : Host.Outcome State Fault Refusal :=
  .next (if powered s && s.walk.transferTimer.isSome then enterFault s else s)

/-- The expiry of a PENDING slot's delay timer: the slot raises (R143). -/
def delayExpires (n : Nat) (s : State) : State :=
  match attrsOf s n with
  | some a => if (slotOf s n).delay.isSome then raiseSlot n a s else s
  | none => s

/-- DELAY_TIMER_EXPIRY (R143), of a slot that is PENDING. -/
def execDelayTimerExpiry (slot : Nat) (s : State) : Host.Outcome State Fault Refusal :=
  .next (if powered s then delayExpires slot s else s)

/-- TIME_COUNTER_TICK (R153): the counter rises by 1, wrapping at 2^32. -/
def execTimeCounterTick (s : State) : Host.Outcome State Fault Refusal :=
  .next (if powered s then s.withAlarm { s.alarm with time := s.alarm.time + 1 } else s)

/-- RETAINED_WRITE_COMPLETION (R187), of the write in flight. -/
def execRetainedWriteCompletion (success : Bool) (s : State) : Host.Outcome State Fault Refusal :=
  .next (if powered s then finishWrite success s else s)

end Sys2Proof.Machine
end

