-- ==== Sys2Proof/Machine/LimitRequests.lean ====
section
/-! DEFINITION. The requests on travel limits (R39 to R41). -/

namespace Sys2Proof.Machine

/-- Four limits in order, or none in each (R193). -/
def limitsData : Option Limits → List Byte
  | some l => u16 l.hoistMin ++ u16 l.hoistMax ++ u16 l.dragMin ++ u16 l.dragMax
  | none => optU16 none ++ optU16 none ++ optU16 none ++ optU16 none

/-! ### LIMITS READ (R39) -/

/-- The result data of LIMITS READ: native, working, retained, retained this power-on (R39). -/
def limitsReadData (s : State) : List Byte :=
  limitsData ((geometryOf s).map (·.native)) ++ limitsData s.position.working
    ++ limitsData s.store.limitsCopy ++ flagByte s.mgmt.retainedOnce

def limitsReadRules : Rules :=
  { sized := fixed 0, admits := .every, run := fun _ _ s => readAnswer limitsReadData s }

/-- LIMITS READ (R39). -/
def execLimitsRead (frame : List Byte) (s : State) : Host.Outcome State Fault Refusal :=
  .next (takeRequest 0x08 limitsReadRules frame s)

/-! ### LIMITS SET (R40, R41) -/

/-- The four values carried. -/
def limitsOf (p : List Byte) : Limits :=
  { hoistMin := u16At p 0, hoistMax := u16At p 2, dragMin := u16At p 4, dragMax := u16At p 6 }

/-- Whether every value lies within its drum's native range and min < max for both (R40 check 4). -/
def limitsInRange (native l : Limits) : Bool :=
  within native.hoistMin l.hoistMin native.hoistMax && within native.hoistMin l.hoistMax native.hoistMax
    && within native.dragMin l.dragMin native.dragMax && within native.dragMin l.dragMax native.dragMax
    && l.hoistMin < l.hoistMax && l.dragMin < l.dragMax

/-- A LIMITS SET refused: nothing changes, the working limits in force are carried (R40). -/
def refuseLimits (outcome : ReqOutcome) (s : State) : State × Answer :=
  (s, .now outcome (limitsData s.position.working))

/-- The effects of an accepted LIMITS SET (R41, R42). -/
def acceptLimits (l : Limits) (retain : Bool) (s : State) : State :=
  let s1 := s.withPosition { s.position with working := some l }
  let s2 := evaluate 6 (travelExceeded s1) s1
  if retain then startWrite (.limits l) (s2.withMgmt { s2.mgmt with retainedOnce := true }) else s2

/-- LIMITS SET: four values, retain (R40, R41). A retain byte above 1 is refused before the request's
own conditions (R195). -/
def limitsSet (p : List Byte) (s : State) : State × Answer :=
  let retain := u8At p 8
  if 1 < retain then refuseLimits .range s
  else if !s.mgmt.seqFlag then refuseLimits .sequence s
  else
    match geometryOf s with
    | none => refuseLimits .state s
    | some g =>
      if !limitsInRange g.native (limitsOf p) then refuseLimits .range s
      else if retain = 1 ∧ s.mgmt.retainedOnce = true then refuseLimits .retained s
      else if retain = 1 ∧ writing s = true then refuseLimits .busy s
      else
        (acceptLimits (limitsOf p) (retain == 1) s, .now .accepted (limitsData (some (limitsOf p))))

def limitsSetRules : Rules :=
  { sized := fixed 9, admits := .changing, run := fun _ p s => limitsSet p s }

/-- LIMITS SET (R40). -/
def execLimitsSet (frame : List Byte) (s : State) : Host.Outcome State Fault Refusal :=
  .next (takeRequest 0x09 limitsSetRules frame s)

end Sys2Proof.Machine
end

