-- ==== Sys2Proof/Machine/LineCommands.lean ====
section
/-! DEFINITION. The commands of the station line controller (Chapter 6). -/

namespace Sys2Proof.Machine

/-! ### Starts of rounds and sweeps (R122, R130) -/

/-- Whether nothing is in flight on the line. -/
def nothingInFlight (s : State) : Bool := s.line.flight == .idle

/-- The expiry of the scan timer (R122): it restarts; a round starts when nothing is in flight and no
enrollment sweep is waiting, or else a deferred start is recorded. -/
def scanExpires (s : State) : State :=
  let s1 := s.withLine { s.line with scanTimer := some (scanPeriod s) }
  if nothingInFlight s && !s.line.enrollWaiting then startRound s1
  else s1.withLine { s1.line with deferredStart := true }

/-- SCAN_TIMER_EXPIRY (R122). -/
def execScanTimerExpiry (s : State) : Host.Outcome State Fault Refusal :=
  .next (if powered s && s.line.scanTimer.isSome then scanExpires s else s)

/-- DEFERRED_ROUND_START (R122): a deferred start is recorded, nothing is in flight and no enrollment
sweep waits. -/
def execDeferredRoundStart (s : State) : Host.Outcome State Fault Refusal :=
  .next (if powered s && s.line.deferredStart && nothingInFlight s && !s.line.enrollWaiting then
      startRound (s.withLine { s.line with deferredStart := false })
    else s)

/-- ENROLLMENT_SWEEP_START (R130): a sweep waits and the round it waited for has completed. -/
def execEnrollmentSweepStart (s : State) : Host.Outcome State Fault Refusal :=
  .next (if powered s && s.line.enrollWaiting && nothingInFlight s then startEnrollment s else s)

/-! ### Completions of transactions (R115, R116) -/

/-- Whether a transaction is a picked one with a command, or a pass of a sweep (R115, R116). -/
def isWriteOutputs : Transaction → Bool
  | .picked _ (.writeOutputs _ _) => true
  | _ => false

def isWriteCondition : Transaction → Bool
  | .picked _ (.writeCondition _) => true
  | _ => false

def isReadClearing : Transaction → Bool
  | .picked _ (.readClearing _) => true
  | _ => false

def isSeekIf : Transaction → Bool
  | .seekIf _ => true
  | _ => false

def isSeek : Transaction → Bool
  | .seek _ => true
  | _ => false

/-- The outcome of the WRITE OUTPUTS of the round in flight is recorded (R115). -/
def writeOutputsRecorded (answer : PickedAnswer) (s : State) : State :=
  match s.line.flight with
  | .round r =>
    match r.jobs with
    | .writeOutputs n v :: rest => completeWrite answer r n v rest s
    | _ => s
  | .idle => s
  | .enroll _ => s

/-- The completion of the WRITE OUTPUTS on the line (R115, R132). -/
def writeOutputsDone (answer : PickedAnswer) : State → State :=
  completion isWriteOutputs (writeOutputsRecorded answer)

/-- WRITE_OUTPUTS (R115). -/
def execWriteOutputs (answer : PickedAnswer) (s : State) : Host.Outcome State Fault Refusal :=
  .next (if powered s then writeOutputsDone answer s else s)

/-- The outcome of the WRITE CONDITION of the round in flight is recorded (R115). -/
def writeConditionRecorded (answer : ConditionAnswer) (s : State) : State :=
  match s.line.flight with
  | .round r =>
    match r.jobs with
    | .writeCondition n :: rest => completeCondition answer r n rest s
    | _ => s
  | .idle => s
  | .enroll _ => s

/-- The completion of the WRITE CONDITION on the line (R115, R132). -/
def writeConditionDone (answer : ConditionAnswer) : State → State :=
  completion isWriteCondition (writeConditionRecorded answer)

/-- WRITE_CONDITION (R115). -/
def execWriteCondition (answer : ConditionAnswer) (s : State) : Host.Outcome State Fault Refusal :=
  .next (if powered s then writeConditionDone answer s else s)

/-- The outcome of the READ CLEARING of the round in flight is recorded (R115). -/
def readClearingRecorded (answer : PickedAnswer) (s : State) : State :=
  match s.line.flight with
  | .round r =>
    match r.jobs with
    | .readClearing n :: rest => completeRead answer r n rest s
    | _ => s
  | .idle => s
  | .enroll _ => s

/-- The completion of the READ CLEARING on the line (R115, R132). -/
def readClearingDone (answer : PickedAnswer) : State → State :=
  completion isReadClearing (readClearingRecorded answer)

/-- READ_CLEARING (R115). -/
def execReadClearing (answer : PickedAnswer) (s : State) : Host.Outcome State Fault Refusal :=
  .next (if powered s then readClearingDone answer s else s)

/-- The outcome of a pass of the conditional sweep in progress is recorded (R116, R124). -/
def seekIfRecorded (answer : PassAnswer) (s : State) : State :=
  match s.line.flight with
  | .round r => if r.stage = .sweeping then completeSeekIf answer r s else s
  | .idle => s
  | .enroll _ => s

/-- The completion of a pass of a conditional sweep (R116, R124, R132). -/
def seekIfDone (answer : PassAnswer) : State → State :=
  completion isSeekIf (seekIfRecorded answer)

/-- SEEK_IF_PASS (R116). -/
def execSeekIfPass (answer : PassAnswer) (s : State) : Host.Outcome State Fault Refusal :=
  .next (if powered s then seekIfDone answer s else s)

/-- The outcome of a pass of the enrollment sweep in progress is recorded (R116, R130). -/
def seekRecorded (answer : PassAnswer) (s : State) : State :=
  match s.line.flight with
  | .enroll e => completeSeek answer e s
  | .idle => s
  | .round _ => s

/-- The completion of a pass of an enrollment sweep (R116, R130). -/
def seekDone (answer : PassAnswer) : State → State :=
  completion isSeek (seekRecorded answer)

/-- SEEK_PASS (R130). -/
def execSeekPass (answer : PassAnswer) (s : State) : Host.Outcome State Fault Refusal :=
  .next (if powered s then seekDone answer s else s)

/-! ### The completion of a round (R127) -/

/-- Whether an owned channel is to be set again at a round completion (R148): its station is PRESENT,
no output is pending, and the output held differs from the computed value. -/
def toRestore (s : State) (b : Binding) : Bool :=
  match recordOf s b.station with
  | some r =>
    r.state == .present && !r.outputPending
      && r.held.get b.channel == some (!computedValue s b)
  | none => false

/-- The alarm unit sets again every owned channel that differs, each judged as the check begins (R148;
log entry 37). -/
def restoreOwned (s : State) : State :=
  ((ownedOutputs s).filter (toRestore s)).foldl (fun acc b => setDesired b (computedValue s b) acc) s

/-- The completion of a round whose step 5 is due (R127): the walk sequencer takes it (R93), the alarm
unit evaluates the station sources (R139) and checks its outputs (R148), the round ends. -/
def completeRound (r : Round) (s : State) : State :=
  let s1 := walkRound s
  setFlight .idle (restoreOwned (evaluateBound (stationSource s1 r.readOk) s1))

/-- The completion of the round in flight, if its step 5 is due. -/
def roundDone (s : State) : State :=
  match s.line.flight with
  | .round r => if r.stage = .completing then completeRound r s else s
  | .idle => s
  | .enroll _ => s

/-- ROUND_COMPLETION (R127). -/
def execRoundCompletion (s : State) : Host.Outcome State Fault Refusal :=
  .next (if powered s then roundDone s else s)

end Sys2Proof.Machine
end

