-- ==== Sys2Proof/Machine/LockRequests.lean ====
section
/-! DEFINITION. The requests of the maintenance lock (R168 to R172), RESTART (R174), and an MREQ of an
undefined code (R163). -/

namespace Sys2Proof.Machine

/-- The lock state replaced. -/
def setLock (x : Lock) (s : State) : State := s.withMgmt { s.mgmt with lock := x }

/-! ### KEY SET (R168) -/

/-- KEY SET: a key of 16 bytes (R168). -/
def keySet (p : List Byte) (s : State) : State × Answer :=
  if writing s then refuse .busy s
  else
    let s1 := s.withMgmt { s.mgmt with key := some p, attempts := 5, lock := .unlocked }
    (startWrite (.key (some p)) s1, .now .accepted [])

def keySetRules : Rules :=
  { sized := fixed 16, admits := .changing, run := fun _ p s => keySet p s }

/-- KEY SET (R168). -/
def execKeySet (frame : List Byte) (s : State) : Host.Outcome State Fault Refusal :=
  .next (takeRequest 0x13 keySetRules frame s)

/-! ### KEY UNLOCK (R169) -/

/-- The lock state, the attempts count and the outcome of a KEY UNLOCK, by the table of R169. -/
def unlockMove (lock : Lock) (attempts : Nat) (keyMatches : Bool) : Lock × Nat × ReqOutcome :=
  match lock with
  | .frozen => (.frozen, attempts, .locked)
  | .open => (.open, attempts, .accepted)
  | .unlocked => (.unlocked, attempts, .accepted)
  | .locked =>
    if attempts = 0 then (.locked, 0, .attempts)
    else if keyMatches then (.unlocked, attempts, .accepted)
    else (.locked, attempts - 1, .keyMismatch)

/-- KEY UNLOCK: a key of 16 bytes; the answer carries the attempts count after it (R169). -/
def keyUnlock (p : List Byte) (s : State) : State × Answer :=
  let m := unlockMove s.mgmt.lock s.mgmt.attempts (s.mgmt.key == some p)
  (s.withMgmt { s.mgmt with lock := m.1, attempts := m.2.1 }, .now m.2.2 (u8 m.2.1))

def keyUnlockRules : Rules :=
  { sized := fixed 16, admits := .held, run := fun _ p s => keyUnlock p s }

/-- KEY UNLOCK (R169). -/
def execKeyUnlock (frame : List Byte) (s : State) : Host.Outcome State Fault Refusal :=
  .next (takeRequest 0x14 keyUnlockRules frame s)

/-! ### KEY CLEAR (R170) -/

/-- KEY CLEAR (R170). -/
def keyClear (s : State) : State × Answer :=
  match s.mgmt.lock with
  | .frozen => refuse .locked s
  | .locked => refuse .locked s
  | .open => refuse .state s
  | .unlocked =>
    if writing s then refuse .busy s
    else
      let s1 := s.withMgmt { s.mgmt with key := none, lock := .open }
      (startWrite (.key none) s1, .now .accepted [])

def keyClearRules : Rules :=
  { sized := fixed 0, admits := .held, run := fun _ _ s => keyClear s }

/-- KEY CLEAR (R170). -/
def execKeyClear (frame : List Byte) (s : State) : Host.Outcome State Fault Refusal :=
  .next (takeRequest 0x15 keyClearRules frame s)

/-! ### GUARD (R171) -/

/-- The lock state after a GUARD, and its outcome (R171). -/
def guardMove : Lock → Lock × ReqOutcome
  | .frozen => (.frozen, .locked)
  | .open => (.open, .state)
  | .unlocked => (.locked, .accepted)
  | .locked => (.locked, .accepted)

/-- GUARD; the answer carries the lock state after it (R171). -/
def guardLock (s : State) : State × Answer :=
  let m := guardMove s.mgmt.lock
  (setLock m.1 s, .now m.2 (u8 (lockCode m.1)))

def guardRules : Rules :=
  { sized := fixed 0, admits := .held, run := fun _ _ s => guardLock s }

/-- GUARD (R171). -/
def execGuard (frame : List Byte) (s : State) : Host.Outcome State Fault Refusal :=
  .next (takeRequest 0x16 guardRules frame s)

/-! ### FREEZE (R172) -/

/-- FREEZE, admitted in OPEN and UNLOCKED (R172). -/
def freezeLock (s : State) : State × Answer := (setLock .frozen s, .now .accepted [])

def freezeRules : Rules :=
  { sized := fixed 0, admits := .changing, run := fun _ _ s => freezeLock s }

/-- FREEZE (R172). -/
def execFreeze (frame : List Byte) (s : State) : Host.Outcome State Fault Refusal :=
  .next (takeRequest 0x17 freezeRules frame s)

/-! ### RESTART (R174) -/

/-- RESTART, admitted in OPEN and UNLOCKED: the restart waits for its confirmation (R174). -/
def restartRequest (s : State) : State × Answer :=
  (s.withMgmt { s.mgmt with restartPending := true }, .now .accepted [])

def restartRules : Rules :=
  { sized := fixed 0, admits := .changing, run := fun _ _ s => restartRequest s }

/-- RESTART (R174). -/
def execRestart (frame : List Byte) (s : State) : Host.Outcome State Fault Refusal :=
  .next (takeRequest 0x18 restartRules frame s)

/-! ### An undefined request code (R163) -/

/-- No parameters fit an undefined code: it is malformed whatever follows the tag (R163). -/
def undefinedRules : Rules :=
  { sized := fun _ => false, admits := .every, run := fun _ _ s => refuse .badRequest s }

/-- An MREQ whose request code is none of 10.3 (R163); a defined code is not this command's. -/
def execUndefinedRequestCode (frame : List Byte) (s : State) : Host.Outcome State Fault Refusal :=
  .next (if definedCode (requestCode frame) then s
    else takeRequest (requestCode frame) undefinedRules frame s)

end Sys2Proof.Machine
end

