-- ==== Sys2Proof/Machine/Starts.lean ====
section
/-! DEFINITION. The starts of the part and the supply (R174 to R176, R188 to R192), and what every
block does at them (R11, R12, R36, R56, R84, R111, R133, R159, R160). -/

namespace Sys2Proof.Machine

/-! ### Entry to WAITING (R11, R12) -/

/-- The cab link enters WAITING: the silence timer stopped, the last cycle value none, a hold frame
offered, the hold timer started (R11, R12). -/
def enterWaiting (s : State) : State :=
  startHoldTimer (originateHold (s.withLink { s.link with
    cabState := .waiting, silenceTimer := none, lastCycle := none }))

/-- The line begins: its state of R133, the scan timer, the first round (R122, R133). -/
def beginLine (s : State) : State := startRound (lineStart s)

/-! ### Restart (R174, R175) -/

/-- Whether a frame is the confirmation of RESTART (R174). -/
def isRestartConfirmation (f : QFrame) : Bool :=
  f.kind == .mcnf false && u8At (framePayload f.bytes) 0 == 0x18

/-- Whether the confirmation of RESTART still waits or is in transmission (R174). -/
def confirmationOnItsWay (s : State) : Bool :=
  s.link.cabPort.queue.any isRestartConfirmation || s.link.cabPort.tx.any isRestartConfirmation

/-- Whether a restart is due: it is pending and its confirmation has left the port (R174). -/
def restartDue (s : State) : Bool :=
  portsOpen s && s.mgmt.restartPending && !confirmationOnItsWay s

/-- The ports at a restart: the waiting frames are discarded, a frame in transmission completes; the
drive records are UNSEEN (R7, R10, R18). -/
def restartLink (l : Link) : Link :=
  { l with
    drivePort := { l.drivePort with queue := [] }
    cabPort := { l.cabPort with queue := [] }
    held := none
    drives := .const .start }

/-- The management unit at a restart (R166, R175, R178). -/
def restartMgmt (m : Management) : Management :=
  { m with restartPending := false, seqFlag := false, outCommit := none, outEnroll := none,
           staging := .empty }

/-- The walk sequencer at a restart: its step count and its table's usability are kept (R111). -/
def restartWalk (w : WalkSequencer) : WalkSequencer :=
  { WalkSequencer.start with usable := w.usable, stepCount := w.stepCount }

/-- The position unit at a restart: the working limits are kept (R26, R32, R36). -/
def restartPosition (p : PositionUnit) : PositionUnit :=
  { PositionUnit.start with working := p.working }

/-- The alarm unit at a restart, before slots 10 and 11 are re-evaluated (R160): REMOVE is logged for
each entry in list order, and the list, the notices and the slots are emptied. -/
def restartAlarm (s : State) : State :=
  let s1 := (s.alarm.list.map (·.slot)).foldl (fun acc n => logEvent .remove n acc) s
  s1.withAlarm { s1.alarm with
    slots := List.replicate 64 Slot.start, list := [], notices := [], lastPosition := none,
    lastContaining := List.replicate 16 false }

/-- The alarm unit re-evaluates slots 10 and 11 (R135, R160); slot 11 from the statuses of R186 (log
entry 45). -/
def restartConditions (s : State) : State :=
  let s1 := evaluate 10 (tableAbsent s) s
  evaluate 11 (storeFailed s1) s1

/-- A restart takes effect (R175): every block applies its own, the position unit hands on an absent
position (R33), the link enters WAITING (R11), the first round starts (R122). The active tables, the
commit numbers and the retained store are kept (R188). The manual orders the blocks no further; the walk
sequencer is in STARTUP before the hold frame of WAITING is built, whose mode is then DIG (R16; log
entry 42). -/
def restartEffect (s : State) : State :=
  let s1 := (((((s.withLink (restartLink s.link)).withMgmt (restartMgmt s.mgmt)).withShaper
    .start).withPosition (restartPosition s.position)).withSwing .start).withWalk
    (restartWalk s.walk)
  beginLine (enterWaiting (restartConditions (handPosition (restartAlarm s1))))

/-- RESTART_TAKES_EFFECT (R175): at the transmission completion of the RESTART confirmation. -/
def execRestartTakesEffect (s : State) : Host.Outcome State Fault Refusal :=
  .next (if restartDue s then restartEffect s else s)

/-! ### Power-on start (R189, R190) -/

/-- An item as a power-on start finds it, where the store was left with a copy of it (log entry 7).
An item that was being written when supply was lost, whose write failed, or that a KEY CLEAR emptied was
left with no copy, and none is found (R42, R168, R170, R186, R189, R192). -/
def placeItem (st : RetainedStore) : FoundItem → RetainedStore
  | .image k bytes =>
    if (st.images.get k).isSome then { st with images := st.images.set k (some bytes) } else st
  | .key bytes checkRight =>
    if st.keyCopy.isSome then { st with keyCopy := if checkRight then some bytes else none } else st
  | .limits set checkRight =>
    if st.limitsCopy.isSome then { st with limitsCopy := if checkRight then some set else none }
    else st

/-- Whether a retained set is valid (R189). -/
def retainedSetValid (l : Limits) : Bool :=
  l.hoistMin ≤ 65534 && l.hoistMax ≤ 65534 && l.dragMin ≤ 65534 && l.dragMax ≤ 65534
    && l.hoistMin < l.hoistMax && l.dragMin < l.dragMax

/-- The image of a kind, if it is valid (R189). -/
def validImage (st : RetainedStore) (k : Kind) : Option Image :=
  (st.images.get k).filter (imageValid k)

/-- CURRENT for a valid item, NONE for an invalid one (R189). -/
def foundStatus (valid : Bool) : RetStatus := if valid then .current else .none

/-- A value for every kind. -/
def perKind {α : Type} (f : Kind → α) : PerKind α :=
  { plant := f .plant, geometry := f .geometry, zone := f .zone, swing := f .swing, walk := f .walk,
    alarm := f .alarm, station := f .station }

/-- The store validates its nine items (R189): what is invalid is no copy. -/
def validateStore (st : RetainedStore) : RetainedStore :=
  let key := st.keyCopy.filter (·.length == 16)
  let limits := st.limitsCopy.filter retainedSetValid
  { images := perKind (validImage st)
    keyCopy := key
    limitsCopy := limits
    imageStatus := perKind fun k => foundStatus (validImage st k).isSome
    keyStatus := foundStatus key.isSome
    limitsStatus := foundStatus limits.isSome
    inFlight := none }

/-- The store a power-on start presents: the copies it held when the supply went, those of them found
otherwise as they are found (R189; log entry 7). -/
def presentedStore (st : RetainedStore) (found : List FoundItem) : RetainedStore :=
  validateStore (found.foldl placeItem st)

/-- Stages 1 to 3 of R190: the active tables, the lock, the working limits, the usability, the
binding, slot 10. -/
def settleStart (store : RetainedStore) (pending : List Instr) : State :=
  let dark := State.dark store pending
  let s1 := dark.withTables { Tables.start with active := store.images }
  let s2 := s1.withMgmt { Management.start with
    lock := if store.keyCopy.isSome then .locked else .open, key := store.keyCopy }
  let s3 := s2.withPosition { PositionUnit.start with working := startLimits s2 }
  let s4 := settleBinding (settleUsability s3)
  evaluate 10 (tableAbsent s4) s4

/-- A completed power-on start (R190): stages 1 to 3, the hand-off of an absent position (R33), entry
to WAITING, the first round. On a part with supply it stands for the loss of the supply and its return
(log entry 6). -/
def powerOn (found : List FoundItem) (s : State) : State :=
  beginLine (enterWaiting (handPosition
    ((settleStart (presentedStore s.store found) s.pending).withPower .on)))

/-- POWER_ON_START (R190). -/
def execPowerOnStart (found : List FoundItem) (s : State) : Host.Outcome State Fault Refusal :=
  .next (powerOn found s)

/-! ### Supply (R191, R192) -/

/-- The store without supply: the valid copies alone. A write in flight leaves its item without one
(R187, R192; log entry 31). -/
def RetainedStore.dark (st : RetainedStore) : RetainedStore :=
  { RetainedStore.blank with
    images := st.images, keyCopy := st.keyCopy, limitsCopy := st.limitsCopy }

/-- SUPPLY_LOSS (R192): operation ends and every volatile state is lost. -/
def execSupplyLoss (s : State) : Host.Outcome State Fault Refusal :=
  .next (State.dark s.store.dark s.pending)

/-- The ports cut off: no frame in transmission, waiting or held (R191). -/
def cutPorts (l : Link) : Link :=
  { l with drivePort := { tx := none, queue := [] }, cabPort := { tx := none, queue := [] },
           held := none }

/-- The start of a brief dip (R191): the ports are cut off, a retained write in flight fails. -/
def dipStart (s : State) : State :=
  finishWrite false ((s.withPower .dip).withLink (cutPorts s.link))

/-- BRIEF_SUPPLY_DIP_START (R191), on a part with supply. -/
def execBriefSupplyDipStart (s : State) : Host.Outcome State Fault Refusal :=
  .next (if s.power = .on then dipStart s else s)

/-- The end of a brief dip (R191): the ports take and send again, and a pending restart takes effect
(R174). -/
def dipEnd (s : State) : State :=
  let s1 := s.withPower .on
  if s1.mgmt.restartPending then restartEffect s1 else s1

/-- BRIEF_SUPPLY_DIP_END (R191). -/
def execBriefSupplyDipEnd (s : State) : Host.Outcome State Fault Refusal :=
  .next (if s.power = .dip then dipEnd s else s)

end Sys2Proof.Machine
end

