-- ==== Sys2Proof/Machine/StationRequests.lean ====
section
/-! DEFINITION. The requests on stations (R129 to R131). -/

namespace Sys2Proof.Machine

/-! ### STATION STATUS (R131) -/

/-- One live record with its identity (R120, R131; log entry 17). -/
def recordData (i : Identity) (r : LiveRecord) : List Byte :=
  identityBytes i ++ u8 (stationStateCode r.state) ++ u8 r.misses
    ++ optFlag r.levels.a ++ optFlag r.levels.b ++ optFlag r.held.a ++ optFlag r.held.b
    ++ flagByte r.latches.a ++ flagByte r.latches.b
    ++ flagByte r.powerUp ++ flagByte r.conditionPending
    ++ optFlag r.desired.a ++ optFlag r.desired.b ++ flagByte r.outputPending

/-- Whether a round or an enrollment sweep is in flight (R131). -/
def lineBusy (s : State) : Bool :=
  match s.line.flight with
  | .idle => false
  | .round _ => true
  | .enroll _ => true

/-- The result data of STATION STATUS (R131). -/
def stationStatusData (t : StationTable) (first count : Nat) (s : State) : List Byte :=
  countedList ((((t.ids.zip s.line.records).drop first).take count).map fun (i, r) => recordData i r)
    ++ u8 t.ids.length ++ u8 s.line.pointer ++ countedList (s.line.found.map u8)
    ++ flagByte (lineBusy s)

/-- STATION STATUS: first index, count (R131). -/
def stationStatus (p : List Byte) (s : State) : State × Answer :=
  let first := u8At p 0
  let count := u8At p 1
  match stationOf s with
  | none => refuse .range s
  | some t =>
    if t.ids.length ≤ first || !within 1 count 8 then refuse .range s
    else (s, .now .accepted (stationStatusData t first count s))

def stationStatusRules : Rules :=
  { sized := fixed 2, admits := .every, run := fun _ p s => stationStatus p s }

/-- STATION STATUS (R131). -/
def execStationStatus (frame : List Byte) (s : State) : Host.Outcome State Fault Refusal :=
  .next (takeRequest 0x0A stationStatusRules frame s)

/-! ### STATION OUTPUT (R129) -/

/-- The pairs of a list of the request, from pair `start` on: a station index and a channel code. -/
def outputPairs (p : List Byte) (start count : Nat) : List (Nat × Nat) :=
  (List.range count).map fun k => (u8At p (2 + 2 * (start + k)), u8At p (2 + 2 * (start + k) + 1))

/-- The set list and the clear list (10.3). -/
def setPairs (p : List Byte) : List (Nat × Nat) := outputPairs p 0 (u8At p 0)
def clearPairs (p : List Byte) : List (Nat × Nat) := outputPairs p (u8At p 0) (u8At p 1)

/-- Whether a pair names a station of the table and a channel (R129 check 3). -/
def pairExists (s : State) (c : Nat × Nat) : Bool :=
  c.1 < stationCount s && (channelOfCode c.2).isSome

/-- Whether a pair names a channel that the walk sequencer or the alarm unit owns (R128). -/
def pairOwned (s : State) (c : Nat × Nat) : Bool :=
  match channelOfCode c.2 with
  | some ch =>
    walkOwns s { station := c.1, channel := ch } || alarmOwns s { station := c.1, channel := ch }
  | none => false

/-- The desired output of a channel as the live record holds it. -/
def desiredOf (s : State) (b : Binding) : Option Bool :=
  match recordOf s b.station with
  | some r => r.desired.get b.channel
  | none => none

/-- The new desired output of a named channel (R129): `inSet` and `inClear` say which lists name it,
`old` is the present one. -/
def newDesired (inSet inClear : Bool) (old : Option Bool) : Option Bool :=
  match inSet, inClear with
  | true, false => some true
  | false, true => some false
  | true, true => some (!(old.getD false))
  | false, false => none

/-- Set one channel as the request says (R129). -/
def applyOutput (p : List Byte) (s : State) (b : Binding) : State :=
  let named := (b.station, channelCode b.channel)
  match newDesired ((setPairs p).contains named) ((clearPairs p).contains named) (desiredOf s b) with
  | some v => setDesired b v s
  | none => s

/-- Every channel of the table, in index order. -/
def allChannels (s : State) : List Binding :=
  (List.range (stationCount s)).flatMap fun n =>
    [{ station := n, channel := .a }, { station := n, channel := .b }]

/-- The desired outputs of the stations named, in index order (R129; log entry 27). -/
def stationOutputData (p : List Byte) (s : State) : List Byte :=
  let named := (setPairs p ++ clearPairs p).map (·.1)
  countedList (((List.range (stationCount s)).filter named.contains).map fun n =>
    optFlag (desiredOf s { station := n, channel := .a })
      ++ optFlag (desiredOf s { station := n, channel := .b }))

/-- STATION OUTPUT: set count, clear count, the pairs (R129). A count above 48 is out of range
(log entry 33). -/
def stationOutput (p : List Byte) (s : State) : State × Answer :=
  let pairs := setPairs p ++ clearPairs p
  if 48 < u8At p 0 || 48 < u8At p 1 then refuse .range s
  else if (stationOf s).isNone then refuse .state s
  else if pairs.any (fun c => !pairExists s c) then refuse .range s
  else if pairs.any (pairOwned s) then refuse .owned s
  else
    let s1 := (allChannels s).foldl (applyOutput p) s
    (s1, .now .accepted (stationOutputData p s1))

/-- The parameters of STATION OUTPUT: 2 bytes and 2 for each pair its counts give (R163). -/
def outputSized (p : List Byte) : Bool :=
  2 ≤ p.length && p.length == 2 + 2 * u8At p 0 + 2 * u8At p 1

def stationOutputRules : Rules :=
  { sized := outputSized, admits := .changing, run := fun _ p s => stationOutput p s }

/-- STATION OUTPUT (R129). -/
def execStationOutput (frame : List Byte) (s : State) : Host.Outcome State Fault Refusal :=
  .next (takeRequest 0x0B stationOutputRules frame s)

/-! ### STATION ENROLL (R130) -/

/-- Whether neither a round nor a sweep is in flight. -/
def lineIdle (s : State) : Bool := !lineBusy s

/-- STATION ENROLL (R130). -/
def stationEnroll (tag : Byte) (s : State) : State × Answer :=
  if s.walk.state ≠ .dig then refuse .state s
  else if enrollBusy s then refuse .busy s
  else
    let s1 := s.withMgmt { s.mgmt with outEnroll := some { code := 0x0C, tag := tag } }
    if lineIdle s then (startEnrollment s1, .later)
    else (s1.withLine { s1.line with enrollWaiting := true }, .later)

def stationEnrollRules : Rules :=
  { sized := fixed 0, admits := .changing, run := fun tag _ s => stationEnroll tag s }

/-- STATION ENROLL (R130). -/
def execStationEnroll (frame : List Byte) (s : State) : Host.Outcome State Fault Refusal :=
  .next (takeRequest 0x0C stationEnrollRules frame s)

end Sys2Proof.Machine
end

