-- ==== Sys2Proof/Config.lean ====
section
/-! DEFINITION. What one unit of the part fixes and the manual does not state. -/

namespace Sys2Proof

/-- The logic revision of IDENTIFY, "a number 0..255, fixed in the unit's logic" (R173).
A free value: no body, so nothing can be proved of it (log entry 25). -/
opaque Config.logicRevision : Byte

end Sys2Proof
end

