-- ==== Sys2Proof/Machine/Commit.lean ====
section
/-! DEFINITION. Making a staged image active and what each block does at a commit (R182, R43, R61,
R64, R83, R89, R110, R132, R157, R158). -/

namespace Sys2Proof.Machine

/-- Steps 1 and 2 of R157 for the slots chosen: their entries are removed in list order, their timers
cancelled, their conditions made false. -/
def dropSlots (which : Nat → Bool) (s : State) : State :=
  let s1 := ((s.alarm.list.map (·.slot)).filter which).foldl (fun acc n => removeListed n acc) s
  s1.withAlarm { s1.alarm with
    slots := s1.alarm.slots.zipIdx.map fun (x, n) => if which n then Slot.start else x }

/-- Whether a slot is a loaded one, 12..63. -/
def isLoaded (n : Nat) : Bool := 12 ≤ n

/-- Whether slot n is loaded with a definition of a property. -/
def loadedWith (s : State) (p : AlarmDef → Bool) (n : Nat) : Bool :=
  isLoaded n &&
    match (definitionsOf s)[n - 12]? with
    | some d => p d
    | none => false

/-- Whether a definition has a station source or an output (R158, STATION commit). -/
def touchesStation (d : AlarmDef) : Bool :=
  d.attrs.output.isSome ||
    match d.source with
    | .stationLevel _ _ => true
    | .stationEdge _ => true
    | .driveFlag _ _ => false
    | .driveValue _ _ _ _ _ => false
    | .zone _ => false
    | .sector _ => false

/-- Whether a definition has a SECTOR source (R158, SWING commit). -/
def touchesSector (d : AlarmDef) : Bool :=
  match d.source with
  | .sector _ => true
  | .stationLevel _ _ => false
  | .stationEdge _ => false
  | .driveFlag _ _ => false
  | .driveValue _ _ _ _ _ => false
  | .zone _ => false

/-- Binding is settled and slot 10 re-evaluated (R138). -/
def settleAlarms (s : State) : State :=
  let s1 := settleBinding s
  evaluate 10 (tableAbsent s1) s1

/-- Set the desired output of every channel the alarm unit owns to its computed value (R158, STATION
commit). -/
def setOwned (s : State) : State :=
  (ownedOutputs s).foldl (fun acc b => setDesired b (computedValue s b) acc) s

/-- Step 1 of R182: the image becomes the active one of its kind, the commit number rises by 1, the
staging buffer becomes EMPTY. -/
def activate (k : Kind) (image : Image) (s : State) : State :=
  let s1 := s.withTables
    { active := s.tables.active.set k (some image)
      commitNo := s.tables.commitNo.set k (s.tables.commitNo.get k + 1) }
  s1.withMgmt { s1.mgmt with staging := .empty }

/-- An ALARM commit (R157): the loaded slots are emptied with the old definitions in force, the table
becomes active, binding is settled, the ZONE and the SECTOR sources are evaluated. -/
def commitAlarm (image : Image) (s : State) : State :=
  let s1 := activate .alarm image (dropSlots isLoaded s)
  let s2 := settleAlarms (s1.withAlarm { s1.alarm with bound := [] })
  let s3 := evaluateBound (zoneSource s2.alarm.lastPosition) s2
  evaluateBound (sectorSource s3.alarm.lastContaining) s3

/-- A SWING commit (R83, R158). -/
def commitSwing (image : Image) (s : State) : State :=
  let s1 := swingCommitAngle (activate .swing image s)
  let s2 := settleAlarms (dropSlots (loadedWith s1 touchesSector) s1)
  closeGates swingMotion (evaluateBound (sectorSource s2.alarm.lastContaining) s2)

/-- A STATION commit (R132, R110, R158). The transaction on the line, with a station of the old table or a
pass of the old round, still finishes. The new round takes its write list when the outputs set at
the commit are pending (R110; log entry 13). -/
def commitStation (image : Image) (s : State) : State :=
  let s1 := walkSettlesCommit (stationCommitLine (lineTransaction s) (activate .station image s))
  startRound (setOwned (settleAlarms (dropSlots (loadedWith s1 touchesStation) s1)))

/-- Steps 1 to 3 of R182, by kind (R177). -/
def commitEffects : Kind → Image → State → State
  | .plant, image, s => activate .plant image s
  | .geometry, image, s => geometryCommit (activate .geometry image s)
  | .zone, image, s => activate .zone image s
  | .swing, image, s => commitSwing image s
  | .walk, image, s => settleAlarms (walkSettlesCommit (activate .walk image s))
  | .alarm, image, s => commitAlarm image s
  | .station, image, s => commitStation image s

/-- Whether the owner's state admits a commit (R182 check 3, R89, R132). -/
def commitAdmitted (s : State) : Kind → Bool
  | .walk => s.walk.state == .dig
  | .station => s.walk.state == .dig && !enrollBusy s
  | .plant => true
  | .geometry => true
  | .zone => true
  | .swing => true
  | .alarm => true

/-- The steps of an accepted TABLE COMMIT (R182). -/
def commitTable (k : Kind) (image : Image) (s : State) : State :=
  let s1 := commitEffects k image s
  startWrite (.image k image) (evaluate 10 (tableAbsent s1) s1)

end Sys2Proof.Machine
end

