-- ==== Sys2Proof/Machine/TableRequests.lean ====
section
/-! DEFINITION. The requests on tables (R179 to R185) and IDENTIFY (R173). -/

namespace Sys2Proof.Machine

/-! ### IDENTIFY (R173) -/

/-- The capacities, in the order of the table of R173. They are twelve, sent with no count byte before them,
which R193 leaves open (log entry 49). -/
def capacities : List Nat :=
  [driveQueueCap, cabQueueCap, 240, 224, 24, 64, 52, 16, 8, noticeCap, logCap, enrollCap]

/-- The result data of IDENTIFY (R173). The logic revision is the unit's own (log entry 25); no count byte
stands before the capacities (log entry 49). -/
def identifyData (s : State) : List Byte :=
  u16 418 ++ [Config.logicRevision] ++ u8 (lockCode s.mgmt.lock) ++ u8 s.mgmt.attempts
    ++ capacities.flatMap u16

def identifyRules : Rules :=
  { sized := fixed 0, admits := .every, run := fun _ _ s => readAnswer identifyData s }

/-- IDENTIFY (R173). -/
def execIdentify (frame : List Byte) (s : State) : Host.Outcome State Fault Refusal :=
  .next (takeRequest 0x01 identifyRules frame s)

/-! ### TABLE STATE (R185) -/

/-- The table state of a kind: 0 ABSENT, 1 ACTIVE, 2 UNUSABLE (R88, R185). -/
def tableStateCode (s : State) (k : Kind) : Nat :=
  if (s.tables.active.get k).isNone then 0
  else if k = .walk ∧ s.walk.usable = false then 2
  else 1

/-- The length of the active image, 0 when ABSENT (R185). -/
def imageLength (s : State) (k : Kind) : Nat :=
  match s.tables.active.get k with
  | some image => image.length
  | none => 0

/-- What TABLE STATE carries for one kind (R185). -/
def kindData (s : State) (k : Kind) : List Byte :=
  u8 (tableStateCode s k) ++ u16 (imageLength s k) ++ u8 (s.tables.commitNo.get k).toNat
    ++ u8 (retStatusCode (s.store.imageStatus.get k))
    ++ u8 (if k = .alarm then unboundCount s else 0)

/-- The state of the staging buffer with what it holds (R178, R185; log entry 29). -/
def stagingData (s : State) : List Byte :=
  match s.mgmt.staging with
  | .empty => u8 0
  | .open k total bytes => u8 1 ++ u8 (kindCode k) ++ u16 bytes.length ++ u16 total
  | .staged k image => u8 2 ++ u8 (kindCode k) ++ u16 image.length

/-- The result data of TABLE STATE (R185; log entries 18 and 29). The groups of the kinds are seven, sent with
no count byte before them, which R193 leaves open (log entry 49). -/
def tableStateData (s : State) : List Byte :=
  allKinds.flatMap (kindData s)
    ++ u8 (retStatusCode s.store.keyStatus) ++ u8 (retStatusCode s.store.limitsStatus)
    ++ optU8 (s.store.inFlight.map itemCode) ++ stagingData s

def tableStateRules : Rules :=
  { sized := fixed 0, admits := .every, run := fun _ _ s => readAnswer tableStateData s }

/-- TABLE STATE (R185). -/
def execTableState (frame : List Byte) (s : State) : Host.Outcome State Fault Refusal :=
  .next (takeRequest 0x02 tableStateRules frame s)

/-! ### TABLE READ (R184) -/

/-- TABLE READ: kind, offset, length (R184; log entry 26). -/
def tableRead (p : List Byte) (s : State) : State × Answer :=
  match kindOfCode (u8At p 0) with
  | none => refuse .range s
  | some k =>
    match s.tables.active.get k with
    | none => refuse .state s
    | some image =>
      let offset := u16At p 1
      let length := u8At p 3
      if !within 1 length 224 || image.length < offset + length then refuse .range s
      else
        (s, .now .accepted (u8 (kindCode k) ++ u8 (s.tables.commitNo.get k).toNat
          ++ u16 image.length ++ (image.drop offset).take length))

def tableReadRules : Rules :=
  { sized := fixed 4, admits := .every, run := fun _ p s => tableRead p s }

/-- TABLE READ (R184). -/
def execTableRead (frame : List Byte) (s : State) : Host.Outcome State Fault Refusal :=
  .next (takeRequest 0x03 tableReadRules frame s)

/-! ### TABLE BEGIN (R179) -/

/-- The staging buffer replaced. -/
def setStaging (x : Staging) (s : State) : State := s.withMgmt { s.mgmt with staging := x }

/-- TABLE BEGIN: kind, total length (R179). -/
def tableBegin (p : List Byte) (s : State) : State × Answer :=
  match kindOfCode (u8At p 0) with
  | none => refuse .range s
  | some k =>
    let total := u16At p 1
    if lengthFits k total then
      (setStaging (.open k total []) s, .now .accepted (u8 (kindCode k) ++ u16 total))
    else refuse .range s

def tableBeginRules : Rules :=
  { sized := fixed 3, admits := .changing, run := fun _ p s => tableBegin p s }

/-- TABLE BEGIN (R179). -/
def execTableBegin (frame : List Byte) (s : State) : Host.Outcome State Fault Refusal :=
  .next (takeRequest 0x04 tableBeginRules frame s)

/-! ### TABLE BLOCK (R180) -/

/-- The count of bytes received, none while the buffer is not OPEN (R180). -/
def stagedCount (s : State) : Option Nat :=
  match s.mgmt.staging with
  | .open _ _ bytes => some bytes.length
  | .empty => none
  | .staged _ _ => none

/-- TABLE BLOCK: offset, data length, data (R180). Every outcome carries a count. -/
def tableBlock (p : List Byte) (s : State) : State × Answer :=
  let offset := u16At p 0
  let n := u8At p 2
  let data := p.drop 3
  if 224 < n then (s, .now .range (optU16 (stagedCount s)))
  else
    match s.mgmt.staging with
    | .open k total bytes =>
      if offset ≠ bytes.length then (s, .now .sequence (u16 bytes.length))
      else if total < bytes.length + n then (setStaging .empty s, .now .range (u16 bytes.length))
      else (setStaging (.open k total (bytes ++ data)) s, .now .accepted (u16 (bytes.length + n)))
    | .empty => (s, .now .sequence (optU16 none))
    | .staged _ _ => (s, .now .sequence (optU16 none))

/-- The parameters of TABLE BLOCK: 3 bytes and as many as the data length says (R163). -/
def blockSized (p : List Byte) : Bool := 3 ≤ p.length && p.length == 3 + u8At p 2

def tableBlockRules : Rules :=
  { sized := blockSized, admits := .changing, run := fun _ p s => tableBlock p s }

/-- TABLE BLOCK (R180). -/
def execTableBlock (frame : List Byte) (s : State) : Host.Outcome State Fault Refusal :=
  .next (takeRequest 0x05 tableBlockRules frame s)

/-! ### TABLE END (R181) -/

/-- TABLE END (R181). -/
def tableEnd (s : State) : State × Answer :=
  match s.mgmt.staging with
  | .open k total bytes =>
    if bytes.length ≠ total then (s, .now .sequence (u16 bytes.length))
    else if !trailerOk bytes then (setStaging .empty s, .now .integrity [])
    else
      match validateContent k bytes with
      | some offset => (setStaging .empty s, .now .range (u16 offset))
      | none =>
        (setStaging (.staged k bytes) s, .now .accepted (u8 (kindCode k) ++ u16 total))
  | .empty => refuse .sequence s
  | .staged _ _ => refuse .sequence s

def tableEndRules : Rules :=
  { sized := fixed 0, admits := .changing, run := fun _ _ s => tableEnd s }

/-- TABLE END (R181). -/
def execTableEnd (frame : List Byte) (s : State) : Host.Outcome State Fault Refusal :=
  .next (takeRequest 0x06 tableEndRules frame s)

/-! ### TABLE COMMIT (R182, R183) -/

/-- The image staged for a kind code (R182 check 2). -/
def stagedFor (code : Nat) (s : State) : Option (Kind × Image) :=
  match s.mgmt.staging with
  | .staged k image => if kindCode k = code then some (k, image) else none
  | .empty => none
  | .open _ _ _ => none

/-- TABLE COMMIT: kind, RETAIN_NOW (R182, R183). A RETAIN_NOW byte above 1 is refused before the
request's own conditions (R195). -/
def tableCommit (tag : Byte) (p : List Byte) (s : State) : State × Answer :=
  if 1 < u8At p 1 then refuse .range s
  else
    match stagedFor (u8At p 0) s with
    | none => refuse .sequence s
    | some (k, image) =>
      if !commitAdmitted s k then refuse .state s
      else if writing s then refuse .busy s
      else
        let s1 := commitTable k image s
        if u8At p 1 = 1 then
          (s1.withMgmt { s1.mgmt with outCommit := some { code := 0x07, tag := tag } }, .later)
        else (s1, .now .accepted (commitData k s1))

def tableCommitRules : Rules :=
  { sized := fixed 2, admits := .changing, run := tableCommit }

/-- TABLE COMMIT (R182). -/
def execTableCommit (frame : List Byte) (s : State) : Host.Outcome State Fault Refusal :=
  .next (takeRequest 0x07 tableCommitRules frame s)

end Sys2Proof.Machine
end

