-- ==== Sys2Proof/Machine/Dispatch.lean ====
section
/-! DEFINITION. The meaning of every command, one arm for each constructor of Instr. -/

namespace Sys2Proof.Machine

def exec (i : Instr) (s : State) : Host.Outcome State Fault Refusal :=
  match i with
  | .frameDiscarded port frame => Sys2Proof.Machine.execFrameDiscarded port frame s
  | .refTakenFromCab frame => Sys2Proof.Machine.execRefTakenFromCab frame s
  | .statTaken frame => Sys2Proof.Machine.execStatTaken frame s
  | .passTraffic port frame => Sys2Proof.Machine.execPassTraffic port frame s
  | .mreqDiscarded frame => Sys2Proof.Machine.execMreqDiscarded frame s
  | .transmissionCompletion port => Sys2Proof.Machine.execTransmissionCompletion port s
  | .deferredConfirmationOffered => Sys2Proof.Machine.execDeferredConfirmationOffered s
  | .cabSilenceTimerExpiry => Sys2Proof.Machine.execCabSilenceTimerExpiry s
  | .holdTimerExpiry => Sys2Proof.Machine.execHoldTimerExpiry s
  | .driveSilenceTimerExpiry drive => Sys2Proof.Machine.execDriveSilenceTimerExpiry drive s
  | .transferTimerExpiry => Sys2Proof.Machine.execTransferTimerExpiry s
  | .scanTimerExpiry => Sys2Proof.Machine.execScanTimerExpiry s
  | .deferredRoundStart => Sys2Proof.Machine.execDeferredRoundStart s
  | .enrollmentSweepStart => Sys2Proof.Machine.execEnrollmentSweepStart s
  | .writeOutputs answer => Sys2Proof.Machine.execWriteOutputs answer s
  | .writeCondition answer => Sys2Proof.Machine.execWriteCondition answer s
  | .readClearing answer => Sys2Proof.Machine.execReadClearing answer s
  | .seekIfPass answer => Sys2Proof.Machine.execSeekIfPass answer s
  | .seekPass answer => Sys2Proof.Machine.execSeekPass answer s
  | .roundCompletion => Sys2Proof.Machine.execRoundCompletion s
  | .delayTimerExpiry slot => Sys2Proof.Machine.execDelayTimerExpiry slot s
  | .timeCounterTick => Sys2Proof.Machine.execTimeCounterTick s
  | .retainedWriteCompletion success => Sys2Proof.Machine.execRetainedWriteCompletion success s
  | .restartTakesEffect => Sys2Proof.Machine.execRestartTakesEffect s
  | .powerOnStart found => Sys2Proof.Machine.execPowerOnStart found s
  | .briefSupplyDipStart => Sys2Proof.Machine.execBriefSupplyDipStart s
  | .briefSupplyDipEnd => Sys2Proof.Machine.execBriefSupplyDipEnd s
  | .supplyLoss => Sys2Proof.Machine.execSupplyLoss s
  | .identify frame => Sys2Proof.Machine.execIdentify frame s
  | .tableState frame => Sys2Proof.Machine.execTableState frame s
  | .tableRead frame => Sys2Proof.Machine.execTableRead frame s
  | .tableBegin frame => Sys2Proof.Machine.execTableBegin frame s
  | .tableBlock frame => Sys2Proof.Machine.execTableBlock frame s
  | .tableEnd frame => Sys2Proof.Machine.execTableEnd frame s
  | .tableCommit frame => Sys2Proof.Machine.execTableCommit frame s
  | .limitsRead frame => Sys2Proof.Machine.execLimitsRead frame s
  | .limitsSet frame => Sys2Proof.Machine.execLimitsSet frame s
  | .stationStatus frame => Sys2Proof.Machine.execStationStatus frame s
  | .stationOutput frame => Sys2Proof.Machine.execStationOutput frame s
  | .stationEnroll frame => Sys2Proof.Machine.execStationEnroll frame s
  | .alarmListRead frame => Sys2Proof.Machine.execAlarmListRead frame s
  | .alarmAcknowledge frame => Sys2Proof.Machine.execAlarmAcknowledge frame s
  | .alarmReAnnounce frame => Sys2Proof.Machine.execAlarmReAnnounce frame s
  | .firstOutRead frame => Sys2Proof.Machine.execFirstOutRead frame s
  | .firstOutClear frame => Sys2Proof.Machine.execFirstOutClear frame s
  | .logRead frame => Sys2Proof.Machine.execLogRead frame s
  | .keySet frame => Sys2Proof.Machine.execKeySet frame s
  | .keyUnlock frame => Sys2Proof.Machine.execKeyUnlock frame s
  | .keyClear frame => Sys2Proof.Machine.execKeyClear frame s
  | .guard frame => Sys2Proof.Machine.execGuard frame s
  | .freeze frame => Sys2Proof.Machine.execFreeze frame s
  | .restart frame => Sys2Proof.Machine.execRestart frame s
  | .undefinedRequestCode frame => Sys2Proof.Machine.execUndefinedRequestCode frame s

end Sys2Proof.Machine
end

