-- ==== Sys2Proof/Machine/FieldStation.lean ====
section
/-! DEFINITION. What a field station does at the commands of the line (R112, R113, R116). Stations are
outside the part: they are no field of State, and their answers are operands of the commands (log
entry 32). These functions say which answers a station gives. -/

namespace Sys2Proof.Machine

/-- A field station (R112, R113). -/
structure FieldStation where
  identity  : Identity
  levels    : PerChannel Bool
  outputs   : PerChannel Bool
  latches   : PerChannel Bool
  powerUp   : Bool
  condition : StationCondition
deriving DecidableEq, Repr

/-- A change of a channel's input level sets its latch; the same level again changes nothing
(R112). -/
def FieldStation.input (f : FieldStation) (c : Channel) (level : Bool) : FieldStation :=
  if f.levels.get c = level then f
  else { f with levels := f.levels.set c level, latches := f.latches.set c true }

/-- The status byte (R112, 10.5). -/
def FieldStation.statusByte (f : FieldStation) : Byte :=
  BitVec.ofNat 8 (f.levels.a.toNat + 2 * f.levels.b.toNat + 4 * f.outputs.a.toNat
    + 8 * f.outputs.b.toNat + 16 * f.latches.a.toNat + 32 * f.latches.b.toNat
    + 64 * f.powerUp.toNat)

/-- A reply with its check (R114). -/
def replyOf (body : List Byte) : PickedAnswer := .reply (body ++ checkBytes body)

/-- READ CLEARING: the reply, and the station with the reported latches cleared (R112). -/
def FieldStation.readClearing (f : FieldStation) : PickedAnswer × FieldStation :=
  (replyOf [f.statusByte], { f with latches := .both false })

/-- WRITE OUTPUTS: both outputs are set; the reply gives them in bits 2 and 3 (R112, 10.5). -/
def FieldStation.writeOutputs (f : FieldStation) (v : PerChannel Bool) :
    PickedAnswer × FieldStation :=
  (replyOf [BitVec.ofNat 8 (4 * v.a.toNat + 8 * v.b.toNat)], { f with outputs := v })

/-- WRITE CONDITION: the condition is replaced, the power-up flag cleared (R113). -/
def FieldStation.writeCondition (f : FieldStation) (c : StationCondition) :
    ConditionAnswer × FieldStation :=
  (.reply c true, { f with condition := c, powerUp := false })

/-- Station power-up (R113). The manual names no source for the condition NEITHER: its source is the
one held before. -/
def FieldStation.powerUpStation (f : FieldStation) : FieldStation :=
  { f with
    outputs := .both false, latches := .both false, powerUp := true
    condition := { f.condition with choice := .neither, polarity := true } }

/-- The source value of a channel (R113). -/
def FieldStation.sourceValue (f : FieldStation) (c : Channel) : Bool :=
  match f.condition.source with
  | .latch => f.latches.get c
  | .output => f.outputs.get c
  | .level => f.levels.get c

/-- Whether the station's condition holds (R113). -/
def FieldStation.conditionHolds (f : FieldStation) : Bool :=
  match f.condition.choice with
  | .neither => false
  | .a => f.sourceValue .a == f.condition.polarity
  | .b => f.sourceValue .b == f.condition.polarity
  | .either => (f.sourceValue .a || f.sourceValue .b) == f.condition.polarity

/-- The two reads of a slot in which the participants send an identity bit and its complement, a 0
overriding a 1 (R116). -/
def slotReads (participants : List Identity) (position : Nat) : Bool × Bool :=
  (participants.all (·.getLsbD position), participants.all fun i => !i.getLsbD position)

/-- The reads of the slots of a pass from position n − 1 down, as the part chooses its bits: a
participant whose bit differs from the one sent drops out (R116). -/
def passReads (sweep : Sweep) : (n : Nat) → List Identity → List (Bool × Bool)
  | 0, _ => []
  | n + 1, participants =>
    let reads := slotReads participants n
    match slotBit sweep n reads with
    | none => [reads]
    | some (bit, _) =>
      reads :: passReads sweep n (participants.filter fun i => i.getLsbD n == bit)

/-- What the line gives back to a pass in which these identities take part (R116). -/
def passAnswer (sweep : Sweep) (participants : List Identity) : PassAnswer :=
  .slots (passReads sweep 48 participants)

end Sys2Proof.Machine
end

