-- ==== Sys2Proof/Safety.lean ====
section
/-! DEFINITION. What the statements speak of: the invariants of the part, what a request's confirmation
leaves, and what raising and removing alarms may touch. -/

namespace Sys2Proof.Machine

/-! ### The ports (1.3, 1.4) -/

/-- How many frames of a kind wait in a queue. -/
def waiting (k : FrameKind) (queue : List QFrame) : Nat := queue.countP (·.kind == k)

/-- A port without a frame. -/
def PortState.silent : PortState := { tx := none, queue := [] }

/-- The frames at a port in the order they leave it: the one in transmission, then the queue (R7). -/
def PortState.frames (p : PortState) : List QFrame := p.tx.toList ++ p.queue

/-- The frame that joined a port last stands last (R7). -/
def PortState.newest (p : PortState) : Option QFrame := p.frames.getLast?

/-- The queues of R7 to R10: their capacities, the frames that may wait in them, an idle transmitter
before an empty queue, the held place, and the ports without supply or in a dip (R191). -/
def PortsInv (s : State) : Prop :=
  (∀ f ∈ s.link.drivePort.queue, f.kind = .ref ∨ f.kind = .pass)
    ∧ s.link.drivePort.queue.length ≤ 4
    ∧ waiting .ref s.link.drivePort.queue ≤ 1
    ∧ (∀ f ∈ s.link.cabPort.queue, f.kind ≠ .ref)
    ∧ s.link.cabPort.queue.length ≤ 8
    ∧ (∀ k, k ≠ .pass → waiting k s.link.cabPort.queue ≤ 1)
    ∧ (s.link.drivePort.tx = none → s.link.drivePort.queue = [])
    ∧ (s.link.cabPort.tx = none → s.link.cabPort.queue = [])
    ∧ (∀ f, s.link.held = some f → f.kind = .mcnf true)
    ∧ (s.power ≠ .on → s.link.drivePort = .silent ∧ s.link.cabPort = .silent ∧ s.link.held = none)

/-- A hold frame (R16). -/
def IsHoldFrame (f : QFrame) : Prop := ∃ mode cycle, f.bytes = holdFrameBytes mode cycle

/-- While the cab link is in WAITING or HOLD, every REF that waits at the drive port is a hold frame
(R16). -/
def HoldInv (s : State) : Prop :=
  s.link.cabState ≠ .normal → ∀ f ∈ s.link.drivePort.queue, f.kind = .ref → IsHoldFrame f

/-- The timers run exactly in the states that 1.4, 1.5, R96 and R122 give them. Outside STARTUP and DIG
the active WALK table is usable (R88, R89, R95), so that a sub-step has its timeout. -/
def TimersInv (s : State) : Prop :=
  s.power ≠ .off →
    (s.link.silenceTimer.isSome = true ↔ s.link.cabState = .normal)
      ∧ (s.link.holdTimer.isSome = true ↔ s.link.cabState ≠ .normal)
      ∧ (∀ m, (s.link.drives.get m).timer.isSome = true ↔ (s.link.drives.get m).freshness = .fresh)
      ∧ (s.walk.sub ≠ .none ↔ s.walk.state = .transferOut ∨ s.walk.state = .transferBack)
      ∧ (s.walk.transferTimer.isSome = true ↔ s.walk.sub ≠ .none)
      ∧ (s.walk.state ≠ .startup → s.walk.state ≠ .dig → (usableWalk s).isSome = true)
      ∧ s.line.scanTimer.isSome = true

/-! ### Travel limits (R35) -/

/-- A pair of limits within its native range (R35). -/
def PairWithin (nativeMin lo hi nativeMax : Nat) : Prop := nativeMin ≤ lo ∧ lo < hi ∧ hi ≤ nativeMax

/-- The working limits lie within the native limits while a GEOMETRY table is active, and there are
none without one (R35). -/
def LimitsInv (s : State) : Prop :=
  match geometryOf s with
  | none => s.position.working = none
  | some g =>
    match s.position.working with
    | none => False
    | some w =>
      PairWithin g.native.hoistMin w.hoistMin w.hoistMax g.native.hoistMax
        ∧ PairWithin g.native.dragMin w.dragMin w.dragMax g.native.dragMax

/-- A drum's pair of limits clamped into its native range: each bound raised to the native min or lowered
to the native max, and the native pair where the clamped min is then not below the clamped max (R36). -/
def PairClamped (nativeMin nativeMax lo hi lo' hi' : Nat) : Prop :=
  let bound (x : Nat) : Nat :=
    if x < nativeMin then nativeMin else if nativeMax < x then nativeMax else x
  (bound lo < bound hi → lo' = bound lo ∧ hi' = bound hi)
    ∧ (¬ bound lo < bound hi → lo' = nativeMin ∧ hi' = nativeMax)

/-- Both drums' pairs clamped into the native range (R36). -/
def LimitsClamped (native l l' : Limits) : Prop :=
  PairClamped native.hoistMin native.hoistMax l.hoistMin l.hoistMax l'.hoistMin l'.hoistMax
    ∧ PairClamped native.dragMin native.dragMax l.dragMin l.dragMax l'.dragMin l'.dragMax

/-! ### Tables and staging (R177, R178, R182, R189) -/

/-- Every active image has the length, the trailer and the content of its kind; so has a STAGED one;
an OPEN buffer holds no more bytes than its total length, which its kind can have. -/
def ImagesInv (s : State) : Prop :=
  (∀ k image, s.tables.active.get k = some image → imageValid k image = true)
    ∧ match s.mgmt.staging with
      | .empty => True
      | .open k total bytes => lengthFits k total = true ∧ bytes.length ≤ total
      | .staged k image => imageValid k image = true

/-! ### The lists of the sweeps (R117, R124, R130) -/

/-- An identity that joins the list of its sweep: its check byte matches, and it is above every one
listed (R117; log entry 43). -/
abbrev Joins (listed : List Identity) (i : Identity) : Prop :=
  identityOk i = true ∧ ∀ j ∈ listed, j.toNat < i.toNat

/-- Identities in strictly ascending order (R117). -/
def Ascending (listed : List Identity) : Prop := listed.Pairwise fun i j => i.toNat < j.toNat

/-- The found list names stations of the active table, their identities strictly ascending, at most 24
(R124); the list of a running enrollment sweep is strictly ascending and holds at most 32 (R130). -/
def SweepListsInv (s : State) : Prop :=
  (∀ n ∈ s.line.found, n < stationCount s)
    ∧ Ascending (foundIdentities s)
    ∧ s.line.found.length ≤ 24
    ∧ ∀ e, s.line.flight = .enroll e → Ascending e.list ∧ e.list.length ≤ 32

/-! ### The retained store (R167, R186, R187) -/

/-- What a status says of an item's valid copy (R186). -/
def StatusFits (hasCopy : Bool) (status : RetStatus) : Prop := hasCopy = true ↔ status = .current

/-- The statuses of the nine items say what the store holds; an item is WRITING exactly while its
write is in flight; the valid copy of an image is the active image, the valid copy of the key the key
held (R167, R186). -/
def StoreInv (s : State) : Prop :=
  s.power ≠ .off →
    (∀ k, StatusFits (s.store.images.get k).isSome (s.store.imageStatus.get k))
      ∧ StatusFits s.store.keyCopy.isSome s.store.keyStatus
      ∧ StatusFits s.store.limitsCopy.isSome s.store.limitsStatus
      ∧ (∀ k, s.store.imageStatus.get k = .writing ↔ ∃ b, s.store.inFlight = some (.image k b))
      ∧ (s.store.keyStatus = .writing ↔ ∃ v, s.store.inFlight = some (.key v))
      ∧ (s.store.limitsStatus = .writing ↔ ∃ l, s.store.inFlight = some (.limits l))
      ∧ (∀ k b, s.store.images.get k = some b → s.tables.active.get k = some b)
      ∧ (∀ k b, s.store.inFlight = some (.image k b) → s.tables.active.get k = some b)
      ∧ (∀ v, s.store.keyCopy = some v → s.mgmt.key = some v)
      ∧ (∀ v, s.store.inFlight = some (.key v) → s.mgmt.key = v)

/-- The lock, the key and the attempts count (8.4, R167): OPEN holds no key, LOCKED and UNLOCKED hold
one of 16 bytes, the count is at most 5. -/
def LockInv (s : State) : Prop :=
  s.mgmt.attempts ≤ 5
    ∧ (s.mgmt.lock = .open → s.mgmt.key = none)
    ∧ (s.mgmt.lock = .locked → s.mgmt.key.isSome = true)
    ∧ (s.mgmt.lock = .unlocked → s.mgmt.key.isSome = true)
    ∧ (∀ key, s.mgmt.key = some key → key.length = 16)
    ∧ s.mgmt.deferredStore ≤ 9

/-! ### Alarms (R134, R142, R144, R151, R154) -/

/-- What R142 and the table of 7.4 say of one slot: PENDING exactly while its condition is true and it
has no entry; a RAISED entry's condition is true, a RETURNED_UNACK entry's is false. -/
def SlotFits (slot : Slot) : Option Entry → Prop
  | none => slot.condition = slot.delay.isSome
  | some e => slot.delay = none ∧ (slot.condition = true ↔ e.state ≠ .returnedUnack)

/-- The alarm unit: 64 slots, at most one entry for each, the capacities of the notice queue and of
the log, and every slot as R142 has it. -/
def AlarmInv (s : State) : Prop :=
  s.alarm.slots.length = 64
    ∧ (s.alarm.list.map (·.slot)).Nodup
    ∧ (∀ e ∈ s.alarm.list, e.slot < 64)
    ∧ s.alarm.notices.length ≤ 8
    ∧ s.alarm.log.length ≤ 256
    ∧ ∀ n, n < 64 → SlotFits (slotOf s n) (entryOf s n)

/-! ### The history log (R154) -/

/-- The log entries of events at one time, each a kind and a slot: the sequence numbers run on from the
first (R154). -/
def logEntries (seq time : BitVec 32) : List (LogKind × Nat) → List LogEntry
  | [] => []
  | (kind, slot) :: rest =>
    { seq := seq, kind := kind, slot := slot, time := time } :: logEntries (seq + 1) time rest

/-- The history log after some events at the present time: their entries join in order, and of more than
256 the oldest are overwritten (R154). -/
def logAfter (s : State) (events : List (LogKind × Nat)) : List LogEntry :=
  let log := s.alarm.log ++ logEntries s.alarm.nextSeq s.alarm.time events
  log.drop (log.length - 256)

/-- Between two states the events were logged, in order, and nothing else (R154). -/
def Logged (events : List (LogKind × Nat)) (s t : State) : Prop :=
  t.alarm.log = logAfter s events
    ∧ t.alarm.nextSeq = s.alarm.nextSeq + BitVec.ofNat 32 events.length

/-- The removals of the listed slots with a property, in list order (R157, R158). -/
def removals (s : State) (which : Nat → Bool) : List (LogKind × Nat) :=
  ((s.alarm.list.map (·.slot)).filter which).map fun n => (.remove, n)

/-! ### A raise (R144), and binding (R137) -/

/-- Slot n, with its attributes, has raised between two states, its condition then c: the six steps of
R144, with the first-out record of R149, and nothing else. -/
def Raised (n : Nat) (a : Attrs) (c : Bool) (s t : State) : Prop :=
  t.alarm.list = s.alarm.list ++ [{ slot := n, state := .raisedUnack, time := s.alarm.time }]
    ∧ slotOf t n = { condition := c, delay := none }
    ∧ Logged [(.raise, n)] s t
    ∧ t.alarm.firstOut = (if (a.cls = .stop ∨ a.cls = .trip) ∧ s.alarm.firstOut = none then
        some
          { slot := n, time := s.alarm.time, status := s.position.status
            reach := s.position.reach, height := s.position.height, zone := s.position.zone
            angle := s.swing.corrected, seqState := s.walk.state, sub := s.walk.sub
            refs := s.shaper.lastRefs }
      else s.alarm.firstOut)
    ∧ t.shaper = { s.shaper with
        gates := if a.cls = .trip then ⟨.gated, .gated, .gated, .gated⟩ else s.shaper.gates }
    ∧ t.alarm.notices = (if a.notify = true ∧ s.alarm.notices.length < 8 then
        s.alarm.notices ++ [n]
      else s.alarm.notices)
    ∧ (∀ b r, a.output = some b → computedValue s b = false → walkOwns s b = false →
        recordOf s b.station = some r → recordOf t b.station = some { r with
          desired := r.desired.set b.channel (some true), outputPending := true })
    ∧ (∀ k, a.output.map (·.station) ≠ some k → recordOf t k = recordOf s k)
    ∧ (∀ k, k ≠ n → slotOf t k = slotOf s k)
    ∧ t.power = s.power ∧ t.link = s.link ∧ t.position = s.position ∧ t.swing = s.swing
    ∧ t.walk = s.walk ∧ t.mgmt = s.mgmt ∧ t.store = s.store ∧ t.tables = s.tables

/-- A loaded definition can be bound: the station or sector it names exists, and so does the station of its
output, whose channel no usable WALK table binds a command to (R137). -/
def Binds (s : State) (d : AlarmDef) : Prop :=
  (∀ b, (d.source = .stationEdge b ∨ ∃ polarity, d.source = .stationLevel b polarity) →
      b.station < stationCount s)
    ∧ (∀ n, d.source = .sector n → n < (sectorsOf s).length)
    ∧ ∀ b, d.attrs.output = some b → b.station < stationCount s ∧ walkOwns s b = false

/-! ### The command outputs (R92) -/

/-- What the live records desire of the two command channels, by the state of the walk sequencer: none
after a start, until the STARTUP decision (R92, R111). -/
def CommandsFit (s : State) (w : WalkTable) : Prop :=
  match desiredCommands s.walk.state s.walk.sub with
  | none => desiredOf s w.digCommand = none ∧ desiredOf s w.walkCommand = none
  | some (dig, walk) =>
    desiredOf s w.digCommand = some dig ∧ desiredOf s w.walkCommand = some walk

/-- There is a live record for each enrolled station; a usable WALK table's bindings name enrolled
stations; its command channels are desired as the sequencer's state requires (R88, R92, R120). -/
def CommandsInv (s : State) : Prop :=
  s.line.records.length = stationCount s
    ∧ (s.walk.usable = true → walkUsable s = true)
    ∧ ∀ w, usableWalk s = some w → CommandsFit s w

/-! ### Readings of the walk sequencer (R93, R97) -/

/-- A command is settled to a state: its station PRESENT, no output pending, the output held equal to the
state (R93). -/
def SettledTo (s : State) (b : Binding) (v : Bool) : Prop :=
  ∃ x, recordOf s b.station = some x ∧ x.state = .present ∧ x.outputPending = false
    ∧ x.held.get b.channel = some v

/-- The active list as a REF leaves it to the walk sequencer: in HOLD the condition of slot 0, which is
latched, has become false (R13), so that an acknowledged entry of slot 0 is gone and one not acknowledged
is RETURNED_UNACK (R145); otherwise as it stands. -/
def listHeard (s : State) : List Entry :=
  if s.link.cabState = .hold then
    (s.alarm.list.filter fun e => ¬ (e.slot = 0 ∧ e.state = .raisedAck)).map fun e =>
      if e.slot = 0 then { e with state := .returnedUnack } else e
  else s.alarm.list

/-- The state a REF is judged in by the walk sequencer (R5, R13). -/
def heard (s : State) : State := s.withAlarm { s.alarm with list := listHeard s }

/-- Walk condition n of R97 for a REF, with a usable WALK table: conditions 2 to 8. Condition 1 is that
there is such a table. -/
def WalkCondition (s : State) (p : RefPayload) (w : WalkTable) (n : Nat) : Prop :=
  let band := (plantOf s).neutralBand
  match n with
  | 2 => classListed s .stop = false ∧ classListed s .trip = false
  | 3 => p.refs.hoist.natAbs ≤ band ∧ p.refs.drag.natAbs ≤ band ∧ p.refs.swing.natAbs ≤ band
  | 4 => s.position.status = .resolved
      ∧ ∃ image, s.tables.active.zone = some image
        ∧ (readZone image s.position.zone).walkPark = true
  | 5 => ∃ a, s.swing.corrected = some a ∧ arcContains w.windowStart w.windowEnd a = true
  | 6 => ∀ m, m = .hoist ∨ m = .drag → (s.link.drives.get m).freshness = .fresh
      ∧ ∃ c, (s.link.drives.get m).current = some c ∧ c.natAbs ≤ w.currentThreshold
  | 7 => feedback s w.digFeedback = .closed ∧ feedback s w.walkFeedback = .opened
  | 8 => ∀ b ∈ walkBindings w, ∃ r, recordOf s b.station = some r ∧ r.state = .present
  | _ => True

/-! ### The start of a round (R122, R123) -/

/-- A round has begun between two states. With no STATION table it is due to complete at once. With one,
the pending flag is cleared of each station whose outputs can be written; the round's transactions are,
in index order, the conditions owed and those writes; with none the sweep begins. -/
def RoundBegun (s t : State) : Prop :=
  match s.tables.active.station with
  | none =>
    t.line.records = s.line.records
      ∧ t.line.flight = .round { stage := .completing, jobs := [], sweep := firstSweep, readOk := [] }
  | some _ =>
    t.line.records = s.line.records.map (fun r =>
        { r with outputPending := r.outputPending && (writeValues r).isNone })
      ∧ (let jobs := s.line.records.zipIdx.flatMap fun (r, n) => writeJobs r n
        if jobs = [] then
          t.line.found = []
            ∧ t.line.flight = .round
              { stage := .sweeping, jobs := [], sweep := firstSweep, readOk := [] }
        else
          t.line.found = s.line.found
            ∧ t.line.flight = .round
              { stage := .writing, jobs := jobs, sweep := firstSweep, readOk := [] })

/-! ### The last transaction of a step of a round (R123 to R127) -/

/-- The round, its read list already brought up to date, has moved on after the last transaction of a step,
with station n: from the writes to the sweep, with an empty found list (R124); from the reads of the found
stations to the first station in rotation order that they did not attempt, or to step 5 where they
attempted every one (R126); from the rotation read to step 5, the pointer one beyond n, wrapping at the
station count (R126, R127). -/
def RoundMoved (r : Round) (n : Nat) (s t : State) : Prop :=
  let count := stationCount s
  let start := if s.line.pointer < count then s.line.pointer else 0
  match r.stage with
  | .writing => t.line.found = [] ∧ t.line.pointer = s.line.pointer
      ∧ t.line.flight = .round { r with stage := .sweeping, jobs := [], sweep := firstSweep }
  | .reading => t.line.found = s.line.found ∧ t.line.pointer = s.line.pointer
      ∧ ((∀ k, k < count → k ∈ s.line.found) →
        t.line.flight = .round { r with stage := .completing, jobs := [] })
      ∧ ∀ d, d < count → (start + d) % count ∉ s.line.found →
        (∀ e, e < d → (start + e) % count ∈ s.line.found) →
        t.line.flight
          = .round { r with stage := .rotating, jobs := [.readClearing ((start + d) % count)] }
  | .rotating => t.line.found = s.line.found
      ∧ t.line.pointer = (if n + 1 < count then n + 1 else 0)
      ∧ t.line.flight = .round { r with stage := .completing, jobs := [] }
  | .sweeping => True
  | .completing => True

/-- What the part puts on the line in its picked transaction with station n, an enrolled one: the roll
call; where that is answered, PICK, the six bytes of the identity low byte first, and the command; where
it is not, nothing further (R114). -/
def SentTo (s : State) (n : Nat) (command : Sent) : Prop :=
  ∀ table i, stationOf s = some table → table.ids[n]? = some i →
    ∃ transaction, lineTransaction s = some transaction
      ∧ ∀ reads, sentInTransaction false reads transaction = [.rollCall]
        ∧ sentInTransaction true reads transaction
          = [.rollCall, .pick] ++ ((List.range 6).map fun k => .byte (i.extractLsb' (8 * k) 8))
            ++ [command]

/-! ### A transaction whose round has ended (R132) -/

/-- While a transaction whose round a STATION commit ended is on the line, a command completes it where it
is of the command's kind: its outcome is not recorded, and nothing changes but that the line is free. A
command of another kind changes nothing (R132). -/
def OutcomeNotRecorded (ofKind : Transaction → Prop)
    (run : State → Host.Outcome State Fault Refusal) : Prop :=
  ∀ (s : State) (x : Transaction), s.power ≠ .off → s.line.finishing = some x →
    (ofKind x → run s = .next (s.withLine { s.line with finishing := none }))
      ∧ (¬ ofKind x → run s = .next s)

/-- While such a transaction is on the line, the round started at the commit is in flight and stands before
its first transaction, in step 1 or in step 2; no pass of an enrollment sweep is such a one (R132). -/
def FinishingInv (s : State) : Prop :=
  ∀ x, s.line.finishing = some x → (∀ sweep, x ≠ .seek sweep)
    ∧ ∃ r, s.line.flight = .round r ∧ (r.stage = .writing ∨ r.stage = .sweeping) ∧ r.readOk = []

/-! ### A deferred confirmation that has become due (R10) -/

/-- The deferred confirmation q has become due between two states. While another waits it is held. With
none waiting it joins the cab port last; where one was held, that one goes first, and q follows it, held
where the other now waits. -/
def DeferredJoined (q : QFrame) (s t : State) : Prop :=
  let waits := ∃ f ∈ s.link.cabPort.queue, f.kind = .mcnf true
  (waits → t.link.cabPort = s.link.cabPort ∧ t.link.held = some q)
    ∧ (¬ waits → s.link.held = none → t.link.held = none ∧ t.link.cabPort.newest = some q)
    ∧ ∀ g, ¬ waits → s.link.held = some g →
      (s.link.cabPort.tx = none → t.link.held = none ∧ t.link.cabPort.frames = [g, q])
        ∧ (s.link.cabPort.tx ≠ none →
          t.link.held = some q ∧ t.link.cabPort.newest = some g)

/-! ### What a confirmation leaves (R161, R162, R165) -/

/-- The link after an immediate confirmation: the MCNF joins the cab-port queue with the
deferred-store byte as it stood, and nothing else of the link changes. -/
def confirmedLink (s : State) (code : Nat) (tag : Byte) (outcome : ReqOutcome) (data : List Byte) :
    Link :=
  let frame : QFrame :=
    { kind := .mcnf false
      bytes := buildMcnf code tag (outcomeCode outcome) s.mgmt.deferredStore data }
  { s.link with cabPort := offerTo 8 frame s.link.cabPort }

/-- The state after a request that changes nothing but what every answer changes: the confirmation in
the cab port, the deferred-store byte 0, the sequence flag as given (R38, R161, R165). -/
def answeredOnly (s : State) (code : Nat) (tag : Byte) (outcome : ReqOutcome) (data : List Byte)
    (flag : Bool) : State :=
  (s.withLink (confirmedLink s code tag outcome data)).withMgmt
    { s.mgmt with deferredStore := 0, seqFlag := flag }

/-! ### What raising and removing alarms may touch (R57, R128, R144, R145, R148) -/

/-- A live record without its desired outputs. -/
def undesired (r : LiveRecord) : LiveRecord :=
  { r with desired := .both none, outputPending := false }

/-- Evaluating alarm conditions changes the slots, the list, the first-out record, the notices and the
log; it may close gates and set desired outputs; nothing else. -/
def AlarmsOnly (s t : State) : Prop :=
  t.power = s.power ∧ t.link = s.link ∧ t.position = s.position ∧ t.swing = s.swing
    ∧ t.walk = s.walk ∧ t.mgmt = s.mgmt ∧ t.store = s.store ∧ t.tables = s.tables
    ∧ t.pending = s.pending
    ∧ t.shaper.limits = s.shaper.limits ∧ t.shaper.lastRefs = s.shaper.lastRefs
    ∧ t.line = { s.line with records := t.line.records }
    ∧ t.line.records.map undesired = s.line.records.map undesired
    ∧ t.alarm.time = s.alarm.time ∧ t.alarm.bound = s.alarm.bound
    ∧ t.alarm.lastPosition = s.alarm.lastPosition
    ∧ t.alarm.lastContaining = s.alarm.lastContaining

/-! ### What a restart leaves (R174, R175) -/

/-- A restart has taken effect between two states (R175 and each block's own restart): the link waits with
its hold frame in transmission or behind the frame there (R7, R11, R12, R18), the position unit, the shaper,
the swing unit and the walk sequencer hold their start values but for what a restart keeps (R26, R32, R36,
R56, R84, R111), the line begins its first round (R133, R122), every listed entry is logged as removed and
slots 10 and 11 raise anew where their conditions hold (R160). The choices in it: log entries 12, 14, 42, 45
and 48. -/
def Restarted (s t : State) : Prop :=
  t.mgmt = { s.mgmt with
      restartPending := false, seqFlag := false, outCommit := none, outEnroll := none
      staging := .empty }
    ∧ t.tables = s.tables ∧ t.store = s.store ∧ t.power = s.power
    ∧ t.link.cabState = .waiting ∧ t.link.silenceTimer = none ∧ t.link.lastCycle = none
    ∧ t.link.lastOriginHold = true ∧ t.link.holdTimer = some (plantOf s).holdInterval
    ∧ t.link.cabPort = { s.link.cabPort with queue := [] } ∧ t.link.held = none
    ∧ t.link.drivePort.frames
      = s.link.drivePort.tx.toList ++ [{ kind := .ref, bytes := holdFrameBytes 0 0 }]
    ∧ (∀ m, t.link.drives.get m = { current := none, freshness := .unseen, timer := none })
    ∧ t.position = { PositionUnit.start with working := s.position.working }
    ∧ t.shaper = Shaper.start ∧ t.swing = SwingUnit.start
    ∧ t.walk = { WalkSequencer.start with
        usable := s.walk.usable, stepCount := s.walk.stepCount }
    ∧ t.line.records = List.replicate (stationCount s) freshRecord
    ∧ t.line.scanTimer = some (scanPeriod s) ∧ t.line.pointer = 0 ∧ t.line.found = []
    ∧ t.line.deferredStart = false ∧ t.line.enrollWaiting = false ∧ t.line.finishing = none
    ∧ t.line.flight = .round
      { stage := if s.tables.active.station = none then .completing else .sweeping
        jobs := [], sweep := firstSweep, readOk := [] }
    ∧ (∀ e ∈ t.alarm.list, e.slot = 10 ∨ e.slot = 11)
    ∧ (let raised := (if tableAbsent s then [10] else []) ++ (if storeFailed s then [11] else [])
      t.alarm.list = raised.map (fun n => { slot := n, state := .raisedUnack, time := s.alarm.time })
        ∧ t.alarm.notices = raised
        ∧ (s.alarm.log.length ≤ 256 →
          Logged (removals s (fun _ => true) ++ raised.map fun n => (.raise, n)) s t))
    ∧ (∀ n, n ≠ 10 → n ≠ 11 → slotOf t n = { condition := false, delay := none })
    ∧ t.alarm.lastPosition = none ∧ t.alarm.lastContaining = List.replicate 16 false
    ∧ t.alarm.time = s.alarm.time ∧ t.alarm.bound = s.alarm.bound
    ∧ t.alarm.firstOut = s.alarm.firstOut

/-! ### What a power-on start finds (R189; log entry 7) -/

/-- What an operand of POWER_ON_START says of a kind's image, of the key, of the retained set: the values
named in their order, each with whether its stored check is right; an image has no check of its own. -/
def imagesFound (k : Kind) (found : List FoundItem) : List (Image × Bool) :=
  found.filterMap fun
    | .image k' bytes => if k' = k then some (bytes, true) else none
    | .key _ _ => none
    | .limits _ _ => none

def keysFound (found : List FoundItem) : List (List Byte × Bool) :=
  found.filterMap fun
    | .key bytes right => some (bytes, right)
    | .image _ _ => none
    | .limits _ _ => none

def limitsFound (found : List FoundItem) : List (Limits × Bool) :=
  found.filterMap fun
    | .limits set right => some (set, right)
    | .image _ _ => none
    | .key _ _ => none

/-- An item as the store presents it: none where it was left without a copy or a check is wrong; otherwise
the last value named, or the copy as it was left where none is. -/
def presented {α : Type} (left : Option α) (named : List (α × Bool)) : Option α :=
  match left with
  | none => none
  | some copy => if named.all (·.2) then some ((named.map (·.1)).getLastD copy) else none

/-! ### A sweep over stations that answer cleanly (R116, R117) -/

/-- The identities a sweep yields, pass after pass, when exactly these stations take part; `n` bounds
the number of passes. -/
def sweepYields (participants : List Identity) : (n : Nat) → Sweep → List Identity
  | 0, _ => []
  | n + 1, sweep =>
    match runPass sweep (passAnswer sweep participants) with
    | none => []
    | some (i, none) => [i]
    | some (i, some m) => i :: sweepYields participants n { marker := some m, previous := i }

end Sys2Proof.Machine
end

