-- ==== Sys2Proof/Certificates/Slice0/Obligations.lean ====
section
/-! DEFINITION. The statements for the provers: what a step is, frames, then the rules of Chapters 1 to 9
and the invariants every command keeps. -/

open Sys2Proof Sys2Proof.Machine

/-! ### The machine -/

/-- A step is the command at the front of the queue, run with the queue's rest (Introduction, "How the
outside reaches the part"); with nothing waiting it changes nothing (log entry 3). -/
def Obligations.StepRunsFrontCommand : Prop :=
  (∀ (s : State) (c : Instr) (rest : List Instr), s.pending = c :: rest →
      step s = exec c (s.withPending rest))
    ∧ ∀ s : State, s.pending = [] → step s = .next s

/-- Every command answers a next state, and none changes the queue of waiting commands. That none stops
the part is the model's reading of R162 and R192 (log entry 2). -/
def Obligations.EveryCommandKeepsTheQueue : Prop :=
  ∀ (c : Instr) (s : State), ∃ t, exec c s = .next t ∧ t.pending = s.pending

/-- The state after reset is what POWER_ON_START answers on a part without supply whose store holds
nothing (R190; log entry 1), and it meets every invariant stated below. -/
def Obligations.ResetMeetsTheInvariants : Prop :=
  exec (.powerOnStart []) (State.dark .blank []) = .next State.reset
    ∧ PortsInv State.reset ∧ HoldInv State.reset ∧ TimersInv State.reset ∧ LimitsInv State.reset
    ∧ ImagesInv State.reset ∧ StoreInv State.reset ∧ LockInv State.reset ∧ AlarmInv State.reset
    ∧ CommandsInv State.reset ∧ SweepListsInv State.reset ∧ FinishingInv State.reset

/-! ### Frames (1.1, 1.2, Chapter 10) -/

/-- R1: a frame is accepted for classification exactly when it passes the length and the check tests;
one that fails any of them is discarded at arrival, at either port, and changes nothing. -/
def Obligations.DamagedFrameChangesNothing : Prop :=
  ∀ (port : Port) (f : List Byte) (s : State),
    let passes := frameLength f ≤ 240 ∧ f.length = 6 + frameLength f
      ∧ f.drop (4 + frameLength f) = checkBytes (f.take (4 + frameLength f))
    (accepted f = true ↔ passes)
      ∧ (¬ passes → arrivalCommand port f = .frameDiscarded port f
        ∧ exec (.frameDiscarded port f) s = .next s)

/-- R3 and R4: what becomes of an accepted frame at each port, and the command its arrival is. What is
none of these is discarded, with no effect. -/
def Obligations.ArrivalsFollowTheTables : Prop :=
  ∀ f : List Byte, accepted f = true →
    let others := [0x11#8, 0x12#8, 0x13#8, 0x14#8, 0x15#8]
    let ref := frameClass f = 0x11 ∧ frameSource f = 0x01 ∧ frameDest f = 0x7F
      ∧ frameLength f = 11 ∧ (u8At (framePayload f) 0 = 0 ∨ u8At (framePayload f) 0 = 1)
    let mreq := frameClass f = 0x14 ∧ frameSource f = 0x01 ∧ frameDest f = 0x7E ∧ 2 ≤ frameLength f
    let stat := frameClass f = 0x12 ∧ (∃ m, frameSource f = driveAddress m) ∧ frameDest f = 0x01
      ∧ frameLength f = 8
    let pass := frameClass f ∉ others ∧ frameDest f ≠ 0x7E
    (ref → arrivalCommand .cab f = .refTakenFromCab f)
      ∧ (mreq → arrivalCommand .cab f = requestCommand (requestCode f) f)
      ∧ (pass → arrivalCommand .cab f = .passTraffic .cab f)
      ∧ (¬ ref → ¬ mreq → ¬ pass → arrivalCommand .cab f = .frameDiscarded .cab f)
      ∧ (stat → arrivalCommand .drive f = .statTaken f)
      ∧ (∀ m, classifyDrive f = .stat m ↔ stat ∧ frameSource f = driveAddress m)
      ∧ (pass → arrivalCommand .drive f = .passTraffic .drive f)
      ∧ (¬ stat → ¬ pass → arrivalCommand .drive f = .frameDiscarded .drive f)
      ∧ ∀ (port : Port) (s : State), exec (.frameDiscarded port f) s = .next s

/-- The check finds every change of a single byte: a frame that passes R1 fails it once any one byte of
it, of its header, payload or check, is another. The bit order of the check register is read from R2 by
inference (log entry 8). -/
def Obligations.AlteredByteIsDiscarded : Prop :=
  ∀ (f : List Byte) (i : Nat) (b : Byte), accepted f = true → i < f.length → byteAt f i ≠ b →
    accepted (f.set i b) = false

/-- Fields of several bytes stand low byte first and read back the value written, wherever they stand
(R193); every frame the part builds passes R1 and carries its header and payload (R2). The bit order of
the check is read from R2 by inference (log entry 8). -/
def Obligations.BuiltFieldsReadBack : Prop :=
  (∀ pre post : List Byte,
      (∀ n, n < 65536 → u16 n = [BitVec.ofNat 8 (n % 256), BitVec.ofNat 8 (n / 256)]
          ∧ u16At (pre ++ u16 n ++ post) pre.length = n)
        ∧ (∀ z : Int, -32768 ≤ z → z ≤ 32767 → i16At (pre ++ i16 z ++ post) pre.length = z)
        ∧ ∀ i : Identity, identityAt (pre ++ identityBytes i ++ post) pre.length = i)
    ∧ ∀ (cls dest source : Byte) (payload : List Byte), payload.length ≤ 240 →
      accepted (buildFrame cls dest source payload) = true
        ∧ frameClass (buildFrame cls dest source payload) = cls
        ∧ frameDest (buildFrame cls dest source payload) = dest
        ∧ frameSource (buildFrame cls dest source payload) = source
        ∧ framePayload (buildFrame cls dest source payload) = payload

/-! ### The link ports (Chapter 1) -/

/-- Every command keeps the queue rules of R7 to R10 and R191. -/
def Obligations.PortsInvKept : Prop :=
  ∀ (c : Instr) (s t : State), PortsInv s → exec c s = .next t → PortsInv t

/-- In WAITING and HOLD every REF that waits at the drive port is a hold frame (R16). The timers of the
cab link, the drive records and the walk sequencer run exactly in the states the manual gives them, and
the scan timer runs (R12 to R15, R19, R20, R96, R122). Every command keeps both. -/
def Obligations.HoldAndTimersKept : Prop :=
  (∀ (c : Instr) (s t : State), PortsInv s → HoldInv s → exec c s = .next t → HoldInv t)
    ∧ ∀ (c : Instr) (s t : State), TimersInv s → exec c s = .next t → TimersInv t

/-- R13, what a REF taken from the cab leaves unchanged, and the report it ends in: the RPT joins the cab
port last, with the payload of R22 at the positions of 10.2, and its notice is the one a waiting RPT
carried, or else the head of the notice queue, or none (R21). -/
def Obligations.RefTakenByTheLink : Prop :=
  ∀ (f : List Byte) (s : State), s.power = .on → classifyCab f = .ref →
    let carried : Option Nat := match s.link.cabPort.queue.find? (·.kind == .rpt) with
      | some w =>
        if u8At (framePayload w.bytes) 37 = 1 then some (u8At (framePayload w.bytes) 38) else none
      | none => none
    ∃ t, exec (.refTakenFromCab f) s = .next t
      ∧ (PortsInv s → ∃ payload : List Byte, payload.length = 41
        ∧ t.link.cabPort.newest = some { kind := .rpt, bytes := buildFrame 0x13 0x01 0x7E payload }
        ∧ payload
          = [byteAt (framePayload f) 1, if s.link.lastOriginHold then 1 else 0]
            ++ u8 (seqStateCode t.walk.state) ++ u8 (subStepCode t.walk.sub) ++ u8 t.walk.refusal
            ++ u8 (posStatusCode t.position.status + if t.position.edge then 4 else 0)
            ++ i16 t.position.reach ++ i16 t.position.height ++ u8 t.position.zone
            ++ u16 (t.swing.corrected.getD 65535) ++ u16 (flagBits t.swing.containing)
            ++ u16 t.swing.heldLoad
            ++ u16 t.shaper.limits.raise ++ u16 t.shaper.limits.lower
            ++ u16 t.shaper.limits.haulIn ++ u16 t.shaper.limits.payOut
            ++ u16 t.shaper.limits.cw ++ u16 t.shaper.limits.ccw ++ u16 t.shaper.limits.step
            ++ fourFlags (t.shaper.gates.hoist = .passing) (t.shaper.gates.drag = .passing)
              (t.shaper.gates.swing = .passing) (t.shaper.gates.propel = .passing)
            ++ u16 t.walk.stepCount.toNat
            ++ u8 t.alarm.list.length
            ++ u8 (t.alarm.list.filter fun e => e.state ≠ .raisedAck).length
            ++ u8 (t.alarm.list.foldl (fun c e => max c (classCode (classOf t e))) 0)
            ++ (match carried <|> s.alarm.notices.head? with
              | none => [0, 0, 0, 0]
              | some n => [1, BitVec.ofNat 8 n,
                  BitVec.ofNat 8 (match attrsOf t n with
                    | some a => if slotInUse t n then classCode a.cls else 0
                    | none => 0),
                  BitVec.ofNat 8 (((entryOf t n).map fun e => entryStateCode e.state).getD 0)]))
      ∧ t.alarm.notices
        = (if carried.isSome then s.alarm.notices else s.alarm.notices.tail)
      ∧ t.link.cabState = .normal
      ∧ t.link.silenceTimer = some (silenceLength (plantOf s).silenceSelection)
      ∧ t.link.holdTimer = none
      ∧ t.link.lastCycle = some (u8At (framePayload f) 1)
      ∧ t.link.lastOriginHold = false
      ∧ (s.link.cabState = .hold → (slotOf t 0).condition = false)
      ∧ t.link.drives = s.link.drives ∧ t.link.held = s.link.held
      ∧ t.power = s.power ∧ t.position = s.position ∧ t.swing = s.swing ∧ t.mgmt = s.mgmt
      ∧ t.store = s.store ∧ t.tables = s.tables
      ∧ t.walk.usable = s.walk.usable ∧ t.walk.cam = s.walk.cam
      ∧ t.walk.stepCount = s.walk.stepCount ∧ t.walk.delivered = s.walk.delivered
      ∧ t.line = { s.line with records := t.line.records }
      ∧ t.line.records.map undesired = s.line.records.map undesired
      ∧ t.alarm.time = s.alarm.time ∧ t.alarm.bound = s.alarm.bound
      ∧ t.alarm.firstOut = s.alarm.firstOut

/-- The forwarded REF of a REF from the cab (R6): the mode and cycle of the cab's frame, the references
R47 forms from the clamped ones and the limits reported, a brake released exactly where the five
conditions of R48 hold, origin 0; it joins the drive port last. The gate is read as it stands when
shaping begins: as before the frame, but for the SWING gate that the change from STEPPING to WALK_IDLE
has just closed (R102, R104). -/
def Obligations.ForwardedFrameIsShaped : Prop :=
  ∀ (f : List Byte) (s : State), s.power = .on → PortsInv s → classifyCab f = .ref →
    let p := readRef f
    let band := (plantOf s).neutralBand
    let gateOpen (t : State) (m : Motion) : Prop := s.shaper.gates.get m = .passing
      ∧ ¬ (m = .swing ∧ s.walk.state = .stepping ∧ t.walk.state = .walkIdle)
    let signed (r : Int) : Int := max (-1000) (min 1000 r)
    let formed (c : Int) (upper lower : Nat) : Int :=
      if c.natAbs ≤ band then 0 else if 0 < c then min c upper else max c (-(lower : Int))
    ∃ (t : State) (brakes : PerMotion Bool), exec (.refTakenFromCab f) s = .next t
      ∧ t.link.drivePort.newest = some
          { kind := .ref
            bytes := buildFrame 0x11 0x7F 0x7E
              ([byteAt (framePayload f) 0, byteAt (framePayload f) 1]
                ++ i16 t.shaper.lastRefs.hoist ++ i16 t.shaper.lastRefs.drag
                ++ i16 t.shaper.lastRefs.swing ++ i16 t.shaper.lastRefs.propel
                ++ fourFlags brakes.hoist brakes.drag brakes.swing brakes.propel ++ [0]) }
      ∧ t.shaper.lastRefs.hoist
          = formed (signed p.refs.hoist) t.shaper.limits.raise t.shaper.limits.lower
      ∧ t.shaper.lastRefs.drag
          = formed (signed p.refs.drag) t.shaper.limits.haulIn t.shaper.limits.payOut
      ∧ t.shaper.lastRefs.swing
          = formed (signed p.refs.swing) t.shaper.limits.cw t.shaper.limits.ccw
      ∧ t.shaper.lastRefs.propel
          = formed (max 0 (min 1000 p.refs.propel)) t.shaper.limits.step 0
      ∧ ∀ m, brakes.get m = true ↔
          p.brakes.get m = true ∧ gateOpen t m
            ∧ listedNaming t .stop m = [] ∧ classListed t .trip = false
            ∧ walkPermits t m = true

/-- Where a motion rests whatever the lever says: while its gate was GATED before the frame (R49),
while a TRIP entry is listed or a STOP entry names it (R50), and while the sequencer's state does not
permit it (R51). The REF opens the gate of each motion whose clamped reference lies within the neutral
band, and no other gate (R58). -/
def Obligations.MotionRestsUntilNeutral : Prop :=
  ∀ (f : List Byte) (s : State), s.power = .on → classifyCab f = .ref →
    ∃ t, exec (.refTakenFromCab f) s = .next t
      ∧ ∀ m,
        ((s.shaper.gates.get m = .gated ∨ classListed t .trip = true
            ∨ listedNaming t .stop m ≠ [] ∨ walkPermits t m = false) →
          t.shaper.lastRefs.get m = 0)
          ∧ (((clampRefs (readRef f).refs).get m).natAbs ≤ (plantOf s).neutralBand →
            t.shaper.gates.get m = .passing)
          ∧ ((plantOf s).neutralBand < ((clampRefs (readRef f).refs).get m).natAbs →
            s.shaper.gates.get m = .gated → t.shaper.gates.get m = .gated)

/-- R19 at the drive record and at the cab port, what a STAT leaves unchanged, and the sources of R140:
a bound DRIVE_FLAG or DRIVE_VALUE definition of this drive takes its condition from the frame, with its
hysteresis; one of another drive keeps its condition. -/
def Obligations.StatRefreshesItsDrive : Prop :=
  ∀ (f : List Byte) (m : Motion) (s : State), s.power = .on → PortsInv s →
    classifyDrive f = .stat m →
    ∃ t, exec (.statTaken f) s = .next t
      ∧ t.link = { s.link with
          drives := s.link.drives.set m
            { current := some (i16At (framePayload f) 3), freshness := .fresh,
              timer := some (plantOf s).driveSilence }
          cabPort := t.link.cabPort }
      ∧ t.link.cabPort.newest = some { kind := .stat m, bytes := f }
      ∧ ((s.link.drives.get m).freshness = .silent →
          (slotOf t (silentSlot m)).condition = false)
      ∧ (s.alarm.slots.length = 64 → ∀ (k : Nat) (d : AlarmDef), k < 52 →
          (definitionsOf s)[k]? = some d → s.alarm.bound.getD k false = true →
          let before := (slotOf s (12 + k)).condition
          let after := (slotOf t (12 + k)).condition
          (∀ n, d.source = .driveFlag m n → after = (byteAt (framePayload f) 7).getLsbD n)
            ∧ (∀ loop below threshold hysteresis,
              d.source = .driveValue m loop below threshold hysteresis →
              let v := i16At (framePayload f) (if loop then 5 else 3)
              after = (if below then
                  (if v < threshold then true else if threshold + hysteresis ≤ v then false
                    else before)
                else (if threshold < v then true else if v ≤ threshold - hysteresis then false
                  else before)))
            ∧ (∀ m', m' ≠ m → ((∃ n, d.source = .driveFlag m' n)
                ∨ ∃ loop below threshold hysteresis,
                  d.source = .driveValue m' loop below threshold hysteresis) → after = before))
      ∧ t.power = s.power ∧ t.mgmt = s.mgmt ∧ t.store = s.store ∧ t.tables = s.tables
      ∧ t.shaper.limits = s.shaper.limits ∧ t.shaper.lastRefs = s.shaper.lastRefs
      ∧ t.walk.usable = s.walk.usable ∧ t.walk.refusal = s.walk.refusal
      ∧ t.line = { s.line with records := t.line.records }
      ∧ t.line.records.map undesired = s.line.records.map undesired
      ∧ t.alarm.time = s.alarm.time

/-- R20, and what the silence of each drive brings with it. HOIST and DRAG: the drum's payout is no longer
usable, and slot 6 is re-evaluated (R37). SWING: no valid angle is held (R67), so slot 7 is false and the
set handed to the alarm unit is all false, and with it every bound SECTOR source (R68, R141). PROPEL: the
cam phase is UNKNOWN (R90). -/
def Obligations.DriveFallsSilent : Prop :=
  ∀ (m : Motion) (s : State), s.power ≠ .off → (s.link.drives.get m).freshness = .fresh →
    (s.link.drives.get m).timer.isSome = true → s.alarm.slots.length = 64 →
    ∃ t, exec (.driveSilenceTimerExpiry m) s = .next t
      ∧ t.link = { s.link with
          drives := s.link.drives.set m
            { current := (s.link.drives.get m).current, freshness := .silent, timer := none } }
      ∧ (slotOf t (silentSlot m)).condition = true
      ∧ (m = .hoist ∨ m = .drag → usablePayout t m = none
          ∧ ((slotOf t 6).condition = true ↔ (geometryOf s).isSome = true
            ∧ ∃ w, s.position.working = some w
              ∧ ((∃ p, usablePayout t .hoist = some p ∧ (p < w.hoistMin ∨ w.hoistMax < p))
                ∨ ∃ p, usablePayout t .drag = some p ∧ (p < w.dragMin ∨ w.dragMax < p))))
      ∧ (m = .swing ∨ m = .propel → slotOf t 6 = slotOf s 6)
      ∧ (m = .swing → t.swing.raw = none ∧ t.swing.corrected = none
          ∧ t.swing.containing = List.replicate 16 false
          ∧ (slotOf t 7).condition = false
          ∧ t.alarm.lastContaining = List.replicate 16 false
          ∧ ∀ (k : Nat) (d : AlarmDef) (n : Nat), k < 52 → (definitionsOf s)[k]? = some d →
            s.alarm.bound.getD k false = true → d.source = .sector n →
            (slotOf t (12 + k)).condition = false)
      ∧ (m = .propel → t.walk.cam = .unknown)
      ∧ (m ≠ .swing → t.swing = s.swing) ∧ (m ≠ .propel → t.walk = s.walk)
      ∧ t.power = s.power ∧ t.position = s.position ∧ t.mgmt = s.mgmt ∧ t.store = s.store
      ∧ t.tables = s.tables ∧ t.shaper.limits = s.shaper.limits
      ∧ t.shaper.lastRefs = s.shaper.lastRefs
      ∧ t.line = { s.line with records := t.line.records }

/-- R14: entry to HOLD at the expiry of the cab-silence timer. R12 and R15: each expiry of the hold timer
offers a further hold frame (R16) and restarts the timer, and changes nothing else but the last
references (R65). In a brief dip the timers run on and the frame is discarded as it is offered, and
counts as offered for the origin (R191, log entry 39). Slot 0 raises before the hold frame is built, so that a
first-out record it fills holds the references sent before (R149, R65, log entry 47). -/
def Obligations.HoldFramesStandForTheCab : Prop :=
  (∀ s : State, s.power ≠ .off → s.link.cabState = .normal → s.link.silenceTimer.isSome = true →
      s.alarm.slots.length = 64 →
      ∃ t, exec .cabSilenceTimerExpiry s = .next t
        ∧ t.link.cabState = .hold ∧ t.link.silenceTimer = none
        ∧ t.link.holdTimer = some (plantOf s).holdInterval ∧ t.link.lastOriginHold = true
        ∧ (slotOf t 0).condition = true
        ∧ (s.alarm.firstOut = none → entryOf s 0 = none → (slotOf s 0).delay = none →
          ∃ x, t.alarm.firstOut = some x ∧ x.slot = 0 ∧ x.time = s.alarm.time
            ∧ x.refs = s.shaper.lastRefs)
        ∧ t.shaper.gates = ⟨.gated, .gated, .gated, .gated⟩ ∧ t.shaper.lastRefs = ⟨0, 0, 0, 0⟩
        ∧ t.shaper.limits = s.shaper.limits
        ∧ (s.power = .on → PortsInv s → t.link.drivePort.newest = some
            { kind := .ref
              bytes := buildFrame 0x11 0x7F 0x7E
                ([if s.walk.state = .dig ∨ s.walk.state = .startup then 0 else 1,
                  BitVec.ofNat 8 (s.link.lastCycle.getD 0)] ++ List.replicate 9 0 ++ [1]) })
        ∧ (s.power = .dip → t.link.drivePort = s.link.drivePort)
        ∧ t.link.cabPort = s.link.cabPort ∧ t.link.drives = s.link.drives
        ∧ t.power = s.power ∧ t.position = s.position ∧ t.swing = s.swing ∧ t.walk = s.walk
        ∧ t.mgmt = s.mgmt ∧ t.store = s.store ∧ t.tables = s.tables
        ∧ t.line = { s.line with records := t.line.records })
    ∧ ∀ s : State, s.power ≠ .off → s.link.holdTimer.isSome = true →
      ∃ t, exec .holdTimerExpiry s = .next t
        ∧ (s.power = .on → PortsInv s → t.link.drivePort.newest = some
            { kind := .ref
              bytes := buildFrame 0x11 0x7F 0x7E
                ([if s.walk.state = .dig ∨ s.walk.state = .startup then 0 else 1,
                  BitVec.ofNat 8 (s.link.lastCycle.getD 0)] ++ List.replicate 9 0 ++ [1]) })
        ∧ (s.power = .dip → t.link.drivePort = s.link.drivePort)
        ∧ t.link = { s.link with
            holdTimer := some (plantOf s).holdInterval, lastOriginHold := true
            drivePort := t.link.drivePort }
        ∧ t = (s.withLink t.link).withShaper { s.shaper with lastRefs := ⟨0, 0, 0, 0⟩ }

/-- PASS traffic (R3, R4, R8, R9): it joins the tail of the other port's queue unchanged, or is
discarded where that queue is full; nothing else changes. -/
def Obligations.PassTrafficCrossesOver : Prop :=
  ∀ (f : List Byte) (s : State), s.power = .on →
    (classifyCab f = .pass →
      ∃ t, exec (.passTraffic .cab f) s = .next t
        ∧ t = s.withLink { s.link with drivePort := t.link.drivePort }
        ∧ t.link.drivePort.frames
          = if s.link.drivePort.queue.length < 4 then
              s.link.drivePort.frames ++ [{ kind := .pass, bytes := f }]
            else s.link.drivePort.frames)
      ∧ (classifyDrive f = .pass →
        ∃ t, exec (.passTraffic .drive f) s = .next t
          ∧ t = s.withLink { s.link with cabPort := t.link.cabPort }
          ∧ t.link.cabPort.frames
            = if s.link.cabPort.queue.length < 8 then
                s.link.cabPort.frames ++ [{ kind := .pass, bytes := f }]
              else s.link.cabPort.frames)

/-- R7: at a transmission completion the frame in transmission leaves and the others follow in their
order, the head of the queue in transmission; R10: the held confirmation joins the cab port last once no
other deferred confirmation waits. The offer of the held confirmation is a command of its own (log entry
4). -/
def Obligations.FramesLeaveInOrder : Prop :=
  (∀ s : State, s.link.drivePort.tx.isSome = true →
      ∃ t, exec (.transmissionCompletion .drive) s = .next t
        ∧ t = s.withLink { s.link with drivePort := t.link.drivePort }
        ∧ t.link.drivePort.frames = s.link.drivePort.frames.tail
        ∧ (t.link.drivePort.tx = none → t.link.drivePort.queue = []))
    ∧ (∀ s : State, s.link.cabPort.tx.isSome = true →
      ∃ t, exec (.transmissionCompletion .cab) s = .next t
        ∧ t = s.withLink { s.link with cabPort := t.link.cabPort }
        ∧ t.link.cabPort.frames = s.link.cabPort.frames.tail
        ∧ (t.link.cabPort.tx = none → t.link.cabPort.queue = []))
    ∧ ∀ (s : State) (q : QFrame), s.power = .on → PortsInv s → s.link.held = some q →
      (∀ x ∈ s.link.cabPort.queue, x.kind ≠ .mcnf true) →
      ∃ t, exec .deferredConfirmationOffered s = .next t
        ∧ t = s.withLink { s.link with held := none, cabPort := t.link.cabPort }
        ∧ t.link.cabPort.newest = some q

/-! ### Bucket position (Chapter 2) -/

/-- R30: the interpolated value is the weighted mean rounded to the nearest, an exact half toward plus
infinity, and lies between the smallest and the largest of the four corners. -/
def Obligations.InterpolationIsNearest : Prop :=
  ∀ (sh sd fh fd : Nat) (v00 v10 v01 v11 lo hi : Int), 0 < sh → 0 < sd → 2 ∣ sh * sd →
    fh ≤ sh → fd ≤ sd → lo ≤ v00 → lo ≤ v10 → lo ≤ v01 → lo ≤ v11 →
    v00 ≤ hi → v10 ≤ hi → v01 ≤ hi → v11 ≤ hi →
    let v := interpolate sh sd fh fd v00 v10 v01 v11
    let sum : Int := ((sh : Int) - fh) * ((sd : Int) - fd) * v00 + fh * ((sd : Int) - fd) * v10
      + ((sh : Int) - fh) * fd * v01 + (fh : Int) * fd * v11
    lo ≤ v ∧ v ≤ hi ∧ (2 * v - 1) * ((sh : Int) * sd) ≤ 2 * sum
      ∧ 2 * sum < (2 * v + 1) * ((sh : Int) * sd)

/-- A STAT from HOIST or DRAG while a GEOMETRY table is active: the payout record takes its position
and valid flag whatever they are (R26); the attempt moves status and count by the table of R32 and
writes the values when it is resolved (R28, R31); the position is handed on, to the HEIGHT sectors (R72)
and to the ZONE sources (R33, R141); a HOIST STAT then sets the held load (R74). Without a GEOMETRY table
the payout record alone is written (R25). -/
def Obligations.PayoutStatMovesPosition : Prop :=
  (∀ (f : List Byte) (m : Motion) (s : State), s.power = .on →
    m = .hoist ∨ m = .drag → classifyDrive f = .stat m → s.tables.active.geometry = none →
    let record : PayoutRecord :=
      { payout := some (u16At (framePayload f) 0), valid := (byteAt (framePayload f) 2).getLsbD 0 }
    ∃ t, exec (.statTaken f) s = .next t
      ∧ t.position = (if m = .hoist then { s.position with hoistPayout := record }
        else { s.position with dragPayout := record })
      ∧ (slotOf t 6).condition = false
      ∧ t.swing = { s.swing with
          heldLoad := if m = .hoist ∧ (byteAt (framePayload f) 2).getLsbD 1 = false then
              min (i16At (framePayload f) 3).natAbs 2000
            else s.swing.heldLoad }
      ∧ t.alarm.lastPosition = s.alarm.lastPosition ∧ t.walk = s.walk)
  ∧ ∀ (f : List Byte) (m : Motion) (s : State) (image : Image), s.power = .on →
    m = .hoist ∨ m = .drag → classifyDrive f = .stat m →
    s.tables.active.geometry = some image →
    let limit := u8At image 10
    ∃ t, exec (.statTaken f) s = .next t
      ∧ payoutRecord t m
        = { payout := some (u16At (framePayload f) 0)
            valid := (byteAt (framePayload f) 2).getLsbD 0 }
      ∧ (∀ m', m' ≠ m → payoutRecord t m' = payoutRecord s m')
      ∧ t.position.working = s.position.working
      ∧ (match attempt t image with
        | some r =>
          t.position.status = .resolved ∧ t.position.count = 0 ∧ t.position.reach = r.reach
            ∧ t.position.height = r.height ∧ t.position.zone = r.zone
            ∧ t.position.edge = r.edge
        | none =>
          t.position.reach = s.position.reach ∧ t.position.height = s.position.height
            ∧ t.position.zone = s.position.zone ∧ t.position.edge = s.position.edge
            ∧ (t.position.status, t.position.count)
              = match s.position.status with
                | .none => (if s.position.count + 1 = limit then .lost else .none,
                    s.position.count + 1)
                | .resolved => (if 1 = limit then .lost else .held, 1)
                | .held => (if s.position.count + 1 = limit then .lost else .held,
                    s.position.count + 1)
                | .lost => (.lost, s.position.count))
      ∧ (s.alarm.slots.length = 64 →
          ((slotOf t 5).condition = true ↔ t.position.status = .lost)
            ∧ (slotOf t 6).condition = travelExceeded t)
      ∧ (let present := t.position.status = .resolved ∨ t.position.status = .held
        t.alarm.lastPosition
            = (if present then some
                { reach := t.position.reach, height := t.position.height, zone := t.position.zone }
              else none)
          ∧ (s.alarm.slots.length = 64 → ∀ (k : Nat) (d : AlarmDef) (z : Nat), k < 52 →
            (definitionsOf s)[k]? = some d → s.alarm.bound.getD k false = true →
            d.source = .zone z →
            ((slotOf t (12 + k)).condition = true ↔ present ∧ t.position.zone = z))
          ∧ (∀ n, n < 16 → t.swing.clear.getD n false =
            match swingOf s, (sectorsOf s)[n]? with
            | some table, some sec =>
              if sec.cls = .height then
                if ¬ present then false
                else if sec.minHeight ≤ t.position.height then true
                else if t.position.height < sec.minHeight - table.hysteresis then false
                else s.swing.clear.getD n false
              else s.swing.clear.getD n false
            | _, _ => s.swing.clear.getD n false)
          ∧ (t.swing.clear = s.swing.clear → slotOf t 7 = slotOf s 7)
          ∧ (t.swing.clear ≠ s.swing.clear → s.alarm.slots.length = 64 →
            ((slotOf t 7).condition = true ↔ ∃ sec a, sec ∈ blockingSectors t
              ∧ t.swing.corrected = some a
              ∧ ((a : Int) - sec.start) % 36000 < ((sec.stop : Int) - sec.start) % 36000)))
      ∧ t.swing.heldLoad
        = (if m = .hoist ∧ (byteAt (framePayload f) 2).getLsbD 1 = false then
            min (i16At (framePayload f) 3).natAbs 2000
          else s.swing.heldLoad)
      ∧ t.swing.raw = s.swing.raw ∧ t.swing.corrected = s.swing.corrected ∧ t.walk = s.walk

/-- An attempt is resolved exactly where both payouts are usable (R27, R28), each drum's drive FRESH, its
valid flag true, its payout not 65 535, and the four corners of the cell are feasible. Its reach and
height are the weighted means of the corners, rounded to the nearest, an exact half toward plus infinity
(R30); an axis saturates at its last cell, the edge flag says so, and the zone is the cell's (R29, R31). -/
def Obligations.ResolvedOnlyWhereSurveyed : Prop :=
  ∀ (s : State) (image : Image) (r : Resolved), attempt s image = some r ↔
    ∃ ph pd : Nat,
      let sh := 2 ^ u8At image 0
      let sd := 2 ^ u8At image 1
      let i := min 62 (ph / sh)
      let j := min 62 (pd / sd)
      let fh := if 63 ≤ ph / sh then sh else ph % sh
      let fd := if 63 ≤ pd / sd then sd else pd % sd
      let sum (value : Node → Int) : Int :=
        ((sh : Int) - fh) * ((sd : Int) - fd) * value (nodeAt image i j)
          + (fh : Int) * ((sd : Int) - fd) * value (nodeAt image (i + 1) j)
          + ((sh : Int) - fh) * fd * value (nodeAt image i (j + 1))
          + (fh : Int) * fd * value (nodeAt image (i + 1) (j + 1))
      let nearest (v : Int) (value : Node → Int) : Prop :=
        (2 * v - 1) * ((sh : Int) * sd) ≤ 2 * sum value
          ∧ 2 * sum value < (2 * v + 1) * ((sh : Int) * sd)
      s.position.hoistPayout = { payout := some ph, valid := true }
        ∧ s.position.dragPayout = { payout := some pd, valid := true }
        ∧ ph ≠ 65535 ∧ pd ≠ 65535
        ∧ s.link.drives.hoist.freshness = .fresh ∧ s.link.drives.drag.freshness = .fresh
        ∧ (nodeAt image i j).feasible = true ∧ (nodeAt image (i + 1) j).feasible = true
        ∧ (nodeAt image i (j + 1)).feasible = true
        ∧ (nodeAt image (i + 1) (j + 1)).feasible = true
        ∧ nearest r.reach (·.reach) ∧ nearest r.height (·.height)
        ∧ r.zone = (nodeAt image i j).zone
        ∧ (r.edge = true ↔ 63 ≤ ph / sh ∨ 63 ≤ pd / sd)

/-- R35: while a GEOMETRY table is active the working limits lie within its native limits, and without
one there are none: every command keeps it. -/
def Obligations.LimitsInvKept : Prop :=
  ∀ (c : Instr) (s t : State), ImagesInv s → LimitsInv s → exec c s = .next t → LimitsInv t

/-- R40, R41, R42: an accepted LIMITS SET. -/
def Obligations.LimitsSetTakesEffect : Prop :=
  ∀ (f : List Byte) (s : State) (g : GeometryHeader),
    let p := requestParams f
    let l : Limits :=
      { hoistMin := u16At p 0, hoistMax := u16At p 2, dragMin := u16At p 4, dragMax := u16At p 6 }
    taken 0x09 f s = true → s.mgmt.lock = .open ∨ s.mgmt.lock = .unlocked → p.length = 9 →
    s.mgmt.seqFlag = true → geometryOf s = some g → u8At p 8 ≤ 1 →
    PairWithin g.native.hoistMin l.hoistMin l.hoistMax g.native.hoistMax →
    PairWithin g.native.dragMin l.dragMin l.dragMax g.native.dragMax →
    (u8At p 8 = 1 → s.mgmt.retainedOnce = false ∧ s.store.inFlight = none) →
    s.alarm.slots.length = 64 →
    ∃ t, exec (.limitsSet f) s = .next t
      ∧ t.position = { s.position with working := some l }
      ∧ t.link = confirmedLink s 0x09 (requestTag f) .accepted (p.take 8)
      ∧ t.mgmt = { s.mgmt with
          deferredStore := 0, seqFlag := false
          retainedOnce := s.mgmt.retainedOnce || u8At p 8 == 1 }
      ∧ t.store = (if u8At p 8 = 1 then
          { s.store with
            limitsCopy := none, limitsStatus := .writing, inFlight := some (.limits l) }
        else s.store)
      ∧ (slotOf t 6).condition = travelExceeded t
      ∧ t.power = s.power ∧ t.swing = s.swing ∧ t.walk = s.walk ∧ t.tables = s.tables
      ∧ t.shaper = s.shaper ∧ t.line = s.line

/-- R40: the refusals of LIMITS SET in their order, each with the working limits in force: RANGE for a retain
byte above 1 before the request's own conditions (R195), then SEQUENCE, STATE, RANGE, RETAINED, BUSY; nothing
changes but what every answer changes (R38, R161, R165). -/
def Obligations.LimitsSetRefusedInOrder : Prop :=
  ∀ (f : List Byte) (s : State),
    let p := requestParams f
    let retain := u8At p 8
    let refusal (o : ReqOutcome) : Host.Outcome State Fault Refusal :=
      .next (answeredOnly s 0x09 (requestTag f) o (limitsData s.position.working) false)
    taken 0x09 f s = true → s.mgmt.lock = .open ∨ s.mgmt.lock = .unlocked → p.length = 9 →
      (1 < retain → exec (.limitsSet f) s = refusal .range)
        ∧ (retain ≤ 1 → s.mgmt.seqFlag = false → exec (.limitsSet f) s = refusal .sequence)
        ∧ (retain ≤ 1 → s.mgmt.seqFlag = true → geometryOf s = none →
          exec (.limitsSet f) s = refusal .state)
        ∧ ∀ g, retain ≤ 1 → s.mgmt.seqFlag = true → geometryOf s = some g →
          let inRange :=
            PairWithin g.native.hoistMin (u16At p 0) (u16At p 2) g.native.hoistMax
              ∧ PairWithin g.native.dragMin (u16At p 4) (u16At p 6) g.native.dragMax
          (¬ inRange → exec (.limitsSet f) s = refusal .range)
            ∧ (inRange → retain = 1 → s.mgmt.retainedOnce = true →
              exec (.limitsSet f) s = refusal .retained)
            ∧ (inRange → retain = 1 → s.mgmt.retainedOnce = false →
              s.store.inFlight.isSome = true → exec (.limitsSet f) s = refusal .busy)

/-! ### Reference shaping (Chapter 3) -/

/-- R53: no travel left gives 0; while travel remains the term is the distance times the gain over 100,
rounded down, at most 1000 and at least the creep; it never falls as the distance grows. -/
def Obligations.ApproachTermFollowsDistance : Prop :=
  ∀ (gain creep : Nat),
    (∀ d : Int, d ≤ 0 → approachTerm d gain creep = 0)
      ∧ (∀ d : Int, 0 < d → (approachTerm d gain creep : Int) = max (creep : Int) (min 1000 (d * gain / 100)))
      ∧ (∀ d : Int, 0 < d → creep ≤ approachTerm d gain creep)
      ∧ (∀ d : Int, creep ≤ 1000 → approachTerm d gain creep ≤ 1000)
      ∧ ∀ d d' : Int, d ≤ d' → approachTerm d gain creep ≤ approachTerm d' gain creep

/-- R46: after a REF every direction limit is the least of 1000 and its terms: 0 for a gate that is GATED
as shaping begins, a listed TRIP, a listed STOP that names the motion and a motion not permitted, each
listed RESTRICT derate that names it (R49, R50, R51), the zone and approach terms of its direction (R52
to R54), the swing unit's limit, which is the least of the terms of R76 (R77 to R82), the propel limit
while STEPPING (R55). So it exceeds none of them. Both swing limits are at most the blind creep while
no SWING table is active or no valid angle is held; otherwise at most the swing creep while a blocking
sector contains the angle, and at most the approach term of each that does not (R79, R80, R82). -/
def Obligations.LimitsNeverExceedTerms : Prop :=
  ∀ (f : List Byte) (s : State), s.power = .on → classifyCab f = .ref →
    let least (terms : List Nat) : Nat := terms.foldl min 1000
    let common (t : State) (m : Motion) : List Nat :=
      (if s.shaper.gates.get m = .passing
          ∧ ¬ (m = .swing ∧ s.walk.state = .stepping ∧ t.walk.state = .walkIdle) then [] else [0])
        ++ ((if classListed t .trip then [0] else [])
          ++ (listedNaming t .stop m).map (fun _ => 0)
          ++ (listedNaming t .restrict m).map (·.derate))
        ++ (if walkPermits t m then [] else [0])
    let blind := (plantOf s).blindCreep
    let record : Option ZoneRecord := match s.tables.active.zone with
      | some image => if s.position.status = .resolved ∨ s.position.status = .held then
          some (readZone image s.position.zone) else none
      | none => none
    let zone (limit : PerDirection → Nat) : Nat :=
      (record.map fun z => limit z.limits).getD blind
    let approach (m : Motion) (distance : Limits → Nat → Int) (limit : PerDirection → Nat) : Nat :=
      match geometryOf s, s.position.working, usablePayout s m with
      | some g, some w, some p => approachTerm (distance w p) (limit g.gains) (limit g.creeps)
      | _, _, _ => blind
    let swing (t : State) (distance : Nat → Sector → Int) : Nat :=
      least ([(record.map (·.swingLimit)).getD blind]
        ++ (if t.walk.state = .walkIdle ∧ t.walk.cam = .clear then
            (walkOf s).toList.map (·.walkSwingLimit) else [])
        ++ match swingOf s with
          | none => [blind]
          | some table => [loadCurve table.points s.swing.heldLoad]
            ++ match s.swing.corrected with
              | none => [blind]
              | some a =>
                ((table.sectors.filter fun sec => sec.cls = .slow ∧ sec.contains a).map (·.limit))
                  ++ ((blockingSectors s).filter fun sec => ¬ sec.contains a).map
                    (fun sec => min 1000 ((distance a sec % 36000).toNat * table.gain / 100))
                  ++ if ∃ sec ∈ blockingSectors s, sec.contains a then [table.creep] else [])
    ∃ t, exec (.refTakenFromCab f) s = .next t
      ∧ t.shaper.limits.raise = least (common t .hoist
          ++ [zone (·.raise), approach .hoist (fun w p => (p : Int) - w.hoistMin) (·.raise)])
      ∧ t.shaper.limits.lower = least (common t .hoist
          ++ [zone (·.lower), approach .hoist (fun w p => (w.hoistMax : Int) - p) (·.lower)])
      ∧ t.shaper.limits.haulIn = least (common t .drag
          ++ [zone (·.haulIn), approach .drag (fun w p => (p : Int) - w.dragMin) (·.haulIn)])
      ∧ t.shaper.limits.payOut = least (common t .drag
          ++ [zone (·.payOut), approach .drag (fun w p => (w.dragMax : Int) - p) (·.payOut)])
      ∧ t.shaper.limits.cw
        = least (common t .swing ++ [swing t fun a sec => (sec.start : Int) - a])
      ∧ t.shaper.limits.ccw
        = least (common t .swing ++ [swing t fun a sec => (a : Int) - sec.stop])
      ∧ t.shaper.limits.step = least (common t .propel
          ++ if t.walk.state = .stepping then (walkOf s).toList.map (·.propelLimit) else [])
      ∧ t.shaper.limits.step ≤ 1000
      ∧ (∀ w, t.walk.state = .stepping → walkOf t = some w → t.shaper.limits.step ≤ w.propelLimit)
      ∧ (∀ a ∈ listedNaming t .restrict .hoist,
          t.shaper.limits.raise ≤ a.derate ∧ t.shaper.limits.lower ≤ a.derate)
      ∧ (∀ a ∈ listedNaming t .restrict .drag,
          t.shaper.limits.haulIn ≤ a.derate ∧ t.shaper.limits.payOut ≤ a.derate)
      ∧ (∀ a ∈ listedNaming t .restrict .swing,
          t.shaper.limits.cw ≤ a.derate ∧ t.shaper.limits.ccw ≤ a.derate)
      ∧ (∀ a ∈ listedNaming t .restrict .propel, t.shaper.limits.step ≤ a.derate)
      ∧ (swingOf s = none ∨ s.swing.corrected = none →
          t.shaper.limits.cw ≤ (plantOf s).blindCreep
            ∧ t.shaper.limits.ccw ≤ (plantOf s).blindCreep)
      ∧ ∀ (table : SwingTable) (a : Nat) (sec : Sector), swingOf s = some table →
          s.swing.corrected = some a → sec ∈ blockingSectors s →
          (((a : Int) - sec.start) % 36000 < ((sec.stop : Int) - sec.start) % 36000 →
              t.shaper.limits.cw ≤ table.creep ∧ t.shaper.limits.ccw ≤ table.creep)
            ∧ (((sec.stop : Int) - sec.start) % 36000 ≤ ((a : Int) - sec.start) % 36000 →
              (t.shaper.limits.cw : Int)
                  ≤ ((sec.start : Int) - a) % 36000 * table.gain / 100
                ∧ (t.shaper.limits.ccw : Int)
                  ≤ ((a : Int) - sec.stop) % 36000 * table.gain / 100)

/-! ### Swing supervision (Chapter 4) -/

/-- A STAT from SWING (R66, R68, R71, R73): the angle, the containing-sector set, the condition of
slot 7, the set the alarm unit keeps, and the SECTOR sources, which follow it (R141). -/
def Obligations.SwingStatSetsAngle : Prop :=
  ∀ (f : List Byte) (s : State), s.power = .on → classifyDrive f = .stat .swing →
    s.alarm.slots.length = 64 →
    let raw := u16At (framePayload f) 0
    let valid := (byteAt (framePayload f) 2).getLsbD 0
    ∃ t, exec (.statTaken f) s = .next t
      ∧ (valid = true ∧ raw < 36000 →
          t.swing.raw = some raw
            ∧ t.swing.corrected = some ((raw + 36000 - swingOrigin s) % 36000))
      ∧ (¬ (valid = true ∧ raw < 36000) → t.swing.raw = none ∧ t.swing.corrected = none)
      ∧ t.swing.containing.length = 16
      ∧ (∀ n, n < 16 → (t.swing.containing.getD n false = true ↔
          ∃ sec a, (sectorsOf s)[n]? = some sec ∧ t.swing.corrected = some a
            ∧ ((a : Int) - sec.start) % 36000 < ((sec.stop : Int) - sec.start) % 36000))
      ∧ ((slotOf t 7).condition = true ↔
          ∃ sec a, sec ∈ blockingSectors s ∧ t.swing.corrected = some a
            ∧ ((a : Int) - sec.start) % 36000 < ((sec.stop : Int) - sec.start) % 36000)
      ∧ t.alarm.lastContaining = t.swing.containing
      ∧ (∀ (k : Nat) (d : AlarmDef) (n : Nat), k < 52 → (definitionsOf s)[k]? = some d →
          s.alarm.bound.getD k false = true → d.source = .sector n →
          (slotOf t (12 + k)).condition = t.swing.containing.getD n false)
      ∧ t.swing.clear = s.swing.clear ∧ t.swing.heldLoad = s.swing.heldLoad
      ∧ t.position = s.position ∧ t.walk = s.walk

/-- R75: the load curve. -/
def Obligations.LoadCurveFollowsItsPoints : Prop :=
  ∀ (points : List (Nat × Nat)), points.Pairwise (fun p q => p.1 < q.1) →
    (∀ p ∈ points, p.2 ≤ 1000) →
      (∀ x, loadCurve points x ≤ 1000)
        ∧ (∀ x p rest, points = p :: rest → x ≤ p.1 → loadCurve points x = p.2)
        ∧ (∀ x p, points.getLast? = some p → p.1 ≤ x → loadCurve points x = p.2)
        ∧ ∀ x p q front back, points = front ++ p :: q :: back → p.1 ≤ x → x < q.1 →
          (loadCurve points x : Int)
            = p.2 + ((x : Int) - p.1) * ((q.2 : Int) - p.2) / ((q.1 : Int) - p.1)

/-! ### The walk sequencer (Chapter 5) -/

/-- R92, R110, R111: a usable WALK table's command channels are desired as the sequencer's state
requires: every command keeps it. So the two contactors are never both asked to close (the table at the
head of Chapter 5). -/
def Obligations.CommandsInvKept : Prop :=
  (∀ (c : Instr) (s t : State), ImagesInv s → CommandsInv s → exec c s = .next t → CommandsInv t)
    ∧ ∀ (s : State) (w : WalkTable), CommandsInv s → usableWalk s = some w →
      ¬ (desiredOf s w.digCommand = some true ∧ desiredOf s w.walkCommand = some true)

/-- R96, R104, R108: the expiry of the transfer timer. -/
def Obligations.TransferTimeoutIsFault : Prop :=
  ∀ s : State, s.power ≠ .off → s.walk.transferTimer.isSome = true → s.alarm.slots.length = 64 →
    s.line.records.length = stationCount s → (s.walk.usable = true → walkUsable s = true) →
    ∃ t, exec .transferTimerExpiry s = .next t
      ∧ t.walk = { s.walk with state := .transferFault, sub := .none, transferTimer := none }
      ∧ t.shaper.gates = ⟨.gated, .gated, .gated, .gated⟩
      ∧ t.shaper.limits = s.shaper.limits ∧ t.shaper.lastRefs = s.shaper.lastRefs
      ∧ (slotOf t 8).condition = true
      ∧ (∀ w, usableWalk s = some w →
          desiredOf t w.digCommand = some false ∧ desiredOf t w.walkCommand = some false)
      ∧ t.power = s.power ∧ t.link = s.link ∧ t.position = s.position ∧ t.swing = s.swing
      ∧ t.mgmt = s.mgmt ∧ t.store = s.store ∧ t.tables = s.tables
      ∧ t.line = { s.line with records := t.line.records }
      ∧ t.line.records.map undesired = s.line.records.map undesired

/-- R97: a REF in DIG begins the transfer to walk exactly when its mode is WALK and the eight walk
conditions hold; otherwise nothing of the sequencer changes but the refusal code, the number of the first
condition that fails. R109: a REF in TRANSFER_FAULT leaves it only where the exit is open, for
CLOSING_DIG at mode DIG, and for CLOSING_WALK at mode WALK when conditions 1 to 6 and 8 hold. Both are
judged on the active list as the REF leaves it: one that ends HOLD has made slot 0 false (R13, R5). -/
def Obligations.DigLeftOnAllConditionsOnly : Prop :=
  (∀ (f : List Byte) (s : State), s.power = .on → classifyCab f = .ref → s.walk.state = .dig →
    (s.link.cabState = .hold → (s.alarm.list.map (·.slot)).Nodup) →
    let p := readRef f
    ∃ t, exec (.refTakenFromCab f) s = .next t
      ∧ (p.walkMode = false → t.walk = { s.walk with refusal := 0 })
      ∧ (p.walkMode = true → usableWalk s = none → t.walk = { s.walk with refusal := 1 })
      ∧ (∀ w, p.walkMode = true → usableWalk s = some w →
          ((∀ n, WalkCondition (heard s) p w n) → t.walk = { s.walk with
              state := .transferOut, sub := .openingDig, transferTimer := some w.stepTimeout,
              refusal := 0 })
            ∧ ∀ n, (∀ k, k < n → WalkCondition (heard s) p w k) → ¬ WalkCondition (heard s) p w n →
              t.walk = { s.walk with refusal := n }))
    ∧ ∀ (f : List Byte) (s : State), s.power = .on → classifyCab f = .ref →
      s.walk.state = .transferFault →
      (s.link.cabState = .hold → (s.alarm.list.map (·.slot)).Nodup) →
      let p := readRef f
      let exit (w : WalkTable) : Prop := usableWalk s = some w
        ∧ (∀ e ∈ listHeard s, e.slot ≠ 8)
        ∧ feedback s w.digFeedback = .opened ∧ feedback s w.walkFeedback = .opened
        ∧ SettledTo s w.digCommand false ∧ SettledTo s w.walkCommand false
      ∃ t, exec (.refTakenFromCab f) s = .next t
        ∧ ((∀ w, ¬ exit w) → t.walk = { s.walk with refusal := 13 })
        ∧ (∀ w, exit w → p.walkMode = false → t.walk = { s.walk with
            state := .transferBack, sub := .closingDig, transferTimer := some w.stepTimeout,
            refusal := 0 })
        ∧ (∀ w, exit w → p.walkMode = true →
            ((∀ n, n ≠ 7 → WalkCondition (heard s) p w n) → t.walk = { s.walk with
                state := .transferOut, sub := .closingWalk, transferTimer := some w.stepTimeout,
                refusal := 0 })
              ∧ ∀ n, n ≠ 7 → (∀ k, k < n → k ≠ 7 → WalkCondition (heard s) p w k) →
                ¬ WalkCondition (heard s) p w n → t.walk = { s.walk with refusal := n })

/-- A STAT from PROPEL: the cam phase (R90), the step count (R91), and the phase-change rules of
WALK_IDLE and SHOE_HOLD (R105). -/
def Obligations.PropelStatTurnsCam : Prop :=
  ∀ (f : List Byte) (s : State), s.power = .on → classifyDrive f = .stat .propel →
    let angle := u16At (framePayload f) 0
    let phase : CamPhase := match walkOf s with
      | none => .unknown
      | some w =>
        if (byteAt (framePayload f) 2).getLsbD 0 = false ∨ 3600 ≤ angle then .unknown
        else if w.c4 ≤ angle ∨ angle < w.c1 then .clear
        else if angle < w.c2 then .bearing
        else if angle < w.c3 then .carried
        else .setting
    ∃ t, exec (.statTaken f) s = .next t
      ∧ t.walk.cam = phase
      ∧ t.walk.stepCount
        = (if s.walk.cam = .setting ∧ phase = .clear then s.walk.stepCount + 1
          else s.walk.stepCount)
      ∧ t.walk.state
        = (if s.walk.state = .shoeHold ∧ phase = .clear then .walkIdle else s.walk.state)
      ∧ ((s.walk.state = .walkIdle ∧ s.walk.cam ≠ .clear ∧ phase = .clear)
            ∨ (s.walk.state = .shoeHold ∧ phase = .clear) → t.shaper.gates.swing = .gated)
      ∧ t.walk.usable = s.walk.usable ∧ t.walk.delivered = s.walk.delivered
      ∧ t.walk.refusal = s.walk.refusal
      ∧ t.position = s.position ∧ t.swing = s.swing

/-- R102, R103: in STEPPING and SHOE_HOLD the propel lever alone moves the sequencer, against the cam
phase as it stands; mode DIG is answered with code 11 and not acted on. What a REF does in STARTUP (R95),
in TRANSFER_OUT, where mode DIG reverses the transfer (R98, R99, R100), in WALK_IDLE, in the order of
R101, and in TRANSFER_BACK (R107). -/
def Obligations.SteppingFollowsTheLever : Prop :=
  (∀ (f : List Byte) (s : State), s.power = .on → classifyCab f = .ref →
    s.walk.state = .stepping ∨ s.walk.state = .shoeHold →
    let p := readRef f
    ∃ t, exec (.refTakenFromCab f) s = .next t
      ∧ t.walk.state
        = (if ((plantOf s).neutralBand : Int) < p.refs.propel then .stepping
          else if s.walk.state = .stepping ∧ s.walk.cam = .clear then .walkIdle
          else .shoeHold)
      ∧ t.walk.refusal = (if p.walkMode then 0 else 11)
      ∧ t.walk.cam = s.walk.cam ∧ t.walk.stepCount = s.walk.stepCount
      ∧ (t.walk.state ≠ .stepping → t.shaper.lastRefs.propel = 0)
      ∧ t.shaper.lastRefs.hoist = 0 ∧ t.shaper.lastRefs.drag = 0
      ∧ t.shaper.lastRefs.swing = 0)
    ∧ ∀ (f : List Byte) (s : State), s.power = .on → classifyCab f = .ref →
      let p := readRef f
      let above := ((plantOf s).neutralBand : Int) < p.refs.propel
      ∃ t, exec (.refTakenFromCab f) s = .next t
        ∧ (s.walk.state = .startup →
          t.walk = { s.walk with refusal := if p.walkMode then 14 else 0 })
        ∧ (s.walk.state = .transferBack →
          t.walk = { s.walk with refusal := if p.walkMode then 12 else 0 })
        ∧ (s.walk.state = .transferOut → p.walkMode = true →
          t.walk = { s.walk with refusal := 0 })
        ∧ (∀ w, s.walk.state = .transferOut → p.walkMode = false → usableWalk s = some w →
          let back (sub : SubStep) : WalkSequencer := { s.walk with
            state := .transferBack, sub := sub, transferTimer := some w.stepTimeout, refusal := 0 }
          let direct := s.walk.sub = .openingDig ∧ SettledTo s w.walkCommand false
          (direct → t.walk = back .closingDig) ∧ (¬ direct → t.walk = back .openingWalk))
        ∧ (∀ w, s.walk.state = .walkIdle → usableWalk s = some w →
          let window := ∃ a, s.swing.corrected = some a
            ∧ ((a : Int) - w.windowStart) % 36000 < ((w.windowEnd : Int) - w.windowStart) % 36000
          (p.walkMode = false → s.walk.cam = .clear → t.walk = { s.walk with
              state := .transferBack, sub := .openingWalk, transferTimer := some w.stepTimeout,
              refusal := 0 })
            ∧ (p.walkMode = false → s.walk.cam ≠ .clear → t.walk = { s.walk with refusal := 10 })
            ∧ (p.walkMode = true → ¬ above → t.walk = { s.walk with refusal := 0 })
            ∧ (p.walkMode = true → above → ¬ window → t.walk = { s.walk with refusal := 9 })
            ∧ (p.walkMode = true → above → window → s.walk.cam ≠ .clear →
              t.walk = { s.walk with refusal := 10 })
            ∧ (p.walkMode = true → above → window → s.walk.cam = .clear → t.walk = { s.walk with
              state := .stepping, sub := .none, transferTimer := none, refusal := 0 }))

/-! ### The station line (Chapter 6) -/

/-- R116, R117: a sweep over stations that answer cleanly yields exactly the identities that take part,
each once, in strictly ascending order, one in each pass. What the line gives back to a pass is an
operand of its command (log entries 11 and 32). R124, R130: whatever a pass is given, every command keeps
the found list enrolled, strictly ascending and within 24 entries, and the enrollment list strictly
ascending and within 32, since an identity out of order is passed over (log entry 43). R132: every command
keeps a new round before its first transaction while one of the round before is on the line. -/
def Obligations.SweepYieldsAscending : Prop :=
  (∀ (participants : List Identity) (n : Nat), participants.length ≤ n →
    Ascending (sweepYields participants n firstSweep)
      ∧ ∀ i, i ∈ sweepYields participants n firstSweep ↔ i ∈ participants)
    ∧ (∀ (c : Instr) (s t : State), ImagesInv s → SweepListsInv s → exec c s = .next t →
      SweepListsInv t)
    ∧ ∀ (c : Instr) (s t : State), FinishingInv s → exec c s = .next t → FinishingInv t

/-- R115, R120, R121, R125: the completion of the READ CLEARING on the line: a reply whose check matches
is recorded, any other, a body of another length than the status byte among them (log entry 46), is
charged as a miss; after a read that shows the power-up flag a WRITE CONDITION
follows at once; after the last of a step the round moves on (R124, R126, R127), the rotation pointer
moving with the end of step 4 (log entry 19). What is sent is R114's. The READ CLEARING of a round that a
STATION commit ended is not recorded (R132). -/
def Obligations.ReadClearingIsRecorded : Prop :=
  (∀ answer : PickedAnswer, OutcomeNotRecorded (fun x => ∃ i n, x = .picked i (.readClearing n))
    (exec (.readClearing answer)))
  ∧ ∀ (answer : PickedAnswer) (s : State) (r : Round) (n : Nat) (rest : List Job) (x : LiveRecord),
    s.power ≠ .off → s.line.finishing = none → s.line.flight = .round r → r.jobs = .readClearing n :: rest →
    recordOf s n = some x →
    (r.stage ≠ .sweeping → r.stage ≠ .completing → SentTo s n .readClearing)
    ∧ ∃ t, exec (.readClearing answer) s = .next t
      ∧ (∀ b : Byte, answer = .reply ([b] ++ checkBytes [b]) →
          recordOf t n = some { x with
              state := .present, misses := 0
              levels := ⟨some (b.getLsbD 0), some (b.getLsbD 1)⟩
              held := ⟨some (b.getLsbD 2), some (b.getLsbD 3)⟩
              latches := ⟨b.getLsbD 4, b.getLsbD 5⟩, powerUp := b.getLsbD 6
              conditionPending := x.conditionPending || b.getLsbD 6 }
            ∧ (b.getLsbD 6 = true → t.line.flight = .round { r with
                jobs := .writeCondition n :: rest, readOk := r.readOk ++ [n] })
            ∧ (b.getLsbD 6 = false → rest ≠ [] → t.line.flight = .round { r with
                jobs := rest, readOk := r.readOk ++ [n] })
            ∧ (b.getLsbD 6 = false → rest = [] →
              RoundMoved { r with readOk := r.readOk ++ [n] } n s t))
      ∧ ((∀ b : Byte, answer ≠ .reply ([b] ++ checkBytes [b])) →
          recordOf t n = some (if x.state = .missing ∨ 2 ≤ x.misses then
              { x with state := .missing, misses := 3 }
            else { x with misses := x.misses + 1 })
            ∧ (rest ≠ [] → t.line.flight = .round { r with jobs := rest })
            ∧ (rest = [] → RoundMoved r n s t))
      ∧ (∀ k, k ≠ n → recordOf t k = recordOf s k)
      ∧ (s.alarm.slots.length = 64 → (slotOf s 9).condition = stationMissing s →
          (slotOf t 9).condition = stationMissing t)
      ∧ t.power = s.power ∧ t.link = s.link ∧ t.position = s.position ∧ t.swing = s.swing
      ∧ t.walk = s.walk ∧ t.mgmt = s.mgmt ∧ t.store = s.store ∧ t.tables = s.tables
      ∧ t.line.finishing = none

/-- R115, R120, R123: the completion of WRITE OUTPUTS and of WRITE CONDITION: an echo that agrees is
recorded, any other answer is charged as a miss and what was owed stays owed; after the last of a step
the round moves on (R124, R126, R127). What is sent is R114's. The reply to WRITE CONDITION is given
decoded (log entry 10), an echo of outputs that is not one byte disagrees (log entry 46), and the rotation
pointer moves when the read and what follows it at once are done (log entry 19). The writes of a round that
a STATION commit ended are not recorded (R132). -/
def Obligations.WritesAreEchoedOrOwed : Prop :=
  (∀ answer : PickedAnswer, OutcomeNotRecorded (fun x => ∃ i n v, x = .picked i (.writeOutputs n v))
    (exec (.writeOutputs answer)))
  ∧ (∀ answer : ConditionAnswer, OutcomeNotRecorded (fun x => ∃ i n, x = .picked i (.writeCondition n))
    (exec (.writeCondition answer)))
  ∧ ∀ (s : State) (r : Round) (n : Nat) (rest : List Job) (x : LiveRecord),
    s.power ≠ .off → s.line.finishing = none → s.line.flight = .round r → recordOf s n = some x →
    let missed (y : LiveRecord) : LiveRecord :=
      if y.state = .missing ∨ 2 ≤ y.misses then { y with state := .missing, misses := 3 }
      else { y with misses := y.misses + 1 }
    (∀ (answer : PickedAnswer) (v : PerChannel Bool), r.jobs = .writeOutputs n v :: rest →
      let echoed := ∃ b : Byte, answer = .reply ([b] ++ checkBytes [b]) ∧ b.getLsbD 2 = v.a
        ∧ b.getLsbD 3 = v.b
      (r.stage ≠ .sweeping → r.stage ≠ .completing → SentTo s n (.writeOutputs v.a v.b))
      ∧ ∃ t, exec (.writeOutputs answer) s = .next t
        ∧ (echoed → recordOf t n = some { x with
            state := .present, misses := 0, held := ⟨some v.a, some v.b⟩ })
        ∧ (¬ echoed → recordOf t n = some (missed { x with outputPending := true }))
        ∧ (rest ≠ [] → t.line.flight = .round { r with jobs := rest })
        ∧ (rest = [] → RoundMoved r n s t)
        ∧ (∀ k, k ≠ n → recordOf t k = recordOf s k)
        ∧ t.walk = s.walk ∧ t.link = s.link ∧ t.position = s.position ∧ t.swing = s.swing
        ∧ t.mgmt = s.mgmt ∧ t.store = s.store ∧ t.tables = s.tables ∧ t.power = s.power
        ∧ t.line.finishing = none)
      ∧ ∀ answer : ConditionAnswer, r.jobs = .writeCondition n :: rest →
        let echoed := answer = .reply ⟨.latch, .either, true⟩ true
        (r.stage ≠ .sweeping → r.stage ≠ .completing →
          SentTo s n (.writeCondition ⟨.latch, .either, true⟩))
        ∧ ∃ t, exec (.writeCondition answer) s = .next t
          ∧ (echoed → recordOf t n = some { x with
              state := .present, misses := 0, conditionPending := false })
          ∧ (¬ echoed → recordOf t n = some (missed x))
          ∧ (rest ≠ [] → t.line.flight = .round { r with jobs := rest })
          ∧ (rest = [] → RoundMoved r n s t)
          ∧ (∀ k, k ≠ n → recordOf t k = recordOf s k)
          ∧ t.walk = s.walk ∧ t.link = s.link ∧ t.position = s.position ∧ t.swing = s.swing
          ∧ t.mgmt = s.mgmt ∧ t.store = s.store ∧ t.tables = s.tables ∧ t.power = s.power
          ∧ t.line.finishing = none

/-- R122, R123: an expiry of the scan timer restarts it, and starts a round or records a deferred start;
a deferred start is taken once nothing is in flight and no enrollment sweep waits. The taking of a
deferred start is a command of its own (log entry 4), and an expiry that finds an enrollment sweep
waiting on a free line records a deferred start (log entry 35). -/
def Obligations.ScanTimerStartsRounds : Prop :=
  (∀ s : State, s.power ≠ .off → s.line.scanTimer.isSome = true →
      ∃ t, exec .scanTimerExpiry s = .next t
        ∧ t.line.scanTimer = some (match stationOf s with
          | some table => table.scanPeriod
          | none => 100)
        ∧ (s.line.flight = .idle → s.line.enrollWaiting = false → RoundBegun s t
            ∧ t.line.deferredStart = s.line.deferredStart ∧ t.line.finishing = s.line.finishing)
        ∧ (s.line.flight ≠ .idle ∨ s.line.enrollWaiting = true →
            t.line = { s.line with scanTimer := t.line.scanTimer, deferredStart := true })
        ∧ t = s.withLine t.line)
    ∧ ∀ s : State, s.power ≠ .off → s.line.deferredStart = true → s.line.flight = .idle →
      s.line.enrollWaiting = false →
      ∃ t, exec .deferredRoundStart s = .next t
        ∧ RoundBegun s t ∧ t.line.deferredStart = false
        ∧ t.line.scanTimer = s.line.scanTimer ∧ t.line.finishing = s.line.finishing
        ∧ t = s.withLine t.line

/-- R117, R124 to R126: the completion of a pass of the conditional sweep: an enrolled identity whose check
byte matches, above every identity on the found list, joins it; while a marker is left the sweep goes on,
otherwise the stations found are read, or, with none found, the station at the rotation pointer. The reads
of a pass are an operand (log entry 11), the found list is held as table indices (log entry 40), and an
identity that a disturbed pass yields again, or out of order, is passed over (log entry 43). The pass of a
round that a STATION commit ended is not recorded (R132). -/
def Obligations.SeekIfPassFindsStations : Prop :=
  (∀ answer : PassAnswer, OutcomeNotRecorded (fun x => ∃ sweep, x = .seekIf sweep)
    (exec (.seekIfPass answer)))
  ∧ ∀ (answer : PassAnswer) (s : State) (r : Round), s.power ≠ .off → s.line.finishing = none →
    s.line.flight = .round r →
    r.stage = .sweeping →
    let listed (i : Identity) : List Nat :=
      if Joins (foundIdentities s) i then
        match stationIndex s i with
        | some n => s.line.found ++ [n]
        | none => s.line.found
      else s.line.found
    let reads (found : List Nat) : Flight :=
      if found ≠ [] then .round { r with stage := .reading, jobs := found.map .readClearing }
      else if stationCount s = 0 then .round { r with stage := .completing, jobs := [] }
      else .round { r with
        stage := .rotating
        jobs := [.readClearing (if s.line.pointer < stationCount s then s.line.pointer else 0)] }
    ∃ t, exec (.seekIfPass answer) s = .next t
      ∧ (∀ i m, runPass r.sweep answer = some (i, some m) →
          t = s.withLine { s.line with
            found := listed i, flight := .round { r with sweep := ⟨some m, i⟩ } })
      ∧ (∀ i, runPass r.sweep answer = some (i, none) →
          t = s.withLine { s.line with found := listed i, flight := reads (listed i) })
      ∧ (runPass r.sweep answer = none →
          t = s.withLine { s.line with flight := reads s.line.found })

/-- R130, R166: an accepted STATION ENROLL is recorded as outstanding, unanswered yet; its sweep starts at
once on a free line and waits for a round in flight. A waiting sweep starts once the line is free. Each
valid identity above those listed joins the list; the sweep ends without a marker, without an identity, or
at a 33rd one with MORE set, and its deferred confirmation is then due; in a brief dip it is discarded as it
is offered (R191). The start of a waiting sweep is a command of its own (log entry 4), the reads of a pass
are an operand (log entry 11), a confirmation that falls due while one waits and one is held takes the held
place (log entry 24), and an identity that a disturbed pass yields again, or out of order, is passed over
(log entry 43). The refusals stand in their order and change nothing but what every answer changes: STATE
outside DIG, BUSY while a sweep waits or runs. -/
def Obligations.EnrollmentListsTheLine : Prop :=
  (∀ (f : List Byte) (s : State),
      taken 0x0C f s = true → s.mgmt.lock = .open ∨ s.mgmt.lock = .unlocked →
      requestParams f = [] → s.walk.state = .dig → enrollBusy s = false →
      exec (.stationEnroll f) s = .next
        ((s.withMgmt { s.mgmt with
            outEnroll := some { code := 0x0C, tag := requestTag f }, seqFlag := false }).withLine
          (if s.line.flight = .idle then
            { s.line with flight := .enroll { sweep := ⟨none, 0⟩, list := [] } }
          else { s.line with enrollWaiting := true })))
    ∧ (∀ (f : List Byte) (s : State),
      taken 0x0C f s = true → s.mgmt.lock = .open ∨ s.mgmt.lock = .unlocked →
      requestParams f = [] →
      (s.walk.state ≠ .dig →
          exec (.stationEnroll f) s = .next (answeredOnly s 0x0C (requestTag f) .state [] false))
        ∧ (s.walk.state = .dig →
          (s.line.enrollWaiting = true ∨ ∃ e, s.line.flight = .enroll e) →
          exec (.stationEnroll f) s = .next (answeredOnly s 0x0C (requestTag f) .busy [] false)))
    ∧ (∀ s : State, s.power ≠ .off → s.line.enrollWaiting = true → s.line.flight = .idle →
      exec .enrollmentSweepStart s = .next (s.withLine { s.line with
        enrollWaiting := false, flight := .enroll { sweep := ⟨none, 0⟩, list := [] } }))
    ∧ ∀ (answer : PassAnswer) (s : State) (e : Enrollment), s.power ≠ .off → PortsInv s →
      s.line.finishing = none → s.line.flight = .enroll e →
      let grown (i : Identity) : List Identity := if Joins e.list i then e.list ++ [i] else e.list
      let ended (t : State) (list : List Identity) (more : Bool) : Prop :=
        t.line = { s.line with flight := .idle }
          ∧ ∀ o, s.mgmt.outEnroll = some o →
            (s.power = .on → t.mgmt = { s.mgmt with outEnroll := none, deferredStore := 0 }
              ∧ DeferredJoined
                { kind := .mcnf true
                  bytes := buildMcnf o.code o.tag 0 s.mgmt.deferredStore
                    ([if more then 1 else 0, BitVec.ofNat 8 list.length]
                      ++ list.flatMap identityBytes) } s t)
              ∧ (s.power = .dip →
                t.mgmt = { s.mgmt with outEnroll := none } ∧ t.link = s.link)
      ∃ t, exec (.seekPass answer) s = .next t
        ∧ (runPass e.sweep answer = none → ended t e.list false)
        ∧ (∀ i marker, runPass e.sweep answer = some (i, marker) →
            (Joins e.list i ∧ e.list.length = 32 → ended t e.list true)
              ∧ (¬ (Joins e.list i ∧ e.list.length = 32) →
                (marker = none → ended t (grown i) false)
                  ∧ ∀ m, marker = some m → t = s.withLine { s.line with
                    flight := .enroll { sweep := ⟨some m, i⟩, list := grown i } }))
        ∧ t.line.records = s.line.records ∧ t.line.found = s.line.found
        ∧ t.power = s.power ∧ t.position = s.position ∧ t.shaper = s.shaper
        ∧ t.swing = s.swing ∧ t.walk = s.walk ∧ t.alarm = s.alarm ∧ t.store = s.store
        ∧ t.tables = s.tables

/-- R127, R93: a round completion ends the round and hands the live records on. With a usable WALK table:
STARTUP ends by the table of R95; outside it both feedbacks closed, or the other contactor's feedback closed
in a steady state, are TRANSFER_FAULT (R108); a transfer sub-step advances or completes by its own test
(R98, R100, R107); in TRANSFER_FAULT the condition of slot 8 becomes false where both feedbacks are open,
true where both are closed, and is kept otherwise (R93 step 5, R108); a command found unsettled is requested
again (R92). With none, STARTUP ends in DIG, and no other state changes. The station sources read in the
round are evaluated (R139). The alarm unit then checks every owned channel (R148): a PRESENT station that
holds an output other than the computed value is left pending; in a completion after which the listed slots
are those listed before, whatever became of the states of their entries, a station of no walk command is set
again at exactly the owned channels that differ and were not pending, and is otherwise left alone; an output
of which no value is held counts as no difference (log entry 20). Every channel is judged as the check
begins (log entry 37). What was last delivered is held as a copy (log entry 14), both feedbacks closed count
in TRANSFER_FAULT too (log entry 16), and the deferred start is taken by a command of its own (log entry 4).
-/
def Obligations.RoundCompletionIsHandedOn : Prop :=
  ∀ (s : State) (r : Round), s.power ≠ .off → s.line.flight = .round r → r.stage = .completing →
    ∃ t, exec .roundCompletion s = .next t
      ∧ t.line.flight = .idle
      ∧ t.walk.delivered
        = s.line.records.map (fun x => { state := x.state, levels := x.levels })
      ∧ (∀ w, usableWalk s = some w →
          let fd := feedback t w.digFeedback
          let fw := feedback t w.walkFeedback
          let dig := (recordOf s w.digCommand.station).bind (·.held.get w.digCommand.channel)
          let walk := (recordOf s w.walkCommand.station).bind (·.held.get w.walkCommand.channel)
          let unseen := ∃ b ∈ walkBindings w, ∀ x, recordOf s b.station = some x → x.state = .unseen
          let missing := ∃ b ∈ [w.digCommand, w.walkCommand], ∃ x, recordOf s b.station = some x
            ∧ x.state = .missing
          let off := SettledTo s w.digCommand false ∧ SettledTo s w.walkCommand false
          let becomes (state : SeqState) (sub : SubStep) (timer : Timer) : Prop :=
            t.walk = { s.walk with
              delivered := t.walk.delivered, state := state, sub := sub, transferTimer := timer }
          let stays := becomes s.walk.state s.walk.sub s.walk.transferTimer
          let fault := becomes .transferFault .none none
            ∧ t.shaper.gates = ⟨.gated, .gated, .gated, .gated⟩
            ∧ (s.alarm.slots.length = 64 → (slotOf t 8).condition = true)
          (s.walk.state = .startup →
            (unseen → stays)
              ∧ (¬ unseen → missing ∨ (dig = some true ∧ walk = some true)
                  ∨ fd = .unknown ∨ fw = .unknown → fault)
              ∧ (¬ unseen → ¬ missing → fd ≠ .unknown → fw ≠ .unknown →
                (dig = some true → walk = some false → fd = .closed → fw = .opened →
                    becomes .dig .none none)
                  ∧ (dig = some false → walk = some true → fw = .closed → fd = .opened →
                    becomes (if s.walk.cam = .clear then .walkIdle else .shoeHold) .none none)
                  ∧ (¬ (dig = some true ∧ walk = some false ∧ fd = .closed ∧ fw = .opened) →
                    ¬ (dig = some false ∧ walk = some true ∧ fw = .closed ∧ fd = .opened) → fault)))
          ∧ (s.walk.state ≠ .startup →
            (fd = .closed → fw = .closed → fault)
              ∧ (s.walk.state = .dig → fw = .closed → fault)
              ∧ (s.walk.state = .walkIdle ∨ s.walk.state = .stepping ∨ s.walk.state = .shoeHold →
                fd = .closed → fault)
              ∧ (¬ (fd = .closed ∧ fw = .closed) →
                (s.walk.state = .dig → fw ≠ .closed → stays)
                  ∧ (s.walk.state = .walkIdle ∨ s.walk.state = .stepping
                      ∨ s.walk.state = .shoeHold → fd ≠ .closed → stays)
                  ∧ (s.walk.state = .transferOut → s.walk.sub = .openingDig →
                    (fd = .opened ∧ fw = .opened ∧ off →
                        becomes .transferOut .closingWalk (some w.stepTimeout))
                      ∧ (¬ (fd = .opened ∧ fw = .opened ∧ off) → stays))
                  ∧ (s.walk.state = .transferOut → s.walk.sub = .closingWalk →
                    (fw = .closed ∧ fd = .opened ∧ SettledTo s w.walkCommand true →
                        becomes .walkIdle .none none ∧ t.shaper.gates.propel = .gated
                          ∧ t.shaper.gates.swing = .gated)
                      ∧ (¬ (fw = .closed ∧ fd = .opened ∧ SettledTo s w.walkCommand true) → stays))
                  ∧ (s.walk.state = .transferBack → s.walk.sub = .openingWalk →
                    (fw = .opened ∧ fd = .opened ∧ off →
                        becomes .transferBack .closingDig (some w.stepTimeout))
                      ∧ (¬ (fw = .opened ∧ fd = .opened ∧ off) → stays))
                  ∧ (s.walk.state = .transferBack → s.walk.sub = .closingDig →
                    (fd = .closed ∧ fw = .opened ∧ SettledTo s w.digCommand true →
                        becomes .dig .none none
                          ∧ t.shaper.gates = ⟨.gated, .gated, .gated, .gated⟩)
                      ∧ (¬ (fd = .closed ∧ fw = .opened ∧ SettledTo s w.digCommand true) → stays))
                  ∧ (s.walk.state = .transferFault → stays
                    ∧ (fd = .opened → fw = .opened → (slotOf t 8).condition = false)
                    ∧ (¬ (fd = .opened ∧ fw = .opened) → slotOf t 8 = slotOf s 8)))
              ∧ ∀ b v, t.walk.state = s.walk.state →
                ((b = w.digCommand ∧ (s.walk.state = .dig ∧ v = true ∨ s.walk.state ≠ .dig ∧ v = false))
                  ∨ (b = w.walkCommand
                    ∧ (s.walk.state = .dig ∧ v = false ∨ s.walk.state ≠ .dig ∧ v = true))) →
                s.walk.state = .dig ∨ s.walk.state = .walkIdle ∨ s.walk.state = .stepping
                  ∨ s.walk.state = .shoeHold →
                SettledTo s b (!v) → ∃ x, recordOf t b.station = some x ∧ x.outputPending = true))
      ∧ (usableWalk s = none → t.walk = { s.walk with
          delivered := t.walk.delivered
          state := if s.walk.state = .startup then .dig else s.walk.state
          sub := if s.walk.state = .startup then .none else s.walk.sub
          transferTimer := if s.walk.state = .startup then none else s.walk.transferTimer })
      ∧ (s.alarm.slots.length = 64 → ∀ (k : Nat) (d : AlarmDef), k < 52 →
          (definitionsOf s)[k]? = some d → s.alarm.bound.getD k false = true →
          let before := (slotOf s (12 + k)).condition
          let after := (slotOf t (12 + k)).condition
          (∀ b x, recordOf s b.station = some x → b.station ∈ r.readOk →
              (∀ polarity high, d.source = .stationLevel b polarity →
                  x.levels.get b.channel = some high → after = (high == polarity))
                ∧ (d.source = .stationEdge b → after = x.latches.get b.channel))
            ∧ ∀ b, b.station ∉ r.readOk →
              (d.source = .stationEdge b ∨ ∃ polarity, d.source = .stationLevel b polarity) →
              after = before)
      ∧ (∀ b x, recordOf s b.station = some x → alarmOwns s b = true → walkOwns s b = false →
          x.state = .present → x.held.get b.channel = some (!computedValue t b) →
          ∃ y, recordOf t b.station = some y ∧ y.outputPending = true)
      ∧ (∀ n x, recordOf s n = some x →
          t.alarm.list.map (·.slot) = s.alarm.list.map (·.slot) →
          (∀ w, usableWalk s = some w → w.digCommand.station ≠ n ∧ w.walkCommand.station ≠ n) →
          let again (c : Channel) : Bool := alarmOwns s ⟨n, c⟩ && x.state == .present
            && !x.outputPending && x.held.get c == some (!computedValue s ⟨n, c⟩)
          let desired (c : Channel) : Option Bool :=
            if again c then some (computedValue s ⟨n, c⟩) else x.desired.get c
          recordOf t n = some { x with
            desired := ⟨desired .a, desired .b⟩
            outputPending := x.outputPending || again .a || again .b })
      ∧ t.line = { s.line with records := t.line.records, flight := .idle }
      ∧ t.line.records.map undesired = s.line.records.map undesired
      ∧ t.power = s.power ∧ t.link = s.link ∧ t.position = s.position ∧ t.swing = s.swing
      ∧ t.mgmt = s.mgmt ∧ t.store = s.store ∧ t.tables = s.tables

/-- R128, R129: an accepted STATION OUTPUT sets each channel it names by the list or lists that name it,
makes its station's output pending, and sets no other channel. The shape of the result data is the
model's (log entry 27). The refusals stand in their order and change nothing but what every answer changes:
STATE without a STATION table, RANGE, OWNED; a count above 48 is RANGE before them (log entry 33). -/
def Obligations.StationOutputSetsNamedChannels : Prop :=
  (∀ (f : List Byte) (s : State),
    let p := requestParams f
    let pairs := setPairs p ++ clearPairs p
    let refused (o : ReqOutcome) : Prop :=
      exec (.stationOutput f) s = .next (answeredOnly s 0x0B (requestTag f) o [] false)
    let counted := u8At p 0 ≤ 48 ∧ u8At p 1 ≤ 48
    let named := ∀ c ∈ pairs, c.1 < stationCount s ∧ c.2 ≤ 1
    taken 0x0B f s = true → s.mgmt.lock = .open ∨ s.mgmt.lock = .unlocked →
    p.length = 2 + 2 * u8At p 0 + 2 * u8At p 1 →
      (¬ counted → refused .range)
        ∧ (counted → stationOf s = none → refused .state)
        ∧ (counted → stationOf s ≠ none → ¬ named → refused .range)
        ∧ (counted → stationOf s ≠ none → named →
          (∃ c ∈ pairs, walkOwns s ⟨c.1, channelOf c.2⟩ = true
            ∨ alarmOwns s ⟨c.1, channelOf c.2⟩ = true) → refused .owned))
  ∧ ∀ (f : List Byte) (s : State),
    let p := requestParams f
    let sets := setPairs p
    let clears := clearPairs p
    taken 0x0B f s = true → s.mgmt.lock = .open ∨ s.mgmt.lock = .unlocked →
    p.length = 2 + 2 * u8At p 0 + 2 * u8At p 1 → u8At p 0 ≤ 48 → u8At p 1 ≤ 48 →
    (stationOf s).isSome = true → s.line.records.length = stationCount s →
    (∀ c ∈ sets ++ clears, c.1 < stationCount s ∧ c.2 ≤ 1) →
    (∀ c ∈ sets ++ clears, walkOwns s ⟨c.1, channelOf c.2⟩ = false
      ∧ alarmOwns s ⟨c.1, channelOf c.2⟩ = false) →
    ∃ t, exec (.stationOutput f) s = .next t
      ∧ (∀ (n : Nat) (ch : Channel), n < stationCount s →
          let inSet := (n, channelCode ch) ∈ sets
          let inClear := (n, channelCode ch) ∈ clears
          (inSet → ¬ inClear → desiredOf t ⟨n, ch⟩ = some true)
            ∧ (¬ inSet → inClear → desiredOf t ⟨n, ch⟩ = some false)
            ∧ (inSet → inClear →
              desiredOf t ⟨n, ch⟩ = some (!((desiredOf s ⟨n, ch⟩).getD false)))
            ∧ (¬ inSet → ¬ inClear → desiredOf t ⟨n, ch⟩ = desiredOf s ⟨n, ch⟩)
            ∧ (inSet ∨ inClear → ∃ x, recordOf t n = some x ∧ x.outputPending = true))
      ∧ t.link = confirmedLink s 0x0B (requestTag f) .accepted (stationOutputData p t)
      ∧ t.mgmt = { s.mgmt with deferredStore := 0, seqFlag := false }
      ∧ t.line = { s.line with records := t.line.records }
      ∧ t.line.records.map undesired = s.line.records.map undesired
      ∧ t.power = s.power ∧ t.position = s.position ∧ t.shaper = s.shaper ∧ t.swing = s.swing
      ∧ t.walk = s.walk ∧ t.alarm = s.alarm ∧ t.store = s.store ∧ t.tables = s.tables

/-! ### Alarms (Chapter 7) -/

/-- R134, R142, R144, R151, R154: the alarm unit's slots, list, notice queue and log stay as their rules
have them: every command keeps it. -/
def Obligations.AlarmInvKept : Prop :=
  ∀ (c : Instr) (s t : State), ImagesInv s → AlarmInv s → exec c s = .next t → AlarmInv t

/-- R143, R144: the expiry of a PENDING slot's delay timer raises the slot, in all six steps. R142, R145,
R146: what an evaluation does, by the qualification state of the slot: an IDLE slot raises at once or
becomes PENDING, a PENDING one returns to IDLE or runs on, a listed one returns, with its entry removed or
RETURNED_UNACK, or is re-asserted; a removal brings the output up to date (R148). In a log that holds 256
entries a new one overwrites the oldest (R154). -/
def Obligations.DelayExpiryRaises : Prop :=
  (∀ (n : Nat) (a : Attrs) (s : State), s.power ≠ .off → attrsOf s n = some a →
    (slotOf s n).delay.isSome = true → s.alarm.log.length ≤ 256 →
    ∃ t, exec (.delayTimerExpiry n) s = .next t ∧ Raised n a (slotOf s n).condition s t)
  ∧ ∀ (n : Nat) (a : Attrs) (s : State), attrsOf s n = some a → n < s.alarm.slots.length →
    (s.alarm.list.map (·.slot)).Nodup → s.alarm.log.length ≤ 256 →
    let stores (v : Bool) (x : Slot) : Prop :=
      evaluate n v s = s.withAlarm { s.alarm with slots := s.alarm.slots.set n x }
    let restated (x : EntryState) : List Entry :=
      s.alarm.list.map fun e => if e.slot = n then { e with state := x } else e
    let slot (v : Bool) : Slot := { slotOf s n with condition := v }
    (entryOf s n = none →
        stores false { condition := false, delay := none }
        ∧ ((slotOf s n).delay.isSome = true → stores true (slot true))
        ∧ ((slotOf s n).delay = none → a.delay ≠ 0 →
          stores true { condition := true, delay := some a.delay })
        ∧ ((slotOf s n).delay = none → a.delay = 0 → Raised n a true s (evaluate n true s)))
      ∧ ∀ e, entryOf s n = some e →
        (e.state ≠ .returnedUnack → stores true (slot true))
        ∧ (e.state = .returnedUnack → evaluate n true s = s.withAlarm { s.alarm with
            slots := s.alarm.slots.set n (slot true), list := restated .raisedUnack })
        ∧ (e.state = .returnedUnack → stores false (slot false))
        ∧ (e.state = .raisedUnack → a.latched = true →
          evaluate n false s = s.withAlarm { s.alarm with
            slots := s.alarm.slots.set n (slot false), list := restated .returnedUnack
            log := logAfter s [(.return', n)], nextSeq := s.alarm.nextSeq + 1 })
        ∧ (e.state = .raisedAck ∨ (e.state = .raisedUnack ∧ a.latched = false) →
          let t := evaluate n false s
          t.alarm = { s.alarm with
              slots := s.alarm.slots.set n (slot false)
              list := s.alarm.list.filter fun x => x.slot ≠ n
              log := logAfter s [(.return', n), (.remove, n)]
              nextSeq := s.alarm.nextSeq + 2 }
            ∧ t = (s.withAlarm t.alarm).withLine t.line
            ∧ (∀ b r, a.output = some b → recordOf s b.station = some r →
              recordOf t b.station
                = some (if computedValue t b = false ∧ walkOwns s b = false then
                    { r with desired := r.desired.set b.channel (some false), outputPending := true }
                  else r))
            ∧ (∀ k, a.output.map (·.station) ≠ some k → recordOf t k = recordOf s k))

/-- R153: the time counter rises by 1 and wraps, and nothing else changes, the delay timers among it. It
is 0 at a power-on start and runs on over a restart. -/
def Obligations.TimeCounterTicks : Prop :=
  (∀ s : State, s.power ≠ .off →
      ∃ t, exec .timeCounterTick s = .next t
        ∧ t.alarm.time.toNat = (s.alarm.time.toNat + 1) % 4294967296
        ∧ t = s.withAlarm { s.alarm with time := t.alarm.time })
    ∧ (∀ (found : List FoundItem) (s t : State), exec (.powerOnStart found) s = .next t →
      t.alarm.time = 0)
    ∧ ∀ s t : State, exec .restartTakesEffect s = .next t → t.alarm.time = s.alarm.time

/-- R147: acknowledging one entry acts by its state; a slot with no entry is refused with RANGE and
nothing is changed. ALL leaves no unacknowledged entry: what was RETURNED_UNACK is gone, every other
entry is RAISED_ACK at its place, and the confirmation carries how many the request changed. Each change
is logged, in list order, in a full log over the oldest entries (R154). -/
def Obligations.AcknowledgeActsByState : Prop :=
  (∀ (f : List Byte) (n : Nat) (s : State), taken 0x0E f s = true →
      requestParams f = [BitVec.ofNat 8 n] → n < 255 → (s.alarm.list.map (·.slot)).Nodup →
      s.alarm.log.length ≤ 256 →
      ((64 ≤ n ∨ entryOf s n = none) →
          exec (.alarmAcknowledge f) s
            = .next (answeredOnly s 0x0E (requestTag f) .range [] false))
        ∧ ∀ e, n < 64 → entryOf s n = some e →
          ∃ t, exec (.alarmAcknowledge f) s = .next t
            ∧ (e.state = .raisedUnack →
                t.alarm = { s.alarm with
                  list := s.alarm.list.map fun x =>
                    if x.slot = n then { x with state := .raisedAck } else x
                  log := logAfter s [(.ack, n)], nextSeq := s.alarm.nextSeq + 1 })
            ∧ (e.state = .returnedUnack →
                t.alarm = { s.alarm with
                  list := s.alarm.list.filter fun x => x.slot ≠ n
                  log := logAfter s [(.ack, n), (.remove, n)]
                  nextSeq := s.alarm.nextSeq + 2 })
            ∧ (e.state = .raisedAck → t.alarm = s.alarm)
            ∧ t.link = confirmedLink s 0x0E (requestTag f) .accepted
                ([if e.state = .raisedAck then 0 else 1, BitVec.ofNat 8 t.alarm.list.length]
                  ++ u8 (unackCount t))
            ∧ t.mgmt = { s.mgmt with deferredStore := 0, seqFlag := false }
            ∧ t.power = s.power ∧ t.position = s.position ∧ t.shaper = s.shaper
            ∧ t.swing = s.swing ∧ t.walk = s.walk ∧ t.store = s.store ∧ t.tables = s.tables
            ∧ t.line = { s.line with records := t.line.records }
            ∧ t.line.records.map undesired = s.line.records.map undesired)
    ∧ ∀ (f : List Byte) (s : State), taken 0x0E f s = true → requestParams f = [255] →
      (s.alarm.list.map (·.slot)).Nodup →
      ∃ t, exec (.alarmAcknowledge f) s = .next t
        ∧ t.alarm.list = (s.alarm.list.filter fun e => e.state ≠ .returnedUnack).map
            (fun e => { e with state := .raisedAck })
        ∧ (s.alarm.log.length ≤ 256 → Logged (s.alarm.list.flatMap fun e =>
            match e.state with
            | .raisedUnack => [(.ack, e.slot)]
            | .returnedUnack => [(.ack, e.slot), (.remove, e.slot)]
            | .raisedAck => []) s t)
        ∧ t.alarm.slots = s.alarm.slots ∧ t.alarm.notices = s.alarm.notices
        ∧ t.alarm.firstOut = s.alarm.firstOut ∧ t.alarm.time = s.alarm.time
        ∧ t.link = confirmedLink s 0x0E (requestTag f) .accepted
            (u8 (unackCount s) ++ u8 t.alarm.list.length ++ [0])
        ∧ t.mgmt = { s.mgmt with deferredStore := 0, seqFlag := false }
        ∧ t.shaper = s.shaper ∧ t.walk = s.walk ∧ t.tables = s.tables ∧ t.store = s.store

/-- R152, R150: RE-ANNOUNCE refills the notice queue with the unacknowledged entries, at most 8;
FIRST-OUT CLEAR empties the record unless its slot is listed, when it is refused with STATE. -/
def Obligations.ReannounceAndFirstOutClear : Prop :=
  (∀ (f : List Byte) (s : State), taken 0x0F f s = true → requestParams f = [] →
      let slots :=
        ((s.alarm.list.filter fun e => e.state = .raisedUnack ∨ e.state = .returnedUnack).map
          (·.slot)).take 8
      exec (.alarmReAnnounce f) s = .next
        ((answeredOnly s 0x0F (requestTag f) .accepted [BitVec.ofNat 8 slots.length] false).withAlarm
          { s.alarm with notices := slots }))
    ∧ ∀ (f : List Byte) (s : State), taken 0x11 f s = true → requestParams f = [] →
      let named := ∃ r e, s.alarm.firstOut = some r ∧ e ∈ s.alarm.list ∧ e.slot = r.slot
      (named → exec (.firstOutClear f) s
          = .next (answeredOnly s 0x11 (requestTag f) .state [] false))
        ∧ (¬ named → exec (.firstOutClear f) s
          = .next ((answeredOnly s 0x11 (requestTag f) .accepted [] false).withAlarm
            { s.alarm with firstOut := none }))

/-! ### Management requests and the lock (Chapter 8) -/

/-- R161: an MREQ that finds an immediate confirmation waiting, or a restart pending, changes nothing:
whichever row its code names, and as MREQ_DISCARDED. -/
def Obligations.UntakenRequestChangesNothing : Prop :=
  ∀ (f : List Byte) (s : State), classifyCab f = .mreq →
    immediateWaiting s = true ∨ s.mgmt.restartPending = true →
    exec (arrivalCommand .cab f) s = .next s ∧ exec (.mreqDiscarded f) s = .next s

/-- R163, R164: an undefined request code, or parameters of another length than the code's, is answered
BAD_REQUEST whatever the lock state; nothing changes but what every answer changes. -/
def Obligations.MalformedRequestIsRefused : Prop :=
  ∀ (f : List Byte) (s : State), s.power = .on → classifyCab f = .mreq →
    immediateWaiting s = false → s.mgmt.restartPending = false →
    let code := requestCode f
    let length := (requestParams f).length
    let refused : Host.Outcome State Fault Refusal :=
      .next (answeredOnly s code (requestTag f) .badRequest [] false)
    (code = 0 ∨ 24 < code → exec (.undefinedRequestCode f) s = refused)
      ∧ (∀ c n, (c, n) ∈
          [(0x01, 0), (0x02, 0), (0x03, 4), (0x04, 3), (0x06, 0), (0x07, 2), (0x08, 0), (0x09, 9),
           (0x0A, 2), (0x0C, 0), (0x0D, 2), (0x0E, 1), (0x0F, 0), (0x10, 0), (0x11, 0), (0x12, 2),
           (0x13, 16), (0x14, 16), (0x15, 0), (0x16, 0), (0x17, 0), (0x18, 0)] →
          code = c → length ≠ n → exec (arrivalCommand .cab f) s = refused)
      ∧ (code = 0x05 → (length < 3 ∨ length ≠ 3 + u8At (requestParams f) 2) →
          exec (.tableBlock f) s = refused)
      ∧ (code = 0x0B → (length < 2 ∨ length ≠ 2 + 2 * u8At (requestParams f) 0
            + 2 * u8At (requestParams f) 1) →
          exec (.stationOutput f) s = refused)

/-- R164: in LOCKED and FROZEN every well-formed request that changes the part is answered LOCKED,
without result data, and in FROZEN so are KEY UNLOCK, KEY CLEAR and GUARD; nothing changes but what
every answer changes. -/
def Obligations.LockedRequestIsRefused : Prop :=
  ∀ (f : List Byte) (s : State), s.power = .on → classifyCab f = .mreq →
    immediateWaiting s = false → s.mgmt.restartPending = false →
    let p := requestParams f
    let refused : Host.Outcome State Fault Refusal :=
      .next (answeredOnly s (requestCode f) (requestTag f) .locked [] false)
    (∀ c n, (c, n) ∈
        [(0x04, 3), (0x05, 3 + u8At p 2), (0x06, 0), (0x07, 2), (0x09, 9),
         (0x0B, 2 + 2 * u8At p 0 + 2 * u8At p 1), (0x0C, 0), (0x13, 16), (0x17, 0), (0x18, 0)] →
        requestCode f = c → p.length = n → s.mgmt.lock = .locked ∨ s.mgmt.lock = .frozen →
        exec (arrivalCommand .cab f) s = refused)
      ∧ ∀ c n, (c, n) ∈ [(0x14, 16), (0x15, 0), (0x16, 0)] → requestCode f = c → p.length = n →
        s.mgmt.lock = .frozen → exec (arrivalCommand .cab f) s = refused

/-- R164, R169, R171, R172: KEY UNLOCK, GUARD and FREEZE in every lock state, and RESTART where it is admitted
(R174). Each changes the lock state, the attempts count or the restart-pending flag, and what every
answer changes. -/
def Obligations.LockMovesByRequest : Prop :=
  ∀ (f : List Byte) (s : State),
    let p := requestParams f
    let answered (code : Nat) (o : ReqOutcome) (data : List Byte) (m : Management) :
        Host.Outcome State Fault Refusal :=
      .next ((s.withLink (confirmedLink s code (requestTag f) o data)).withMgmt
        { m with deferredStore := 0, seqFlag := false })
    let unlocked := { s.mgmt with lock := Lock.unlocked }
    let locked := { s.mgmt with lock := Lock.locked }
    let frozen := { s.mgmt with lock := Lock.frozen }
    let fewer := { s.mgmt with attempts := s.mgmt.attempts - 1 }
    (taken 0x14 f s = true → p.length = 16 →
        exec (.keyUnlock f) s = match s.mgmt.lock with
          | .frozen => answered 0x14 .locked [] s.mgmt
          | .open => answered 0x14 .accepted (u8 s.mgmt.attempts) s.mgmt
          | .unlocked => answered 0x14 .accepted (u8 s.mgmt.attempts) s.mgmt
          | .locked =>
            if s.mgmt.attempts = 0 then answered 0x14 .attempts [0] s.mgmt
            else if s.mgmt.key = some p then
              answered 0x14 .accepted (u8 s.mgmt.attempts) unlocked
            else answered 0x14 .keyMismatch (u8 (s.mgmt.attempts - 1)) fewer)
      ∧ (taken 0x16 f s = true → p = [] →
        exec (.guard f) s = match s.mgmt.lock with
          | .frozen => answered 0x16 .locked [] s.mgmt
          | .open => answered 0x16 .state [0] s.mgmt
          | .unlocked => answered 0x16 .accepted [1] locked
          | .locked => answered 0x16 .accepted [1] locked)
      ∧ (taken 0x17 f s = true → p = [] →
        exec (.freeze f) s = match s.mgmt.lock with
          | .open => answered 0x17 .accepted [] frozen
          | .unlocked => answered 0x17 .accepted [] frozen
          | .locked => answered 0x17 .locked [] s.mgmt
          | .frozen => answered 0x17 .locked [] s.mgmt)
      ∧ (taken 0x18 f s = true → p = [] → s.mgmt.lock = .open ∨ s.mgmt.lock = .unlocked →
        exec (.restart f) s = answered 0x18 .accepted [] { s.mgmt with restartPending := true })

/-- R168, R170, R187: an accepted KEY SET and an accepted KEY CLEAR change the key and the lock state and
start a retained write of the key; both are refused with BUSY while a write is in flight. -/
def Obligations.KeyIsSetAndCleared : Prop :=
  ∀ (f : List Byte) (s : State),
    let p := requestParams f
    let answered (code : Nat) (m : Management) (value : Option (List Byte)) : State :=
      ((s.withLink (confirmedLink s code (requestTag f) .accepted [])).withMgmt
        { m with deferredStore := 0, seqFlag := false }).withStore
        { s.store with keyCopy := none, keyStatus := .writing, inFlight := some (.key value) }
    (taken 0x13 f s = true → p.length = 16 → s.mgmt.lock = .open ∨ s.mgmt.lock = .unlocked →
        (s.store.inFlight = none → exec (.keySet f) s = .next (answered 0x13
            { s.mgmt with key := some p, attempts := 5, lock := .unlocked } (some p)))
          ∧ (s.store.inFlight.isSome = true → exec (.keySet f) s
            = .next (answeredOnly s 0x13 (requestTag f) .busy [] false)))
      ∧ (taken 0x15 f s = true → p = [] →
        (s.mgmt.lock = .unlocked → s.store.inFlight = none → exec (.keyClear f) s
            = .next (answered 0x15 { s.mgmt with key := none, lock := .open } none))
          ∧ (s.mgmt.lock = .unlocked → s.store.inFlight.isSome = true → exec (.keyClear f) s
            = .next (answeredOnly s 0x15 (requestTag f) .busy [] false))
          ∧ (s.mgmt.lock = .locked → exec (.keyClear f) s
            = .next (answeredOnly s 0x15 (requestTag f) .locked [] false))
          ∧ (s.mgmt.lock = .open → exec (.keyClear f) s
            = .next (answeredOnly s 0x15 (requestTag f) .state [] false)))

/-- R173, R185, R39, R150: IDENTIFY, TABLE STATE, LIMITS READ and FIRST-OUT READ are accepted in every
lock state with their data, and change nothing but what every answer changes; an accepted LIMITS READ
alone leaves the sequence flag set (R38). The shapes of the data of TABLE STATE and FIRST-OUT READ are
the model's (log entries 18, 28, 29), and so is it that no count byte stands before the twelve capacities and
the groups of the seven kinds (log entry 49); the logic revision is a free value (log entry 25). -/
def Obligations.ReadsAreAcceptedInEveryState : Prop :=
  ∀ (f : List Byte) (s : State), requestParams f = [] →
    (taken 0x01 f s = true → exec (.identify f) s = .next (answeredOnly s 0x01 (requestTag f)
        .accepted
        ([0xA2, 0x01, Config.logicRevision] ++ u8 (lockCode s.mgmt.lock) ++ u8 s.mgmt.attempts
          ++ [4, 0, 8, 0, 240, 0, 224, 0, 24, 0, 64, 0, 52, 0, 16, 0, 8, 0, 8, 0, 0, 1, 32, 0])
        false))
      ∧ (taken 0x02 f s = true → exec (.tableState f) s = .next (answeredOnly s 0x02
        (requestTag f) .accepted
        (([.plant, .geometry, .zone, .swing, .walk, .alarm, .station] : List Kind).flatMap (fun k =>
            [match s.tables.active.get k with
              | none => 0
              | some _ => if k = .walk ∧ s.walk.usable = false then 2 else 1]
            ++ u16 (((s.tables.active.get k).map (·.length)).getD 0)
            ++ [s.tables.commitNo.get k]
            ++ u8 (retStatusCode (s.store.imageStatus.get k))
            ++ u8 (if k = .alarm then
                ((definitionsOf s).zipIdx.filter fun (_, n) =>
                  s.alarm.bound.getD n false = false).length
              else 0))
          ++ u8 (retStatusCode s.store.keyStatus) ++ u8 (retStatusCode s.store.limitsStatus)
          ++ (match s.store.inFlight with
            | none => [0xFF]
            | some (.key _) => [1]
            | some (.image k _) => [BitVec.ofNat 8 (kindCode k + 1)]
            | some (.limits _) => [9])
          ++ match s.mgmt.staging with
            | .empty => [0]
            | .open k total bytes =>
              [1, BitVec.ofNat 8 (kindCode k)] ++ u16 bytes.length ++ u16 total
            | .staged k image => [2, BitVec.ofNat 8 (kindCode k)] ++ u16 image.length)
        false))
      ∧ (taken 0x08 f s = true → exec (.limitsRead f) s = .next (answeredOnly s 0x08
        (requestTag f) .accepted
        (limitsData ((geometryOf s).map (·.native)) ++ limitsData s.position.working
          ++ limitsData s.store.limitsCopy ++ [if s.mgmt.retainedOnce then 1 else 0]) true))
      ∧ (taken 0x10 f s = true → exec (.firstOutRead f) s = .next (answeredOnly s 0x10
        (requestTag f) .accepted
        (match s.alarm.firstOut with
          | none => [0, 0]
          | some x => [1, BitVec.ofNat 8 x.slot] ++ u32 x.time.toNat ++ u8 (posStatusCode x.status)
            ++ i16 x.reach ++ i16 x.height ++ u8 x.zone ++ u16 (x.angle.getD 65535)
            ++ u8 (seqStateCode x.seqState) ++ u8 (subStepCode x.sub)
            ++ i16 x.refs.hoist ++ i16 x.refs.drag ++ i16 x.refs.swing ++ i16 x.refs.propel
            ++ [if ∃ e ∈ s.alarm.list, e.slot = x.slot then 1 else 0])
        false))

/-- R184, R131, R156, R155: TABLE READ, STATION STATUS, ALARM LIST READ and LOG READ where their values are
in range: accepted in every lock state with their data, nothing changed but what every answer changes. Where
a value is out of range they are refused with RANGE, and TABLE READ of a kind without an active table with
STATE, in the order of R184. The shapes of the data are the model's where the manual gives none (log entries
17, 26, 30). -/
def Obligations.RangedReadsAreAccepted : Prop :=
  ∀ (f : List Byte) (s : State),
    let p := requestParams f
    let accepted (code : Nat) (data : List Byte) : Host.Outcome State Fault Refusal :=
      .next (answeredOnly s code (requestTag f) .accepted data false)
    let refused (code : Nat) (o : ReqOutcome) : Host.Outcome State Fault Refusal :=
      .next (answeredOnly s code (requestTag f) o [] false)
    (∀ k image, taken 0x03 f s = true → p.length = 4 → u8At p 0 = kindCode k →
        s.tables.active.get k = some image → 1 ≤ u8At p 3 → u8At p 3 ≤ 224 →
        u16At p 1 + u8At p 3 ≤ image.length →
        exec (.tableRead f) s = accepted 0x03
          ([byteAt p 0, s.tables.commitNo.get k] ++ u16 image.length
            ++ (image.drop (u16At p 1)).take (u8At p 3)))
      ∧ (∀ table, taken 0x0A f s = true → p.length = 2 → stationOf s = some table →
        u8At p 0 < table.ids.length → 1 ≤ u8At p 1 → u8At p 1 ≤ 8 →
        let records := ((table.ids.zip s.line.records).drop (u8At p 0)).take (u8At p 1)
        let flag (b : Bool) : Byte := if b then 1 else 0
        let value (b : Option Bool) : Byte := (b.map flag).getD 0xFF
        exec (.stationStatus f) s = accepted 0x0A
          (u8 records.length
            ++ records.flatMap (fun (i, x) =>
              ((List.range 6).map fun k => i.extractLsb' (8 * k) 8)
              ++ [match x.state with
                  | .unseen => 0
                  | .present => 1
                  | .missing => 2,
                BitVec.ofNat 8 x.misses,
                value x.levels.a, value x.levels.b, value x.held.a, value x.held.b,
                flag x.latches.a, flag x.latches.b, flag x.powerUp, flag x.conditionPending,
                value x.desired.a, value x.desired.b, flag x.outputPending])
            ++ u8 table.ids.length ++ u8 s.line.pointer
            ++ u8 s.line.found.length ++ s.line.found.flatMap u8
            ++ [if s.line.flight = .idle then 0 else 1]))
      ∧ (taken 0x0D f s = true → p.length = 2 → u8At p 0 ≤ 63 → 1 ≤ u8At p 1 → u8At p 1 ≤ 24 →
        exec (.alarmListRead f) s = accepted 0x0D
          (u8 s.alarm.list.length
            ++ countedList (((s.alarm.list.drop (u8At p 0)).take (u8At p 1)).map (entryData s))))
      ∧ (taken 0x12 f s = true → p.length = 2 → 1 ≤ u8At p 1 → u8At p 1 ≤ 20 →
        exec (.logRead f) s = accepted 0x12
          (countedList (((s.alarm.log.reverse.drop (u8At p 0)).take (u8At p 1)).map logEntryData)
            ++ u16 s.alarm.log.length ++ u32 s.alarm.nextSeq.toNat))
      ∧ (taken 0x03 f s = true → p.length = 4 →
        (u8At p 0 = 0 ∨ 7 < u8At p 0 → exec (.tableRead f) s = refused 0x03 .range)
          ∧ ∀ k, u8At p 0 = kindCode k →
            (s.tables.active.get k = none → exec (.tableRead f) s = refused 0x03 .state)
              ∧ ∀ image, s.tables.active.get k = some image →
                (u8At p 3 = 0 ∨ 224 < u8At p 3 ∨ image.length < u16At p 1 + u8At p 3) →
                exec (.tableRead f) s = refused 0x03 .range)
      ∧ (taken 0x0A f s = true → p.length = 2 →
        (stationOf s = none ∨ stationCount s ≤ u8At p 0 ∨ u8At p 1 = 0 ∨ 8 < u8At p 1) →
        exec (.stationStatus f) s = refused 0x0A .range)
      ∧ (taken 0x0D f s = true → p.length = 2 → (63 < u8At p 0 ∨ u8At p 1 = 0 ∨ 24 < u8At p 1) →
        exec (.alarmListRead f) s = refused 0x0D .range)
      ∧ (taken 0x12 f s = true → p.length = 2 → (u8At p 1 = 0 ∨ 20 < u8At p 1) →
        exec (.logRead f) s = refused 0x12 .range)

/-! ### Tables, the retained store and start-up (Chapter 9) -/

/-- R179, R180, R181: an accepted TABLE BEGIN opens the staging buffer, an accepted TABLE BLOCK appends
its data, an accepted TABLE END leaves the image STAGED; each changes the buffer and what every answer
changes. Their refusals stand in the order of their rules. Those that leave the buffer as it stands: RANGE
of TABLE BEGIN, and of a TABLE BLOCK of more than 224 bytes; SEQUENCE of a TABLE BLOCK or a TABLE END while
the buffer is not OPEN, of a TABLE BLOCK at another offset than the count, and of a TABLE END whose count
is short. Those that empty it: RANGE of a TABLE BLOCK beyond the total length, INTEGRITY and RANGE of TABLE
END. TABLE BLOCK carries the count in every case, all ones where there is none (R193). -/
def Obligations.StagingGrowsIntoAnImage : Prop :=
  ∀ (f : List Byte) (s : State),
    let p := requestParams f
    let answered (code : Nat) (o : ReqOutcome) (data : List Byte) (x : Staging) :
        Host.Outcome State Fault Refusal :=
      .next ((s.withLink (confirmedLink s code (requestTag f) o data)).withMgmt
        { s.mgmt with deferredStore := 0, seqFlag := false, staging := x })
    s.mgmt.lock = .open ∨ s.mgmt.lock = .unlocked →
      (∀ k, taken 0x04 f s = true → p.length = 3 → u8At p 0 = kindCode k →
        (kindLengths k).1 ≤ u16At p 1 → u16At p 1 ≤ (kindLengths k).2 →
        exec (.tableBegin f) s = answered 0x04 .accepted p (.open k (u16At p 1) []))
      ∧ (∀ k total bytes, taken 0x05 f s = true → p.length = 3 + u8At p 2 → u8At p 2 ≤ 224 →
        s.mgmt.staging = .open k total bytes → u16At p 0 = bytes.length →
        (bytes.length + u8At p 2 ≤ total →
            exec (.tableBlock f) s = answered 0x05 .accepted (u16 (bytes.length + u8At p 2))
              (.open k total (bytes ++ p.drop 3)))
          ∧ (total < bytes.length + u8At p 2 →
            exec (.tableBlock f) s = answered 0x05 .range (u16 bytes.length) .empty))
      ∧ (∀ k image, taken 0x06 f s = true → p = [] →
        s.mgmt.staging = .open k image.length image →
        (trailerOk image = true → validateContent k image = none →
            exec (.tableEnd f) s
              = answered 0x06 .accepted (u8 (kindCode k) ++ u16 image.length) (.staged k image))
          ∧ (trailerOk image = true → ∀ offset, validateContent k image = some offset →
            exec (.tableEnd f) s = answered 0x06 .range (u16 offset) .empty)
          ∧ (trailerOk image = false → exec (.tableEnd f) s = answered 0x06 .integrity [] .empty))
      ∧ (taken 0x04 f s = true → p.length = 3 →
        (u8At p 0 = 0 ∨ 7 < u8At p 0
          ∨ ∃ k, u8At p 0 = kindCode k
            ∧ (u16At p 1 < (kindLengths k).1 ∨ (kindLengths k).2 < u16At p 1)) →
        exec (.tableBegin f) s = answered 0x04 .range [] s.mgmt.staging)
      ∧ (taken 0x05 f s = true → p.length = 3 + u8At p 2 →
        (∀ k total bytes, s.mgmt.staging = .open k total bytes →
            (224 < u8At p 2 →
              exec (.tableBlock f) s = answered 0x05 .range (u16 bytes.length) s.mgmt.staging)
            ∧ (u8At p 2 ≤ 224 → u16At p 0 ≠ bytes.length →
              exec (.tableBlock f) s = answered 0x05 .sequence (u16 bytes.length) s.mgmt.staging))
          ∧ ((∀ k total bytes, s.mgmt.staging ≠ .open k total bytes) →
            exec (.tableBlock f) s = answered 0x05
              (if 224 < u8At p 2 then .range else .sequence) [255, 255] s.mgmt.staging))
      ∧ (taken 0x06 f s = true → p = [] →
        (∀ k total bytes, s.mgmt.staging = .open k total bytes → bytes.length ≠ total →
            exec (.tableEnd f) s = answered 0x06 .sequence (u16 bytes.length) s.mgmt.staging)
          ∧ ((∀ k total bytes, s.mgmt.staging ≠ .open k total bytes) →
            exec (.tableEnd f) s = answered 0x06 .sequence [] s.mgmt.staging))

/-- R177, R182, R183, R187: an accepted TABLE COMMIT makes the staged image active, whatever its kind,
raises the kind's commit number, empties the buffer and starts a retained write; with RETAIN_NOW it is
recorded as outstanding, otherwise answered at once. What each owner does then: GEOMETRY (R43), SWING (R83,
R158), WALK (R89), STATION (R132, R110, R158) and ALARM (R157); binding is settled (R138), and slot 10
follows (R135). At a SWING commit the containing-sector set, slot 7 and the set the alarm unit keeps follow
the new sectors, and every SECTOR source starts anew from that set. The removals that R157 and R158 name are
logged in list order; a WALK commit's, of the listed definitions whose standing changes, are logged in slot
order (R138; log entry 44), and nothing but slot 10 logs after them; in a full log they stand over the
oldest entries (R154). ZONE, PLANT and WALK commits leave the shaper, its gates included, as it stands (R61,
R64, R89). A STATION commit leaves the transaction on the line to finish (R132), empties the delivered data
too (log entry 14), and makes records whose power-up flag is clear (log entry 48); the data of the answer
are the kind and its commit number (log entry 30). The refusals stand in the order of R182, RANGE for a
RETAIN_NOW byte above 1 before them (R195): SEQUENCE, STATE, BUSY. Each changes nothing but what every
answer changes, and so leaves the image STAGED. -/
def Obligations.CommitMakesImageActive : Prop :=
  (∀ (f : List Byte) (s : State),
    let p := requestParams f
    let refused (o : ReqOutcome) : Prop :=
      exec (.tableCommit f) s = .next (answeredOnly s 0x07 (requestTag f) o [] false)
    taken 0x07 f s = true → s.mgmt.lock = .open ∨ s.mgmt.lock = .unlocked → p.length = 2 →
      (1 < u8At p 1 → refused .range)
        ∧ (u8At p 1 ≤ 1 → (∀ k image, s.mgmt.staging = .staged k image → u8At p 0 ≠ kindCode k) →
          refused .sequence)
        ∧ ∀ k image, u8At p 1 ≤ 1 → s.mgmt.staging = .staged k image → u8At p 0 = kindCode k →
          let admitted := (k = .walk ∨ k = .station → s.walk.state = .dig)
            ∧ (k = .station → s.line.enrollWaiting = false ∧ ∀ e, s.line.flight ≠ .enroll e)
          (¬ admitted → refused .state)
            ∧ (admitted → s.store.inFlight.isSome = true → refused .busy))
  ∧ ∀ (f : List Byte) (s : State) (k : Kind) (image : Image),
    let p := requestParams f
    taken 0x07 f s = true → s.mgmt.lock = .open ∨ s.mgmt.lock = .unlocked → p.length = 2 →
    u8At p 0 = kindCode k → u8At p 1 ≤ 1 → s.mgmt.staging = .staged k image →
    (k = .walk ∨ k = .station → s.walk.state = .dig) →
    (k = .station → enrollBusy s = false) → s.store.inFlight = none →
    s.alarm.slots.length = 64 → ImagesInv s →
    let gone (t : State) (n : Nat) : Prop :=
      slotOf t (12 + n) = { condition := false, delay := none }
        ∧ ∀ e ∈ t.alarm.list, e.slot ≠ 12 + n
    ∃ t, exec (.tableCommit f) s = .next t
      ∧ t.tables.active = s.tables.active.set k (some image)
      ∧ t.tables.commitNo = s.tables.commitNo.set k (s.tables.commitNo.get k + 1)
      ∧ t.store = { s.store with
          images := s.store.images.set k none
          imageStatus := s.store.imageStatus.set k .writing
          inFlight := some (.image k image) }
      ∧ (u8At p 1 = 0 →
          t.mgmt = { s.mgmt with deferredStore := 0, seqFlag := false, staging := .empty }
            ∧ t.link = confirmedLink s 0x07 (requestTag f) .accepted
              [BitVec.ofNat 8 (kindCode k), s.tables.commitNo.get k + 1])
      ∧ (u8At p 1 = 1 →
          t.mgmt = { s.mgmt with
            seqFlag := false, staging := .empty
            outCommit := some { code := 0x07, tag := requestTag f } } ∧ t.link = s.link)
      ∧ (slotOf t 10).condition = tableAbsent t
      ∧ (k = .geometry → t.position.status = .none ∧ t.position.count = 0
          ∧ t.shaper.gates.hoist = .gated ∧ t.shaper.gates.drag = .gated)
      ∧ (k = .geometry →
          t.position.reach = 0 ∧ t.position.height = 0 ∧ t.position.zone = 0
            ∧ t.position.edge = false
            ∧ t.position.hoistPayout = s.position.hoistPayout
            ∧ t.position.dragPayout = s.position.dragPayout
            ∧ (∃ l, t.position.working = some l ∧
              match s.position.working <|> s.store.limitsCopy with
              | some w => LimitsClamped (readGeometry image).native w l
              | none => l = (readGeometry image).native)
            ∧ t.alarm.lastPosition = none ∧ (slotOf t 5).condition = false
            ∧ (slotOf t 6).condition = travelExceeded t
            ∧ (∀ n sec, n < 16 → (sectorsOf s)[n]? = some sec → sec.cls = .height →
              t.swing.clear.getD n false = false)
            ∧ ∀ n d z, n < 52 → (definitionsOf s)[n]? = some d → s.alarm.bound.getD n false = true →
              d.source = .zone z → (slotOf t (12 + n)).condition = false)
      ∧ (k = .swing → t.shaper.gates.swing = .gated ∧ t.swing.clear = List.replicate 16 false
          ∧ t.swing.corrected
            = s.swing.raw.map (fun raw => (raw + 36000 - (readSwing image).origin) % 36000))
      ∧ (k = .swing →
          (∀ m, m < 16 → (t.swing.containing.getD m false = true
            ↔ ∃ sec a, (readSwing image).sectors[m]? = some sec ∧ t.swing.corrected = some a
              ∧ sec.contains a = true))
          ∧ ((slotOf t 7).condition = true
            ↔ ∃ sec ∈ (readSwing image).sectors, sec.cls ≠ .slow
              ∧ ∃ a, t.swing.corrected = some a ∧ sec.contains a = true)
          ∧ t.alarm.lastContaining = t.swing.containing
          ∧ (s.alarm.log.length ≤ 256 → ∃ before later, (∀ x ∈ before, x.2 = 7)
            ∧ Logged (before ++ removals s (loadedWith s touchesSector) ++ later) s t)
          ∧ ∀ n d m, n < 52 → (definitionsOf s)[n]? = some d → d.source = .sector m →
            let entered := Binds t d ∧ t.swing.containing.getD m false = true
            let entries := t.alarm.list.filter fun e => e.slot = 12 + n
            (¬ entered → gone t n)
              ∧ (entered → d.attrs.delay = 0 →
                slotOf t (12 + n) = { condition := true, delay := none }
                  ∧ entries = [{ slot := 12 + n, state := .raisedUnack, time := s.alarm.time }])
              ∧ (entered → d.attrs.delay ≠ 0 →
                slotOf t (12 + n) = { condition := true, delay := some d.attrs.delay }
                  ∧ entries = []))
      ∧ (k = .walk ∨ k = .station → t.walk.usable = walkUsable t
          ∧ ((k = .walk → s.line.records.length = stationCount s) → ∀ w, usableWalk t = some w →
            desiredOf t w.digCommand = some true ∧ desiredOf t w.walkCommand = some false))
      ∧ (k = .zone ∨ k = .plant ∨ k = .walk → t.shaper = s.shaper)
      ∧ (k = .walk → s.alarm.log.length ≤ 256 →
          let changed := (List.range (definitionsOf s).length).filter fun n =>
            s.alarm.bound.getD n false != t.alarm.bound.getD n false
              && (entryOf s (12 + n)).isSome
          ∃ later, (∀ x ∈ later, x.2 = 10)
            ∧ Logged ((changed.map fun n => (.remove, 12 + n)) ++ later) s t)
      ∧ (k = .station → t.line.records.length = (readStation image).ids.length
          ∧ (∀ x ∈ t.line.records, undesired x = freshRecord)
          ∧ t.line.found = [] ∧ t.line.pointer = 0 ∧ t.line.deferredStart = false
          ∧ t.line.scanTimer = s.line.scanTimer ∧ t.walk.delivered = []
          ∧ (∃ r, t.line.flight = .round r ∧ (r.stage = .writing ∨ r.stage = .sweeping)
            ∧ r.readOk = [])
          ∧ t.line.finishing = lineTransaction s
          ∧ (slotOf t 9).condition = false
          ∧ (s.alarm.log.length ≤ 256 → ∃ before later, (∀ x ∈ before, x.2 = 9)
            ∧ Logged (before ++ removals s (loadedWith s touchesStation) ++ later) s t)
          ∧ (∀ b, alarmOwns t b = true → walkOwns t b = false →
            desiredOf t b = some (computedValue t b))
          ∧ ∀ n d, n < 52 → (definitionsOf s)[n]? = some d →
            (d.attrs.output ≠ none ∨ (∃ b, d.source = .stationEdge b)
              ∨ ∃ b polarity, d.source = .stationLevel b polarity) → gone t n)
      ∧ (k = .alarm →
          (s.alarm.log.length ≤ 256 → ∃ later, Logged (removals s isLoaded ++ later) s t)
          ∧ (∀ e ∈ t.alarm.list, 12 ≤ e.slot → e.state = .raisedUnack
            ∧ ∃ d, (definitionsOf t)[e.slot - 12]? = some d
              ∧ ((∃ z, d.source = .zone z) ∨ ∃ n, d.source = .sector n))
          ∧ (∀ e, e.slot < 10 ∨ e.slot = 11 → (e ∈ t.alarm.list ↔ e ∈ s.alarm.list))
          ∧ (∀ n d, n < 52 → (definitionsOf t)[n]? = some d → Binds t d →
            (∀ z, d.source = .zone z → ((slotOf t (12 + n)).condition = true
                ↔ ∃ p, s.alarm.lastPosition = some p ∧ p.zone = z))
              ∧ (∀ m, d.source = .sector m →
                (slotOf t (12 + n)).condition = s.alarm.lastContaining.getD m false)
              ∧ ((∀ z, d.source ≠ .zone z) → (∀ m, d.source ≠ .sector m) → gone t n))
          ∧ (s.alarm.firstOut ≠ none → t.alarm.firstOut = s.alarm.firstOut))
      ∧ (k = .alarm ∨ k = .station ∨ k = .swing ∨ k = .walk →
          (∀ n d, (definitionsOf t)[n]? = some d →
            (t.alarm.bound.getD n false = true ↔ Binds t d))
          ∧ ∀ n d, n < 52 → (definitionsOf t)[n]? = some d → ¬ Binds t d →
            k = .alarm ∨ s.alarm.bound.getD n false = true → gone t n)
      ∧ (k ≠ .station → t.line.finishing = s.line.finishing)
      ∧ (k ≠ .geometry → t.position = s.position)
      ∧ t.walk.state = s.walk.state ∧ t.walk.sub = s.walk.sub ∧ t.walk.cam = s.walk.cam
      ∧ t.walk.stepCount = s.walk.stepCount
      ∧ t.swing.raw = s.swing.raw ∧ t.swing.heldLoad = s.swing.heldLoad
      ∧ t.power = s.power ∧ t.shaper.limits = s.shaper.limits
      ∧ t.shaper.lastRefs = s.shaper.lastRefs ∧ t.alarm.time = s.alarm.time

/-- R177, R178, R181, R189, and R167: the images that are active or staged stay valid ones, and the
lock, the key and the attempts count stay as the lock's rules have them: every command keeps both. -/
def Obligations.ImagesAndLockKept : Prop :=
  (∀ (c : Instr) (s t : State), ImagesInv s → exec c s = .next t → ImagesInv t)
    ∧ ∀ (c : Instr) (s t : State), LockInv s → exec c s = .next t → LockInv t

/-- R186, R187, R188: the statuses of the nine retained items say what the store holds, and its valid
copies are the active images and the key held: every command keeps it. -/
def Obligations.StoreInvKept : Prop :=
  ∀ (c : Instr) (s t : State), StoreInv s → exec c s = .next t → StoreInv t

/-- R165, R183, R187: the completion of the write in flight sets the item's copy and status; an
outstanding RETAIN_NOW request is then answered, ACCEPTED or STORE_FAILED, and otherwise a failure enters
the deferred-store byte; slot 11 follows (R135). A confirmation that falls due while one waits and one is
held takes the held place (log entry 24); the data of the answer are the kind and its commit number. -/
def Obligations.WriteCompletionIsReported : Prop :=
  ∀ (success : Bool) (s : State) (w : Write), s.power = .on → PortsInv s →
    s.store.inFlight = some w → s.alarm.slots.length = 64 →
    ∃ t, exec (.retainedWriteCompletion success) s = .next t
      ∧ t.store = (match w with
        | .image k bytes => { s.store with
            inFlight := none
            images := s.store.images.set k (if success then some bytes else none)
            imageStatus := s.store.imageStatus.set k (if success then .current else .stale) }
        | .key value => { s.store with
            inFlight := none, keyCopy := if success then value else none
            keyStatus := if success then (if value.isSome then .current else .none) else .stale }
        | .limits set => { s.store with
            inFlight := none, limitsCopy := if success then some set else none
            limitsStatus := if success then .current else .stale })
      ∧ (∀ k bytes o, w = .image k bytes → s.mgmt.outCommit = some o →
          t.mgmt = { s.mgmt with outCommit := none, deferredStore := 0 }
            ∧ DeferredJoined
              { kind := .mcnf true
                bytes := buildMcnf o.code o.tag (if success then 0 else 12) s.mgmt.deferredStore
                  [BitVec.ofNat 8 (kindCode k), s.tables.commitNo.get k] } s t)
      ∧ ((s.mgmt.outCommit = none ∨ ∀ k bytes, w ≠ .image k bytes) → t.link = s.link
          ∧ t.mgmt = (if success then s.mgmt else { s.mgmt with deferredStore := itemCode w }))
      ∧ (slotOf t 11).condition = storeFailed t
      ∧ t.power = s.power ∧ t.position = s.position ∧ t.shaper = s.shaper ∧ t.swing = s.swing
      ∧ t.walk = s.walk ∧ t.line = s.line ∧ t.tables = s.tables

/-- R174, R175 and each block's own restart: the restart takes effect once the confirmation of RESTART has
left the cab port. Every listed entry is logged as removed, in list order, in a full log over the oldest
entries (R154), the list and the notices are emptied, and slots 10 and 11 raise anew where their conditions
hold (R160); the first round starts (R122, R133), with records whose power-up flag is clear (log entry 48)
and nothing of the round before on the line (log entry 12). The follow-up is a command of its own (log entry
4), the walk sequencer holds no delivered data (log entry 14), the hold frame carries mode DIG (log entry
42), and slot 11 is read from the statuses (log entry 45). -/
def Obligations.RestartTakesEffect : Prop :=
  ∀ s : State, s.power = .on → s.mgmt.restartPending = true → PortsInv s →
    (∀ q ∈ s.link.cabPort.frames, isRestartConfirmation q = false) →
    s.alarm.slots.length = 64 →
    ∃ t, exec .restartTakesEffect s = .next t ∧ Restarted s t

/-- R191: a brief dip cuts off both ports and fails a retained write in flight, of an image, of the key or
of the retained set: its item is STALE without a copy, slot 11 is true, and the item enters the
deferred-store byte unless an outstanding RETAIN_NOW request takes the failure (R165, R187); nothing else
changes. Its end opens the ports, with all other state kept where no restart is pending; a pending restart
takes effect then, and leaves what RestartTakesEffect says (R174, R175; the choices in it: log entries 12,
14, 42, 45, 48). R192: a loss of supply loses every volatile state of every block; the store keeps its valid
copies alone, and none of an item being written. The values the volatile fields hold without supply are the
model's choice (log entry 31). -/
def Obligations.DipsAndSupplyLoss : Prop :=
  (∀ s : State, s.power = .on → s.alarm.slots.length = 64 →
      ∃ t, exec .briefSupplyDipStart s = .next t
        ∧ t.power = .dip ∧ t.link = { s.link with
            drivePort := { tx := none, queue := [] }, cabPort := { tx := none, queue := [] },
            held := none }
        ∧ t.store.inFlight = none
        ∧ (s.store.inFlight = none → t = (s.withPower .dip).withLink t.link)
        ∧ (∀ k bytes, s.store.inFlight = some (.image k bytes) →
            t.store = { s.store with
              inFlight := none, images := s.store.images.set k none
              imageStatus := s.store.imageStatus.set k .stale }
              ∧ t.mgmt = { s.mgmt with
                outCommit := none
                deferredStore := if s.mgmt.outCommit.isSome then s.mgmt.deferredStore
                  else kindCode k + 1 })
        ∧ (∀ key, s.store.inFlight = some (.key key) →
            t.store = { s.store with inFlight := none, keyCopy := none, keyStatus := .stale }
              ∧ t.mgmt = { s.mgmt with deferredStore := 1 })
        ∧ (∀ l, s.store.inFlight = some (.limits l) →
            t.store = { s.store with inFlight := none, limitsCopy := none, limitsStatus := .stale }
              ∧ t.mgmt = { s.mgmt with deferredStore := 9 })
        ∧ (s.store.inFlight ≠ none → (slotOf t 11).condition = true)
        ∧ (∀ n, n ≠ 11 → slotOf t n = slotOf s n)
        ∧ t.position = s.position ∧ t.shaper = s.shaper ∧ t.swing = s.swing
        ∧ t.walk = s.walk ∧ t.line = s.line ∧ t.tables = s.tables)
    ∧ (∀ s : State, s.power = .dip → s.mgmt.restartPending = false →
      exec .briefSupplyDipEnd s = .next (s.withPower .on))
    ∧ (∀ s : State, s.power = .dip → s.mgmt.restartPending = true → s.alarm.slots.length = 64 →
      ∃ t, exec .briefSupplyDipEnd s = .next t ∧ Restarted (s.withPower .on) t)
    ∧ ∀ s : State, ∃ t, exec .supplyLoss s = .next t
      ∧ t.power = .off
      ∧ t.store.images = s.store.images ∧ t.store.keyCopy = s.store.keyCopy
      ∧ t.store.limitsCopy = s.store.limitsCopy ∧ t.store.inFlight = none
      ∧ t.tables = Tables.start ∧ t.alarm = AlarmUnit.start ∧ t.mgmt = Management.start
      ∧ t.link = Link.start ∧ t.position = PositionUnit.start ∧ t.shaper = Shaper.start
      ∧ t.swing = SwingUnit.start ∧ t.walk = WalkSequencer.start ∧ t.line = StationLine.start
      ∧ t.pending = s.pending

/-- R189, R190 and each block's power-on values: each image the store presents is active if it is valid,
commit numbers are 0, the lock follows the key, the working limits are the valid retained set clamped into
the native range, or the native limits (R36), the cab link waits with a hold frame in transmission, the
origin set by it (R11, R12), the drive records are UNSEEN (R18), the position unit and the walk sequencer
hold the values of R26, R32 and R111, the alarm unit those of R159 but for slot 10, whose entry where it
raises is the first of the power-on (R135), the first round starts (R122, R133). The delivered data of the
walk sequencer are empty (log entry 14). What the store presents is what it was left with, but for the
copies that the operand names as found otherwise, and an item left without a copy is found as none (log
entry 7). So a copy damaged in the store is refused and leaves its kind ABSENT, and slot 10 is true (R189,
R135). The state before is any: a part with supply, or in a dip, has lost it and got it back (log entry 6).
The live records are made with the power-up flag clear (log entry 48), and nothing of a round before is on
the line (log entry 12). -/
def Obligations.PowerOnSettlesTheBlocks : Prop :=
  ∀ (found : List FoundItem) (s : State),
    let image (k : Kind) : Option Image := presented (s.store.images.get k) (imagesFound k found)
    let key := presented s.store.keyCopy (keysFound found)
    let limits := presented s.store.limitsCopy (limitsFound found)
    ∃ t, exec (.powerOnStart found) s = .next t
    ∧ t.power = .on
    ∧ (∀ k, t.tables.active.get k = (image k).filter (imageValid k))
    ∧ (∀ k, (∀ bytes, image k = some bytes → imageValid k bytes = false) →
        tableStateCode t k = 0 ∧ t.store.imageStatus.get k = .none
          ∧ (slotOf t 10).condition = true)
    ∧ (∀ k, t.tables.commitNo.get k = 0)
    ∧ (∀ k, t.store.images.get k = t.tables.active.get k
        ∧ t.store.imageStatus.get k
          = if (t.tables.active.get k).isSome then .current else .none)
    ∧ t.store.inFlight = none
    ∧ t.mgmt.key = key.filter (fun key => key.length = 16)
    ∧ t.store.keyCopy = t.mgmt.key
    ∧ t.store.keyStatus = (if t.mgmt.key.isSome then .current else .none)
    ∧ t.store.limitsStatus = (if t.store.limitsCopy.isSome then .current else .none)
    ∧ t.mgmt.lock = (if t.mgmt.key.isSome then .locked else .open)
    ∧ t.mgmt.attempts = 5 ∧ t.mgmt.restartPending = false ∧ t.mgmt.deferredStore = 0
    ∧ t.mgmt.outCommit = none ∧ t.mgmt.outEnroll = none ∧ t.mgmt.seqFlag = false
    ∧ t.mgmt.retainedOnce = false ∧ t.mgmt.staging = .empty
    ∧ t.link.cabState = .waiting ∧ t.link.silenceTimer = none ∧ t.link.lastCycle = none
    ∧ t.link.lastOriginHold = true ∧ t.link.holdTimer = some (plantOf t).holdInterval
    ∧ (∀ m, t.link.drives.get m = { current := none, freshness := .unseen, timer := none })
    ∧ t.link.drivePort
      = { tx := some { kind := .ref, bytes := holdFrameBytes 0 0 }, queue := [] }
    ∧ t.link.cabPort = { tx := none, queue := [] } ∧ t.link.held = none
    ∧ t.position = {
        hoistPayout := { payout := none, valid := false }
        dragPayout := { payout := none, valid := false }
        status := .none, count := 0, reach := 0, height := 0, zone := 0, edge := false
        working := t.position.working }
    ∧ (geometryOf t = none → t.position.working = none)
    ∧ t.store.limitsCopy = limits.filter (fun l =>
        l.hoistMin ≤ 65534 ∧ l.hoistMax ≤ 65534 ∧ l.dragMin ≤ 65534 ∧ l.dragMax ≤ 65534
          ∧ l.hoistMin < l.hoistMax ∧ l.dragMin < l.dragMax)
    ∧ (∀ g, geometryOf t = some g → ∃ l, t.position.working = some l ∧
        match t.store.limitsCopy with
        | some w => LimitsClamped g.native w l
        | none => l = g.native)
    ∧ t.line.found = [] ∧ t.line.pointer = 0 ∧ t.line.deferredStart = false
    ∧ t.line.enrollWaiting = false ∧ t.line.finishing = none
    ∧ t.line.flight = .round
      { stage := if t.tables.active.station = none then .completing else .sweeping
        jobs := [], sweep := firstSweep, readOk := [] }
    ∧ t.shaper = Shaper.start ∧ t.swing = SwingUnit.start
    ∧ t.walk = {
        usable := walkUsable t, state := .startup, sub := .none, transferTimer := none
        cam := .unknown, stepCount := 0, refusal := 0, delivered := [] }
    ∧ t.line.records = List.replicate (stationCount t) freshRecord
    ∧ t.line.scanTimer = some (scanPeriod t)
    ∧ t.alarm.time = 0 ∧ t.alarm.firstOut = none
    ∧ (∀ n, slotOf t n = { condition := n = 10 ∧ tableAbsent t = true, delay := none })
    ∧ t.alarm.list
      = (if tableAbsent t then [{ slot := 10, state := .raisedUnack, time := 0 }] else [])
    ∧ t.alarm.notices = (if tableAbsent t then [10] else [])
    ∧ t.alarm.log
      = (if tableAbsent t then [{ seq := 0, kind := .raise, slot := 10, time := 0 }] else [])
    ∧ t.alarm.nextSeq = (if tableAbsent t then 1 else 0)
    ∧ t.alarm.lastPosition = none ∧ t.alarm.lastContaining = List.replicate 16 false
    ∧ t.alarm.bound = (definitionsOf t).map (isBound t)
end

