-- ==== Sys2Proof/Laws/State.lean ====
section
/-! SUPPORT. One lemma for each field and each named update of State, true by rfl, so that no later
proof unfolds a record update. -/

namespace Sys2Proof.Machine

@[simp] theorem State.withPower_power (s : State) (x : Power) : (s.withPower x).power = x := rfl
@[simp] theorem State.withPower_link (s : State) (x : Power) : (s.withPower x).link = s.link := rfl
@[simp] theorem State.withPower_position (s : State) (x : Power) : (s.withPower x).position = s.position := rfl
@[simp] theorem State.withPower_shaper (s : State) (x : Power) : (s.withPower x).shaper = s.shaper := rfl
@[simp] theorem State.withPower_swing (s : State) (x : Power) : (s.withPower x).swing = s.swing := rfl
@[simp] theorem State.withPower_walk (s : State) (x : Power) : (s.withPower x).walk = s.walk := rfl
@[simp] theorem State.withPower_line (s : State) (x : Power) : (s.withPower x).line = s.line := rfl
@[simp] theorem State.withPower_alarm (s : State) (x : Power) : (s.withPower x).alarm = s.alarm := rfl
@[simp] theorem State.withPower_mgmt (s : State) (x : Power) : (s.withPower x).mgmt = s.mgmt := rfl
@[simp] theorem State.withPower_store (s : State) (x : Power) : (s.withPower x).store = s.store := rfl
@[simp] theorem State.withPower_tables (s : State) (x : Power) : (s.withPower x).tables = s.tables := rfl
@[simp] theorem State.withPower_pending (s : State) (x : Power) : (s.withPower x).pending = s.pending := rfl
@[simp] theorem State.withPower_withPower (s : State) (x y : Power) : (s.withPower x).withPower y = s.withPower y := rfl
@[simp] theorem State.withPower_self (s : State) : s.withPower s.power = s := rfl

@[simp] theorem State.withLink_power (s : State) (x : Link) : (s.withLink x).power = s.power := rfl
@[simp] theorem State.withLink_link (s : State) (x : Link) : (s.withLink x).link = x := rfl
@[simp] theorem State.withLink_position (s : State) (x : Link) : (s.withLink x).position = s.position := rfl
@[simp] theorem State.withLink_shaper (s : State) (x : Link) : (s.withLink x).shaper = s.shaper := rfl
@[simp] theorem State.withLink_swing (s : State) (x : Link) : (s.withLink x).swing = s.swing := rfl
@[simp] theorem State.withLink_walk (s : State) (x : Link) : (s.withLink x).walk = s.walk := rfl
@[simp] theorem State.withLink_line (s : State) (x : Link) : (s.withLink x).line = s.line := rfl
@[simp] theorem State.withLink_alarm (s : State) (x : Link) : (s.withLink x).alarm = s.alarm := rfl
@[simp] theorem State.withLink_mgmt (s : State) (x : Link) : (s.withLink x).mgmt = s.mgmt := rfl
@[simp] theorem State.withLink_store (s : State) (x : Link) : (s.withLink x).store = s.store := rfl
@[simp] theorem State.withLink_tables (s : State) (x : Link) : (s.withLink x).tables = s.tables := rfl
@[simp] theorem State.withLink_pending (s : State) (x : Link) : (s.withLink x).pending = s.pending := rfl
@[simp] theorem State.withLink_withLink (s : State) (x y : Link) : (s.withLink x).withLink y = s.withLink y := rfl
@[simp] theorem State.withLink_self (s : State) : s.withLink s.link = s := rfl

@[simp] theorem State.withPosition_power (s : State) (x : PositionUnit) : (s.withPosition x).power = s.power := rfl
@[simp] theorem State.withPosition_link (s : State) (x : PositionUnit) : (s.withPosition x).link = s.link := rfl
@[simp] theorem State.withPosition_position (s : State) (x : PositionUnit) : (s.withPosition x).position = x := rfl
@[simp] theorem State.withPosition_shaper (s : State) (x : PositionUnit) : (s.withPosition x).shaper = s.shaper := rfl
@[simp] theorem State.withPosition_swing (s : State) (x : PositionUnit) : (s.withPosition x).swing = s.swing := rfl
@[simp] theorem State.withPosition_walk (s : State) (x : PositionUnit) : (s.withPosition x).walk = s.walk := rfl
@[simp] theorem State.withPosition_line (s : State) (x : PositionUnit) : (s.withPosition x).line = s.line := rfl
@[simp] theorem State.withPosition_alarm (s : State) (x : PositionUnit) : (s.withPosition x).alarm = s.alarm := rfl
@[simp] theorem State.withPosition_mgmt (s : State) (x : PositionUnit) : (s.withPosition x).mgmt = s.mgmt := rfl
@[simp] theorem State.withPosition_store (s : State) (x : PositionUnit) : (s.withPosition x).store = s.store := rfl
@[simp] theorem State.withPosition_tables (s : State) (x : PositionUnit) : (s.withPosition x).tables = s.tables := rfl
@[simp] theorem State.withPosition_pending (s : State) (x : PositionUnit) : (s.withPosition x).pending = s.pending := rfl
@[simp] theorem State.withPosition_withPosition (s : State) (x y : PositionUnit) : (s.withPosition x).withPosition y = s.withPosition y := rfl
@[simp] theorem State.withPosition_self (s : State) : s.withPosition s.position = s := rfl

@[simp] theorem State.withShaper_power (s : State) (x : Shaper) : (s.withShaper x).power = s.power := rfl
@[simp] theorem State.withShaper_link (s : State) (x : Shaper) : (s.withShaper x).link = s.link := rfl
@[simp] theorem State.withShaper_position (s : State) (x : Shaper) : (s.withShaper x).position = s.position := rfl
@[simp] theorem State.withShaper_shaper (s : State) (x : Shaper) : (s.withShaper x).shaper = x := rfl
@[simp] theorem State.withShaper_swing (s : State) (x : Shaper) : (s.withShaper x).swing = s.swing := rfl
@[simp] theorem State.withShaper_walk (s : State) (x : Shaper) : (s.withShaper x).walk = s.walk := rfl
@[simp] theorem State.withShaper_line (s : State) (x : Shaper) : (s.withShaper x).line = s.line := rfl
@[simp] theorem State.withShaper_alarm (s : State) (x : Shaper) : (s.withShaper x).alarm = s.alarm := rfl
@[simp] theorem State.withShaper_mgmt (s : State) (x : Shaper) : (s.withShaper x).mgmt = s.mgmt := rfl
@[simp] theorem State.withShaper_store (s : State) (x : Shaper) : (s.withShaper x).store = s.store := rfl
@[simp] theorem State.withShaper_tables (s : State) (x : Shaper) : (s.withShaper x).tables = s.tables := rfl
@[simp] theorem State.withShaper_pending (s : State) (x : Shaper) : (s.withShaper x).pending = s.pending := rfl
@[simp] theorem State.withShaper_withShaper (s : State) (x y : Shaper) : (s.withShaper x).withShaper y = s.withShaper y := rfl
@[simp] theorem State.withShaper_self (s : State) : s.withShaper s.shaper = s := rfl

@[simp] theorem State.withSwing_power (s : State) (x : SwingUnit) : (s.withSwing x).power = s.power := rfl
@[simp] theorem State.withSwing_link (s : State) (x : SwingUnit) : (s.withSwing x).link = s.link := rfl
@[simp] theorem State.withSwing_position (s : State) (x : SwingUnit) : (s.withSwing x).position = s.position := rfl
@[simp] theorem State.withSwing_shaper (s : State) (x : SwingUnit) : (s.withSwing x).shaper = s.shaper := rfl
@[simp] theorem State.withSwing_swing (s : State) (x : SwingUnit) : (s.withSwing x).swing = x := rfl
@[simp] theorem State.withSwing_walk (s : State) (x : SwingUnit) : (s.withSwing x).walk = s.walk := rfl
@[simp] theorem State.withSwing_line (s : State) (x : SwingUnit) : (s.withSwing x).line = s.line := rfl
@[simp] theorem State.withSwing_alarm (s : State) (x : SwingUnit) : (s.withSwing x).alarm = s.alarm := rfl
@[simp] theorem State.withSwing_mgmt (s : State) (x : SwingUnit) : (s.withSwing x).mgmt = s.mgmt := rfl
@[simp] theorem State.withSwing_store (s : State) (x : SwingUnit) : (s.withSwing x).store = s.store := rfl
@[simp] theorem State.withSwing_tables (s : State) (x : SwingUnit) : (s.withSwing x).tables = s.tables := rfl
@[simp] theorem State.withSwing_pending (s : State) (x : SwingUnit) : (s.withSwing x).pending = s.pending := rfl
@[simp] theorem State.withSwing_withSwing (s : State) (x y : SwingUnit) : (s.withSwing x).withSwing y = s.withSwing y := rfl
@[simp] theorem State.withSwing_self (s : State) : s.withSwing s.swing = s := rfl

@[simp] theorem State.withWalk_power (s : State) (x : WalkSequencer) : (s.withWalk x).power = s.power := rfl
@[simp] theorem State.withWalk_link (s : State) (x : WalkSequencer) : (s.withWalk x).link = s.link := rfl
@[simp] theorem State.withWalk_position (s : State) (x : WalkSequencer) : (s.withWalk x).position = s.position := rfl
@[simp] theorem State.withWalk_shaper (s : State) (x : WalkSequencer) : (s.withWalk x).shaper = s.shaper := rfl
@[simp] theorem State.withWalk_swing (s : State) (x : WalkSequencer) : (s.withWalk x).swing = s.swing := rfl
@[simp] theorem State.withWalk_walk (s : State) (x : WalkSequencer) : (s.withWalk x).walk = x := rfl
@[simp] theorem State.withWalk_line (s : State) (x : WalkSequencer) : (s.withWalk x).line = s.line := rfl
@[simp] theorem State.withWalk_alarm (s : State) (x : WalkSequencer) : (s.withWalk x).alarm = s.alarm := rfl
@[simp] theorem State.withWalk_mgmt (s : State) (x : WalkSequencer) : (s.withWalk x).mgmt = s.mgmt := rfl
@[simp] theorem State.withWalk_store (s : State) (x : WalkSequencer) : (s.withWalk x).store = s.store := rfl
@[simp] theorem State.withWalk_tables (s : State) (x : WalkSequencer) : (s.withWalk x).tables = s.tables := rfl
@[simp] theorem State.withWalk_pending (s : State) (x : WalkSequencer) : (s.withWalk x).pending = s.pending := rfl
@[simp] theorem State.withWalk_withWalk (s : State) (x y : WalkSequencer) : (s.withWalk x).withWalk y = s.withWalk y := rfl
@[simp] theorem State.withWalk_self (s : State) : s.withWalk s.walk = s := rfl

@[simp] theorem State.withLine_power (s : State) (x : StationLine) : (s.withLine x).power = s.power := rfl
@[simp] theorem State.withLine_link (s : State) (x : StationLine) : (s.withLine x).link = s.link := rfl
@[simp] theorem State.withLine_position (s : State) (x : StationLine) : (s.withLine x).position = s.position := rfl
@[simp] theorem State.withLine_shaper (s : State) (x : StationLine) : (s.withLine x).shaper = s.shaper := rfl
@[simp] theorem State.withLine_swing (s : State) (x : StationLine) : (s.withLine x).swing = s.swing := rfl
@[simp] theorem State.withLine_walk (s : State) (x : StationLine) : (s.withLine x).walk = s.walk := rfl
@[simp] theorem State.withLine_line (s : State) (x : StationLine) : (s.withLine x).line = x := rfl
@[simp] theorem State.withLine_alarm (s : State) (x : StationLine) : (s.withLine x).alarm = s.alarm := rfl
@[simp] theorem State.withLine_mgmt (s : State) (x : StationLine) : (s.withLine x).mgmt = s.mgmt := rfl
@[simp] theorem State.withLine_store (s : State) (x : StationLine) : (s.withLine x).store = s.store := rfl
@[simp] theorem State.withLine_tables (s : State) (x : StationLine) : (s.withLine x).tables = s.tables := rfl
@[simp] theorem State.withLine_pending (s : State) (x : StationLine) : (s.withLine x).pending = s.pending := rfl
@[simp] theorem State.withLine_withLine (s : State) (x y : StationLine) : (s.withLine x).withLine y = s.withLine y := rfl
@[simp] theorem State.withLine_self (s : State) : s.withLine s.line = s := rfl

@[simp] theorem State.withAlarm_power (s : State) (x : AlarmUnit) : (s.withAlarm x).power = s.power := rfl
@[simp] theorem State.withAlarm_link (s : State) (x : AlarmUnit) : (s.withAlarm x).link = s.link := rfl
@[simp] theorem State.withAlarm_position (s : State) (x : AlarmUnit) : (s.withAlarm x).position = s.position := rfl
@[simp] theorem State.withAlarm_shaper (s : State) (x : AlarmUnit) : (s.withAlarm x).shaper = s.shaper := rfl
@[simp] theorem State.withAlarm_swing (s : State) (x : AlarmUnit) : (s.withAlarm x).swing = s.swing := rfl
@[simp] theorem State.withAlarm_walk (s : State) (x : AlarmUnit) : (s.withAlarm x).walk = s.walk := rfl
@[simp] theorem State.withAlarm_line (s : State) (x : AlarmUnit) : (s.withAlarm x).line = s.line := rfl
@[simp] theorem State.withAlarm_alarm (s : State) (x : AlarmUnit) : (s.withAlarm x).alarm = x := rfl
@[simp] theorem State.withAlarm_mgmt (s : State) (x : AlarmUnit) : (s.withAlarm x).mgmt = s.mgmt := rfl
@[simp] theorem State.withAlarm_store (s : State) (x : AlarmUnit) : (s.withAlarm x).store = s.store := rfl
@[simp] theorem State.withAlarm_tables (s : State) (x : AlarmUnit) : (s.withAlarm x).tables = s.tables := rfl
@[simp] theorem State.withAlarm_pending (s : State) (x : AlarmUnit) : (s.withAlarm x).pending = s.pending := rfl
@[simp] theorem State.withAlarm_withAlarm (s : State) (x y : AlarmUnit) : (s.withAlarm x).withAlarm y = s.withAlarm y := rfl
@[simp] theorem State.withAlarm_self (s : State) : s.withAlarm s.alarm = s := rfl

@[simp] theorem State.withMgmt_power (s : State) (x : Management) : (s.withMgmt x).power = s.power := rfl
@[simp] theorem State.withMgmt_link (s : State) (x : Management) : (s.withMgmt x).link = s.link := rfl
@[simp] theorem State.withMgmt_position (s : State) (x : Management) : (s.withMgmt x).position = s.position := rfl
@[simp] theorem State.withMgmt_shaper (s : State) (x : Management) : (s.withMgmt x).shaper = s.shaper := rfl
@[simp] theorem State.withMgmt_swing (s : State) (x : Management) : (s.withMgmt x).swing = s.swing := rfl
@[simp] theorem State.withMgmt_walk (s : State) (x : Management) : (s.withMgmt x).walk = s.walk := rfl
@[simp] theorem State.withMgmt_line (s : State) (x : Management) : (s.withMgmt x).line = s.line := rfl
@[simp] theorem State.withMgmt_alarm (s : State) (x : Management) : (s.withMgmt x).alarm = s.alarm := rfl
@[simp] theorem State.withMgmt_mgmt (s : State) (x : Management) : (s.withMgmt x).mgmt = x := rfl
@[simp] theorem State.withMgmt_store (s : State) (x : Management) : (s.withMgmt x).store = s.store := rfl
@[simp] theorem State.withMgmt_tables (s : State) (x : Management) : (s.withMgmt x).tables = s.tables := rfl
@[simp] theorem State.withMgmt_pending (s : State) (x : Management) : (s.withMgmt x).pending = s.pending := rfl
@[simp] theorem State.withMgmt_withMgmt (s : State) (x y : Management) : (s.withMgmt x).withMgmt y = s.withMgmt y := rfl
@[simp] theorem State.withMgmt_self (s : State) : s.withMgmt s.mgmt = s := rfl

@[simp] theorem State.withStore_power (s : State) (x : RetainedStore) : (s.withStore x).power = s.power := rfl
@[simp] theorem State.withStore_link (s : State) (x : RetainedStore) : (s.withStore x).link = s.link := rfl
@[simp] theorem State.withStore_position (s : State) (x : RetainedStore) : (s.withStore x).position = s.position := rfl
@[simp] theorem State.withStore_shaper (s : State) (x : RetainedStore) : (s.withStore x).shaper = s.shaper := rfl
@[simp] theorem State.withStore_swing (s : State) (x : RetainedStore) : (s.withStore x).swing = s.swing := rfl
@[simp] theorem State.withStore_walk (s : State) (x : RetainedStore) : (s.withStore x).walk = s.walk := rfl
@[simp] theorem State.withStore_line (s : State) (x : RetainedStore) : (s.withStore x).line = s.line := rfl
@[simp] theorem State.withStore_alarm (s : State) (x : RetainedStore) : (s.withStore x).alarm = s.alarm := rfl
@[simp] theorem State.withStore_mgmt (s : State) (x : RetainedStore) : (s.withStore x).mgmt = s.mgmt := rfl
@[simp] theorem State.withStore_store (s : State) (x : RetainedStore) : (s.withStore x).store = x := rfl
@[simp] theorem State.withStore_tables (s : State) (x : RetainedStore) : (s.withStore x).tables = s.tables := rfl
@[simp] theorem State.withStore_pending (s : State) (x : RetainedStore) : (s.withStore x).pending = s.pending := rfl
@[simp] theorem State.withStore_withStore (s : State) (x y : RetainedStore) : (s.withStore x).withStore y = s.withStore y := rfl
@[simp] theorem State.withStore_self (s : State) : s.withStore s.store = s := rfl

@[simp] theorem State.withTables_power (s : State) (x : Tables) : (s.withTables x).power = s.power := rfl
@[simp] theorem State.withTables_link (s : State) (x : Tables) : (s.withTables x).link = s.link := rfl
@[simp] theorem State.withTables_position (s : State) (x : Tables) : (s.withTables x).position = s.position := rfl
@[simp] theorem State.withTables_shaper (s : State) (x : Tables) : (s.withTables x).shaper = s.shaper := rfl
@[simp] theorem State.withTables_swing (s : State) (x : Tables) : (s.withTables x).swing = s.swing := rfl
@[simp] theorem State.withTables_walk (s : State) (x : Tables) : (s.withTables x).walk = s.walk := rfl
@[simp] theorem State.withTables_line (s : State) (x : Tables) : (s.withTables x).line = s.line := rfl
@[simp] theorem State.withTables_alarm (s : State) (x : Tables) : (s.withTables x).alarm = s.alarm := rfl
@[simp] theorem State.withTables_mgmt (s : State) (x : Tables) : (s.withTables x).mgmt = s.mgmt := rfl
@[simp] theorem State.withTables_store (s : State) (x : Tables) : (s.withTables x).store = s.store := rfl
@[simp] theorem State.withTables_tables (s : State) (x : Tables) : (s.withTables x).tables = x := rfl
@[simp] theorem State.withTables_pending (s : State) (x : Tables) : (s.withTables x).pending = s.pending := rfl
@[simp] theorem State.withTables_withTables (s : State) (x y : Tables) : (s.withTables x).withTables y = s.withTables y := rfl
@[simp] theorem State.withTables_self (s : State) : s.withTables s.tables = s := rfl

@[simp] theorem State.withPending_power (s : State) (x : List Instr) : (s.withPending x).power = s.power := rfl
@[simp] theorem State.withPending_link (s : State) (x : List Instr) : (s.withPending x).link = s.link := rfl
@[simp] theorem State.withPending_position (s : State) (x : List Instr) : (s.withPending x).position = s.position := rfl
@[simp] theorem State.withPending_shaper (s : State) (x : List Instr) : (s.withPending x).shaper = s.shaper := rfl
@[simp] theorem State.withPending_swing (s : State) (x : List Instr) : (s.withPending x).swing = s.swing := rfl
@[simp] theorem State.withPending_walk (s : State) (x : List Instr) : (s.withPending x).walk = s.walk := rfl
@[simp] theorem State.withPending_line (s : State) (x : List Instr) : (s.withPending x).line = s.line := rfl
@[simp] theorem State.withPending_alarm (s : State) (x : List Instr) : (s.withPending x).alarm = s.alarm := rfl
@[simp] theorem State.withPending_mgmt (s : State) (x : List Instr) : (s.withPending x).mgmt = s.mgmt := rfl
@[simp] theorem State.withPending_store (s : State) (x : List Instr) : (s.withPending x).store = s.store := rfl
@[simp] theorem State.withPending_tables (s : State) (x : List Instr) : (s.withPending x).tables = s.tables := rfl
@[simp] theorem State.withPending_pending (s : State) (x : List Instr) : (s.withPending x).pending = x := rfl
@[simp] theorem State.withPending_withPending (s : State) (x y : List Instr) : (s.withPending x).withPending y = s.withPending y := rfl
@[simp] theorem State.withPending_self (s : State) : s.withPending s.pending = s := rfl

end Sys2Proof.Machine
end

