-- ==== Sys2Proof/Laws/FramesOps.lean ====
section
/-! SUPPORT. What operations leave unchanged. The shared operations of Machine/Ops.lean. -/

namespace Sys2Proof.Machine

/-- What every step of a fold keeps, the fold keeps. -/
theorem foldl_keeps {α : Type} (P : State → Prop) (g : State → α → State)
    (h : ∀ s a, P s → P (g s a)) (l : List α) (s : State) (h0 : P s) : P (l.foldl g s) := by
  induction l generalizing s with
  | nil => exact h0
  | cons a l ih => exact ih _ (h s a h0)


@[simp] theorem closeGates_frame (which : PerMotion Bool) (s : State) :
    (closeGates which s).power = s.power ∧ (closeGates which s).link = s.link ∧
    (closeGates which s).position = s.position ∧ (closeGates which s).swing = s.swing ∧
    (closeGates which s).walk = s.walk ∧ (closeGates which s).line = s.line ∧
    (closeGates which s).alarm = s.alarm ∧ (closeGates which s).mgmt = s.mgmt ∧
    (closeGates which s).store = s.store ∧ (closeGates which s).tables = s.tables ∧
    (closeGates which s).pending = s.pending ∧
    (closeGates which s).shaper.limits = s.shaper.limits ∧
    (closeGates which s).shaper.lastRefs = s.shaper.lastRefs := by and_intros <;> rfl

@[simp] theorem offerDrive_frame (f : QFrame) (s : State) :
    (offerDrive f s).power = s.power ∧ (offerDrive f s).position = s.position ∧
    (offerDrive f s).shaper = s.shaper ∧ (offerDrive f s).swing = s.swing ∧
    (offerDrive f s).walk = s.walk ∧ (offerDrive f s).line = s.line ∧
    (offerDrive f s).alarm = s.alarm ∧ (offerDrive f s).mgmt = s.mgmt ∧
    (offerDrive f s).store = s.store ∧ (offerDrive f s).tables = s.tables ∧
    (offerDrive f s).pending = s.pending ∧ (offerDrive f s).link.cabPort = s.link.cabPort ∧
    (offerDrive f s).link.cabState = s.link.cabState ∧
    (offerDrive f s).link.silenceTimer = s.link.silenceTimer ∧
    (offerDrive f s).link.holdTimer = s.link.holdTimer ∧
    (offerDrive f s).link.lastCycle = s.link.lastCycle ∧
    (offerDrive f s).link.lastOriginHold = s.link.lastOriginHold ∧
    (offerDrive f s).link.held = s.link.held ∧ (offerDrive f s).link.drives = s.link.drives := by unfold offerDrive; split <;> simp

@[simp] theorem offerCab_frame (f : QFrame) (s : State) :
    (offerCab f s).power = s.power ∧ (offerCab f s).position = s.position ∧
    (offerCab f s).shaper = s.shaper ∧ (offerCab f s).swing = s.swing ∧
    (offerCab f s).walk = s.walk ∧ (offerCab f s).line = s.line ∧ (offerCab f s).alarm = s.alarm ∧
    (offerCab f s).mgmt = s.mgmt ∧ (offerCab f s).store = s.store ∧
    (offerCab f s).tables = s.tables ∧ (offerCab f s).pending = s.pending ∧
    (offerCab f s).link.drivePort = s.link.drivePort ∧
    (offerCab f s).link.cabState = s.link.cabState ∧
    (offerCab f s).link.silenceTimer = s.link.silenceTimer ∧
    (offerCab f s).link.holdTimer = s.link.holdTimer ∧
    (offerCab f s).link.lastCycle = s.link.lastCycle ∧
    (offerCab f s).link.lastOriginHold = s.link.lastOriginHold ∧
    (offerCab f s).link.held = s.link.held ∧ (offerCab f s).link.drives = s.link.drives := by unfold offerCab; split <;> simp

@[simp] theorem offerHeld_frame (s : State) :
    (offerHeld s).power = s.power ∧ (offerHeld s).position = s.position ∧
    (offerHeld s).shaper = s.shaper ∧ (offerHeld s).swing = s.swing ∧ (offerHeld s).walk = s.walk ∧
    (offerHeld s).line = s.line ∧ (offerHeld s).alarm = s.alarm ∧ (offerHeld s).mgmt = s.mgmt ∧
    (offerHeld s).store = s.store ∧ (offerHeld s).tables = s.tables ∧
    (offerHeld s).pending = s.pending ∧ (offerHeld s).link.drivePort = s.link.drivePort ∧
    (offerHeld s).link.cabState = s.link.cabState ∧
    (offerHeld s).link.silenceTimer = s.link.silenceTimer ∧
    (offerHeld s).link.holdTimer = s.link.holdTimer ∧
    (offerHeld s).link.lastCycle = s.link.lastCycle ∧
    (offerHeld s).link.lastOriginHold = s.link.lastOriginHold ∧
    (offerHeld s).link.drives = s.link.drives := by unfold offerHeld; split <;> simp

@[simp] theorem offerOrHold_frame (f : QFrame) (s : State) :
    (offerOrHold f s).power = s.power ∧ (offerOrHold f s).position = s.position ∧
    (offerOrHold f s).shaper = s.shaper ∧ (offerOrHold f s).swing = s.swing ∧
    (offerOrHold f s).walk = s.walk ∧ (offerOrHold f s).line = s.line ∧
    (offerOrHold f s).alarm = s.alarm ∧ (offerOrHold f s).mgmt = s.mgmt ∧
    (offerOrHold f s).store = s.store ∧ (offerOrHold f s).tables = s.tables ∧
    (offerOrHold f s).pending = s.pending ∧
    (offerOrHold f s).link.drivePort = s.link.drivePort ∧
    (offerOrHold f s).link.cabState = s.link.cabState ∧
    (offerOrHold f s).link.silenceTimer = s.link.silenceTimer ∧
    (offerOrHold f s).link.holdTimer = s.link.holdTimer ∧
    (offerOrHold f s).link.lastCycle = s.link.lastCycle ∧
    (offerOrHold f s).link.lastOriginHold = s.link.lastOriginHold ∧
    (offerOrHold f s).link.drives = s.link.drives := by unfold offerOrHold; split <;> simp

@[simp] theorem offerDeferred_frame (f : QFrame) (s : State) :
    (offerDeferred f s).power = s.power ∧ (offerDeferred f s).position = s.position ∧
    (offerDeferred f s).shaper = s.shaper ∧ (offerDeferred f s).swing = s.swing ∧
    (offerDeferred f s).walk = s.walk ∧ (offerDeferred f s).line = s.line ∧
    (offerDeferred f s).alarm = s.alarm ∧ (offerDeferred f s).mgmt = s.mgmt ∧
    (offerDeferred f s).store = s.store ∧ (offerDeferred f s).tables = s.tables ∧
    (offerDeferred f s).pending = s.pending ∧
    (offerDeferred f s).link.drivePort = s.link.drivePort ∧
    (offerDeferred f s).link.cabState = s.link.cabState ∧
    (offerDeferred f s).link.silenceTimer = s.link.silenceTimer ∧
    (offerDeferred f s).link.holdTimer = s.link.holdTimer ∧
    (offerDeferred f s).link.lastCycle = s.link.lastCycle ∧
    (offerDeferred f s).link.lastOriginHold = s.link.lastOriginHold ∧
    (offerDeferred f s).link.drives = s.link.drives := by unfold offerDeferred; split <;> simp

@[simp] theorem originateHold_frame (s : State) :
    (originateHold s).power = s.power ∧ (originateHold s).position = s.position ∧
    (originateHold s).swing = s.swing ∧ (originateHold s).walk = s.walk ∧
    (originateHold s).line = s.line ∧ (originateHold s).alarm = s.alarm ∧
    (originateHold s).mgmt = s.mgmt ∧ (originateHold s).store = s.store ∧
    (originateHold s).tables = s.tables ∧ (originateHold s).pending = s.pending ∧
    (originateHold s).link.cabPort = s.link.cabPort ∧
    (originateHold s).link.cabState = s.link.cabState ∧
    (originateHold s).link.silenceTimer = s.link.silenceTimer ∧
    (originateHold s).link.holdTimer = s.link.holdTimer ∧
    (originateHold s).link.lastCycle = s.link.lastCycle ∧
    (originateHold s).link.held = s.link.held ∧ (originateHold s).link.drives = s.link.drives ∧
    (originateHold s).shaper.gates = s.shaper.gates ∧
    (originateHold s).shaper.limits = s.shaper.limits := by simp [originateHold]

@[simp] theorem startHoldTimer_frame (s : State) :
    (startHoldTimer s).power = s.power ∧ (startHoldTimer s).position = s.position ∧
    (startHoldTimer s).shaper = s.shaper ∧ (startHoldTimer s).swing = s.swing ∧
    (startHoldTimer s).walk = s.walk ∧ (startHoldTimer s).line = s.line ∧
    (startHoldTimer s).alarm = s.alarm ∧ (startHoldTimer s).mgmt = s.mgmt ∧
    (startHoldTimer s).store = s.store ∧ (startHoldTimer s).tables = s.tables ∧
    (startHoldTimer s).pending = s.pending ∧ (startHoldTimer s).link.drivePort = s.link.drivePort ∧
    (startHoldTimer s).link.cabPort = s.link.cabPort ∧
    (startHoldTimer s).link.cabState = s.link.cabState ∧
    (startHoldTimer s).link.silenceTimer = s.link.silenceTimer ∧
    (startHoldTimer s).link.lastCycle = s.link.lastCycle ∧
    (startHoldTimer s).link.lastOriginHold = s.link.lastOriginHold ∧
    (startHoldTimer s).link.held = s.link.held ∧ (startHoldTimer s).link.drives = s.link.drives := by and_intros <;> rfl

@[simp] theorem confirm_frame (d : Bool) (code : Nat) (tag : Byte) (o : ReqOutcome) (data : List Byte) (s : State) :
    (confirm d code tag o data s).power = s.power ∧
    (confirm d code tag o data s).position = s.position ∧
    (confirm d code tag o data s).shaper = s.shaper ∧
    (confirm d code tag o data s).swing = s.swing ∧ (confirm d code tag o data s).walk = s.walk ∧
    (confirm d code tag o data s).line = s.line ∧ (confirm d code tag o data s).alarm = s.alarm ∧
    (confirm d code tag o data s).store = s.store ∧
    (confirm d code tag o data s).tables = s.tables ∧
    (confirm d code tag o data s).pending = s.pending ∧
    (confirm d code tag o data s).link.drivePort = s.link.drivePort ∧
    (confirm d code tag o data s).link.cabState = s.link.cabState ∧
    (confirm d code tag o data s).link.silenceTimer = s.link.silenceTimer ∧
    (confirm d code tag o data s).link.holdTimer = s.link.holdTimer ∧
    (confirm d code tag o data s).link.lastCycle = s.link.lastCycle ∧
    (confirm d code tag o data s).link.lastOriginHold = s.link.lastOriginHold ∧
    (confirm d code tag o data s).link.drives = s.link.drives ∧
    (confirm d code tag o data s).mgmt.lock = s.mgmt.lock ∧
    (confirm d code tag o data s).mgmt.key = s.mgmt.key ∧
    (confirm d code tag o data s).mgmt.attempts = s.mgmt.attempts ∧
    (confirm d code tag o data s).mgmt.restartPending = s.mgmt.restartPending ∧
    (confirm d code tag o data s).mgmt.outCommit = s.mgmt.outCommit ∧
    (confirm d code tag o data s).mgmt.outEnroll = s.mgmt.outEnroll ∧
    (confirm d code tag o data s).mgmt.seqFlag = s.mgmt.seqFlag ∧
    (confirm d code tag o data s).mgmt.retainedOnce = s.mgmt.retainedOnce ∧
    (confirm d code tag o data s).mgmt.staging = s.mgmt.staging := by unfold confirm; (repeat' split) <;> simp

@[simp] theorem updateRecord_frame (n : Nat) (f : LiveRecord → LiveRecord) (s : State) :
    (updateRecord n f s).power = s.power ∧ (updateRecord n f s).link = s.link ∧
    (updateRecord n f s).position = s.position ∧ (updateRecord n f s).shaper = s.shaper ∧
    (updateRecord n f s).swing = s.swing ∧ (updateRecord n f s).walk = s.walk ∧
    (updateRecord n f s).alarm = s.alarm ∧ (updateRecord n f s).mgmt = s.mgmt ∧
    (updateRecord n f s).store = s.store ∧ (updateRecord n f s).tables = s.tables ∧
    (updateRecord n f s).pending = s.pending ∧ (updateRecord n f s).line.found = s.line.found ∧
    (updateRecord n f s).line.pointer = s.line.pointer ∧
    (updateRecord n f s).line.scanTimer = s.line.scanTimer ∧
    (updateRecord n f s).line.deferredStart = s.line.deferredStart ∧
    (updateRecord n f s).line.enrollWaiting = s.line.enrollWaiting ∧ (updateRecord n f s).line.finishing = s.line.finishing ∧
    (updateRecord n f s).line.flight = s.line.flight ∧
    (updateRecord n f s).line.records.length = s.line.records.length := by simp [updateRecord]

@[simp] theorem setDesired_frame (b : Binding) (v : Bool) (s : State) :
    (setDesired b v s).power = s.power ∧ (setDesired b v s).link = s.link ∧
    (setDesired b v s).position = s.position ∧ (setDesired b v s).shaper = s.shaper ∧
    (setDesired b v s).swing = s.swing ∧ (setDesired b v s).walk = s.walk ∧
    (setDesired b v s).alarm = s.alarm ∧ (setDesired b v s).mgmt = s.mgmt ∧
    (setDesired b v s).store = s.store ∧ (setDesired b v s).tables = s.tables ∧
    (setDesired b v s).pending = s.pending ∧ (setDesired b v s).line.found = s.line.found ∧
    (setDesired b v s).line.pointer = s.line.pointer ∧
    (setDesired b v s).line.scanTimer = s.line.scanTimer ∧
    (setDesired b v s).line.deferredStart = s.line.deferredStart ∧
    (setDesired b v s).line.enrollWaiting = s.line.enrollWaiting ∧ (setDesired b v s).line.finishing = s.line.finishing ∧
    (setDesired b v s).line.flight = s.line.flight ∧
    (setDesired b v s).line.records.length = s.line.records.length := by simp [setDesired]

@[simp] theorem logEvent_frame (k : LogKind) (n : Nat) (s : State) :
    (logEvent k n s).power = s.power ∧ (logEvent k n s).link = s.link ∧
    (logEvent k n s).position = s.position ∧ (logEvent k n s).shaper = s.shaper ∧
    (logEvent k n s).swing = s.swing ∧ (logEvent k n s).walk = s.walk ∧
    (logEvent k n s).line = s.line ∧ (logEvent k n s).mgmt = s.mgmt ∧
    (logEvent k n s).store = s.store ∧ (logEvent k n s).tables = s.tables ∧
    (logEvent k n s).pending = s.pending ∧ (logEvent k n s).alarm.time = s.alarm.time ∧
    (logEvent k n s).alarm.bound = s.alarm.bound ∧
    (logEvent k n s).alarm.lastPosition = s.alarm.lastPosition ∧
    (logEvent k n s).alarm.lastContaining = s.alarm.lastContaining ∧
    (logEvent k n s).alarm.slots = s.alarm.slots ∧ (logEvent k n s).alarm.list = s.alarm.list ∧
    (logEvent k n s).alarm.firstOut = s.alarm.firstOut ∧
    (logEvent k n s).alarm.notices = s.alarm.notices := by and_intros <;> rfl

@[simp] theorem queueNotice_frame (n : Nat) (s : State) :
    (queueNotice n s).power = s.power ∧ (queueNotice n s).link = s.link ∧
    (queueNotice n s).position = s.position ∧ (queueNotice n s).shaper = s.shaper ∧
    (queueNotice n s).swing = s.swing ∧ (queueNotice n s).walk = s.walk ∧
    (queueNotice n s).line = s.line ∧ (queueNotice n s).mgmt = s.mgmt ∧
    (queueNotice n s).store = s.store ∧ (queueNotice n s).tables = s.tables ∧
    (queueNotice n s).pending = s.pending ∧ (queueNotice n s).alarm.time = s.alarm.time ∧
    (queueNotice n s).alarm.bound = s.alarm.bound ∧
    (queueNotice n s).alarm.lastPosition = s.alarm.lastPosition ∧
    (queueNotice n s).alarm.lastContaining = s.alarm.lastContaining ∧
    (queueNotice n s).alarm.slots = s.alarm.slots ∧ (queueNotice n s).alarm.list = s.alarm.list ∧
    (queueNotice n s).alarm.firstOut = s.alarm.firstOut ∧
    (queueNotice n s).alarm.log = s.alarm.log ∧ (queueNotice n s).alarm.nextSeq = s.alarm.nextSeq := by unfold queueNotice; split <;> simp

@[simp] theorem captureFirstOut_frame (n : Nat) (c : AlarmClass) (s : State) :
    (captureFirstOut n c s).power = s.power ∧ (captureFirstOut n c s).link = s.link ∧
    (captureFirstOut n c s).position = s.position ∧ (captureFirstOut n c s).shaper = s.shaper ∧
    (captureFirstOut n c s).swing = s.swing ∧ (captureFirstOut n c s).walk = s.walk ∧
    (captureFirstOut n c s).line = s.line ∧ (captureFirstOut n c s).mgmt = s.mgmt ∧
    (captureFirstOut n c s).store = s.store ∧ (captureFirstOut n c s).tables = s.tables ∧
    (captureFirstOut n c s).pending = s.pending ∧
    (captureFirstOut n c s).alarm.time = s.alarm.time ∧
    (captureFirstOut n c s).alarm.bound = s.alarm.bound ∧
    (captureFirstOut n c s).alarm.lastPosition = s.alarm.lastPosition ∧
    (captureFirstOut n c s).alarm.lastContaining = s.alarm.lastContaining ∧
    (captureFirstOut n c s).alarm.slots = s.alarm.slots ∧
    (captureFirstOut n c s).alarm.list = s.alarm.list ∧
    (captureFirstOut n c s).alarm.notices = s.alarm.notices ∧
    (captureFirstOut n c s).alarm.log = s.alarm.log ∧
    (captureFirstOut n c s).alarm.nextSeq = s.alarm.nextSeq := by unfold captureFirstOut; split <;> simp

@[simp] theorem setSlot_frame (n : Nat) (x : Slot) (s : State) :
    (setSlot n x s).power = s.power ∧ (setSlot n x s).link = s.link ∧
    (setSlot n x s).position = s.position ∧ (setSlot n x s).shaper = s.shaper ∧
    (setSlot n x s).swing = s.swing ∧ (setSlot n x s).walk = s.walk ∧
    (setSlot n x s).line = s.line ∧ (setSlot n x s).mgmt = s.mgmt ∧
    (setSlot n x s).store = s.store ∧ (setSlot n x s).tables = s.tables ∧
    (setSlot n x s).pending = s.pending ∧ (setSlot n x s).alarm.time = s.alarm.time ∧
    (setSlot n x s).alarm.bound = s.alarm.bound ∧
    (setSlot n x s).alarm.lastPosition = s.alarm.lastPosition ∧
    (setSlot n x s).alarm.lastContaining = s.alarm.lastContaining ∧
    (setSlot n x s).alarm.list = s.alarm.list ∧ (setSlot n x s).alarm.firstOut = s.alarm.firstOut ∧
    (setSlot n x s).alarm.notices = s.alarm.notices ∧ (setSlot n x s).alarm.log = s.alarm.log ∧
    (setSlot n x s).alarm.nextSeq = s.alarm.nextSeq := by and_intros <;> rfl

@[simp] theorem setEntryState_frame (n : Nat) (x : EntryState) (s : State) :
    (setEntryState n x s).power = s.power ∧ (setEntryState n x s).link = s.link ∧
    (setEntryState n x s).position = s.position ∧ (setEntryState n x s).shaper = s.shaper ∧
    (setEntryState n x s).swing = s.swing ∧ (setEntryState n x s).walk = s.walk ∧
    (setEntryState n x s).line = s.line ∧ (setEntryState n x s).mgmt = s.mgmt ∧
    (setEntryState n x s).store = s.store ∧ (setEntryState n x s).tables = s.tables ∧
    (setEntryState n x s).pending = s.pending ∧ (setEntryState n x s).alarm.time = s.alarm.time ∧
    (setEntryState n x s).alarm.bound = s.alarm.bound ∧
    (setEntryState n x s).alarm.lastPosition = s.alarm.lastPosition ∧
    (setEntryState n x s).alarm.lastContaining = s.alarm.lastContaining ∧
    (setEntryState n x s).alarm.slots = s.alarm.slots ∧
    (setEntryState n x s).alarm.firstOut = s.alarm.firstOut ∧
    (setEntryState n x s).alarm.notices = s.alarm.notices ∧
    (setEntryState n x s).alarm.log = s.alarm.log ∧
    (setEntryState n x s).alarm.nextSeq = s.alarm.nextSeq := by and_intros <;> rfl

@[simp] theorem updateOutput_frame (o : Option Binding) (b : Bool) (s : State) :
    (updateOutput o b s).power = s.power ∧ (updateOutput o b s).link = s.link ∧
    (updateOutput o b s).position = s.position ∧ (updateOutput o b s).shaper = s.shaper ∧
    (updateOutput o b s).swing = s.swing ∧ (updateOutput o b s).walk = s.walk ∧
    (updateOutput o b s).alarm = s.alarm ∧ (updateOutput o b s).mgmt = s.mgmt ∧
    (updateOutput o b s).store = s.store ∧ (updateOutput o b s).tables = s.tables ∧
    (updateOutput o b s).pending = s.pending ∧ (updateOutput o b s).line.found = s.line.found ∧
    (updateOutput o b s).line.pointer = s.line.pointer ∧
    (updateOutput o b s).line.scanTimer = s.line.scanTimer ∧
    (updateOutput o b s).line.deferredStart = s.line.deferredStart ∧
    (updateOutput o b s).line.enrollWaiting = s.line.enrollWaiting ∧ (updateOutput o b s).line.finishing = s.line.finishing ∧
    (updateOutput o b s).line.flight = s.line.flight ∧
    (updateOutput o b s).line.records.length = s.line.records.length := by unfold updateOutput; (repeat' split) <;> simp

@[simp] theorem raiseSlot_frame (n : Nat) (a : Attrs) (s : State) :
    (raiseSlot n a s).power = s.power ∧ (raiseSlot n a s).link = s.link ∧
    (raiseSlot n a s).position = s.position ∧ (raiseSlot n a s).swing = s.swing ∧
    (raiseSlot n a s).walk = s.walk ∧ (raiseSlot n a s).mgmt = s.mgmt ∧
    (raiseSlot n a s).store = s.store ∧ (raiseSlot n a s).tables = s.tables ∧
    (raiseSlot n a s).pending = s.pending ∧ (raiseSlot n a s).shaper.limits = s.shaper.limits ∧
    (raiseSlot n a s).shaper.lastRefs = s.shaper.lastRefs ∧
    (raiseSlot n a s).line.found = s.line.found ∧ (raiseSlot n a s).line.pointer = s.line.pointer ∧
    (raiseSlot n a s).line.scanTimer = s.line.scanTimer ∧
    (raiseSlot n a s).line.deferredStart = s.line.deferredStart ∧
    (raiseSlot n a s).line.enrollWaiting = s.line.enrollWaiting ∧ (raiseSlot n a s).line.finishing = s.line.finishing ∧
    (raiseSlot n a s).line.flight = s.line.flight ∧
    (raiseSlot n a s).line.records.length = s.line.records.length ∧
    (raiseSlot n a s).alarm.time = s.alarm.time ∧ (raiseSlot n a s).alarm.bound = s.alarm.bound ∧
    (raiseSlot n a s).alarm.lastPosition = s.alarm.lastPosition ∧
    (raiseSlot n a s).alarm.lastContaining = s.alarm.lastContaining := by unfold raiseSlot; (repeat' split) <;> simp

@[simp] theorem removeEntry_frame (n : Nat) (a : Attrs) (s : State) :
    (removeEntry n a s).power = s.power ∧ (removeEntry n a s).link = s.link ∧
    (removeEntry n a s).position = s.position ∧ (removeEntry n a s).shaper = s.shaper ∧
    (removeEntry n a s).swing = s.swing ∧ (removeEntry n a s).walk = s.walk ∧
    (removeEntry n a s).mgmt = s.mgmt ∧ (removeEntry n a s).store = s.store ∧
    (removeEntry n a s).tables = s.tables ∧ (removeEntry n a s).pending = s.pending ∧
    (removeEntry n a s).line.found = s.line.found ∧
    (removeEntry n a s).line.pointer = s.line.pointer ∧
    (removeEntry n a s).line.scanTimer = s.line.scanTimer ∧
    (removeEntry n a s).line.deferredStart = s.line.deferredStart ∧
    (removeEntry n a s).line.enrollWaiting = s.line.enrollWaiting ∧ (removeEntry n a s).line.finishing = s.line.finishing ∧
    (removeEntry n a s).line.flight = s.line.flight ∧
    (removeEntry n a s).line.records.length = s.line.records.length ∧
    (removeEntry n a s).alarm.time = s.alarm.time ∧
    (removeEntry n a s).alarm.bound = s.alarm.bound ∧
    (removeEntry n a s).alarm.lastPosition = s.alarm.lastPosition ∧
    (removeEntry n a s).alarm.lastContaining = s.alarm.lastContaining ∧
    (removeEntry n a s).alarm.slots = s.alarm.slots ∧
    (removeEntry n a s).alarm.firstOut = s.alarm.firstOut ∧
    (removeEntry n a s).alarm.notices = s.alarm.notices := by simp [removeEntry]

@[simp] theorem removeListed_frame (n : Nat) (s : State) :
    (removeListed n s).power = s.power ∧ (removeListed n s).link = s.link ∧
    (removeListed n s).position = s.position ∧ (removeListed n s).shaper = s.shaper ∧
    (removeListed n s).swing = s.swing ∧ (removeListed n s).walk = s.walk ∧
    (removeListed n s).mgmt = s.mgmt ∧ (removeListed n s).store = s.store ∧
    (removeListed n s).tables = s.tables ∧ (removeListed n s).pending = s.pending ∧
    (removeListed n s).line.found = s.line.found ∧
    (removeListed n s).line.pointer = s.line.pointer ∧
    (removeListed n s).line.scanTimer = s.line.scanTimer ∧
    (removeListed n s).line.deferredStart = s.line.deferredStart ∧
    (removeListed n s).line.enrollWaiting = s.line.enrollWaiting ∧ (removeListed n s).line.finishing = s.line.finishing ∧
    (removeListed n s).line.flight = s.line.flight ∧
    (removeListed n s).line.records.length = s.line.records.length ∧
    (removeListed n s).alarm.time = s.alarm.time ∧ (removeListed n s).alarm.bound = s.alarm.bound ∧
    (removeListed n s).alarm.lastPosition = s.alarm.lastPosition ∧
    (removeListed n s).alarm.lastContaining = s.alarm.lastContaining ∧
    (removeListed n s).alarm.slots = s.alarm.slots ∧
    (removeListed n s).alarm.firstOut = s.alarm.firstOut ∧
    (removeListed n s).alarm.notices = s.alarm.notices := by simp [removeListed]

@[simp] theorem returnEntry_frame (n : Nat) (a : Attrs) (e : Entry) (s : State) :
    (returnEntry n a e s).power = s.power ∧ (returnEntry n a e s).link = s.link ∧
    (returnEntry n a e s).position = s.position ∧ (returnEntry n a e s).shaper = s.shaper ∧
    (returnEntry n a e s).swing = s.swing ∧ (returnEntry n a e s).walk = s.walk ∧
    (returnEntry n a e s).mgmt = s.mgmt ∧ (returnEntry n a e s).store = s.store ∧
    (returnEntry n a e s).tables = s.tables ∧ (returnEntry n a e s).pending = s.pending ∧
    (returnEntry n a e s).line.found = s.line.found ∧
    (returnEntry n a e s).line.pointer = s.line.pointer ∧
    (returnEntry n a e s).line.scanTimer = s.line.scanTimer ∧
    (returnEntry n a e s).line.deferredStart = s.line.deferredStart ∧
    (returnEntry n a e s).line.enrollWaiting = s.line.enrollWaiting ∧ (returnEntry n a e s).line.finishing = s.line.finishing ∧
    (returnEntry n a e s).line.flight = s.line.flight ∧
    (returnEntry n a e s).line.records.length = s.line.records.length ∧
    (returnEntry n a e s).alarm.time = s.alarm.time ∧
    (returnEntry n a e s).alarm.bound = s.alarm.bound ∧
    (returnEntry n a e s).alarm.lastPosition = s.alarm.lastPosition ∧
    (returnEntry n a e s).alarm.lastContaining = s.alarm.lastContaining ∧
    (returnEntry n a e s).alarm.slots = s.alarm.slots ∧
    (returnEntry n a e s).alarm.firstOut = s.alarm.firstOut ∧
    (returnEntry n a e s).alarm.notices = s.alarm.notices := by unfold returnEntry; (repeat' split) <;> simp

@[simp] theorem reassert_frame (n : Nat) (e : Entry) (s : State) :
    (reassert n e s).power = s.power ∧ (reassert n e s).link = s.link ∧
    (reassert n e s).position = s.position ∧ (reassert n e s).shaper = s.shaper ∧
    (reassert n e s).swing = s.swing ∧ (reassert n e s).walk = s.walk ∧
    (reassert n e s).line = s.line ∧ (reassert n e s).mgmt = s.mgmt ∧
    (reassert n e s).store = s.store ∧ (reassert n e s).tables = s.tables ∧
    (reassert n e s).pending = s.pending ∧ (reassert n e s).alarm.time = s.alarm.time ∧
    (reassert n e s).alarm.bound = s.alarm.bound ∧
    (reassert n e s).alarm.lastPosition = s.alarm.lastPosition ∧
    (reassert n e s).alarm.lastContaining = s.alarm.lastContaining ∧
    (reassert n e s).alarm.slots = s.alarm.slots ∧
    (reassert n e s).alarm.firstOut = s.alarm.firstOut ∧
    (reassert n e s).alarm.notices = s.alarm.notices ∧ (reassert n e s).alarm.log = s.alarm.log ∧
    (reassert n e s).alarm.nextSeq = s.alarm.nextSeq := by unfold reassert; split <;> simp

@[simp] theorem evaluate_frame (n : Nat) (v : Bool) (s : State) :
    (evaluate n v s).power = s.power ∧ (evaluate n v s).link = s.link ∧
    (evaluate n v s).position = s.position ∧ (evaluate n v s).swing = s.swing ∧
    (evaluate n v s).walk = s.walk ∧ (evaluate n v s).mgmt = s.mgmt ∧
    (evaluate n v s).store = s.store ∧ (evaluate n v s).tables = s.tables ∧
    (evaluate n v s).pending = s.pending ∧ (evaluate n v s).shaper.limits = s.shaper.limits ∧
    (evaluate n v s).shaper.lastRefs = s.shaper.lastRefs ∧
    (evaluate n v s).line.found = s.line.found ∧ (evaluate n v s).line.pointer = s.line.pointer ∧
    (evaluate n v s).line.scanTimer = s.line.scanTimer ∧
    (evaluate n v s).line.deferredStart = s.line.deferredStart ∧
    (evaluate n v s).line.enrollWaiting = s.line.enrollWaiting ∧ (evaluate n v s).line.finishing = s.line.finishing ∧
    (evaluate n v s).line.flight = s.line.flight ∧
    (evaluate n v s).line.records.length = s.line.records.length ∧
    (evaluate n v s).alarm.time = s.alarm.time ∧ (evaluate n v s).alarm.bound = s.alarm.bound ∧
    (evaluate n v s).alarm.lastPosition = s.alarm.lastPosition ∧
    (evaluate n v s).alarm.lastContaining = s.alarm.lastContaining := by unfold evaluate; (repeat' split) <;> simp

@[simp] theorem resetSlot_frame (n : Nat) (s : State) :
    (resetSlot n s).power = s.power ∧ (resetSlot n s).link = s.link ∧
    (resetSlot n s).position = s.position ∧ (resetSlot n s).shaper = s.shaper ∧
    (resetSlot n s).swing = s.swing ∧ (resetSlot n s).walk = s.walk ∧
    (resetSlot n s).mgmt = s.mgmt ∧ (resetSlot n s).store = s.store ∧
    (resetSlot n s).tables = s.tables ∧ (resetSlot n s).pending = s.pending ∧
    (resetSlot n s).line.found = s.line.found ∧ (resetSlot n s).line.pointer = s.line.pointer ∧
    (resetSlot n s).line.scanTimer = s.line.scanTimer ∧
    (resetSlot n s).line.deferredStart = s.line.deferredStart ∧
    (resetSlot n s).line.enrollWaiting = s.line.enrollWaiting ∧ (resetSlot n s).line.finishing = s.line.finishing ∧
    (resetSlot n s).line.flight = s.line.flight ∧
    (resetSlot n s).line.records.length = s.line.records.length ∧
    (resetSlot n s).alarm.time = s.alarm.time ∧ (resetSlot n s).alarm.bound = s.alarm.bound ∧
    (resetSlot n s).alarm.lastPosition = s.alarm.lastPosition ∧
    (resetSlot n s).alarm.lastContaining = s.alarm.lastContaining ∧
    (resetSlot n s).alarm.firstOut = s.alarm.firstOut ∧
    (resetSlot n s).alarm.notices = s.alarm.notices := by unfold resetSlot; split <;> simp

@[simp] theorem evaluateBound_frame (value : AlarmDef → Bool → Option Bool) (s : State) :
    (evaluateBound value s).power = s.power ∧ (evaluateBound value s).link = s.link ∧
    (evaluateBound value s).position = s.position ∧ (evaluateBound value s).swing = s.swing ∧
    (evaluateBound value s).walk = s.walk ∧ (evaluateBound value s).mgmt = s.mgmt ∧
    (evaluateBound value s).store = s.store ∧ (evaluateBound value s).tables = s.tables ∧
    (evaluateBound value s).pending = s.pending ∧
    (evaluateBound value s).shaper.limits = s.shaper.limits ∧
    (evaluateBound value s).shaper.lastRefs = s.shaper.lastRefs ∧
    (evaluateBound value s).line.found = s.line.found ∧
    (evaluateBound value s).line.pointer = s.line.pointer ∧
    (evaluateBound value s).line.scanTimer = s.line.scanTimer ∧
    (evaluateBound value s).line.deferredStart = s.line.deferredStart ∧
    (evaluateBound value s).line.enrollWaiting = s.line.enrollWaiting ∧ (evaluateBound value s).line.finishing = s.line.finishing ∧
    (evaluateBound value s).line.flight = s.line.flight ∧
    (evaluateBound value s).line.records.length = s.line.records.length ∧
    (evaluateBound value s).alarm.time = s.alarm.time ∧
    (evaluateBound value s).alarm.bound = s.alarm.bound ∧
    (evaluateBound value s).alarm.lastPosition = s.alarm.lastPosition ∧
    (evaluateBound value s).alarm.lastContaining = s.alarm.lastContaining := by
  unfold evaluateBound
  refine foldl_keeps (fun x => x.power = s.power ∧ x.link = s.link ∧ x.position = s.position ∧ x.swing = s.swing ∧ x.walk = s.walk ∧ x.mgmt = s.mgmt ∧ x.store = s.store ∧ x.tables = s.tables ∧ x.pending = s.pending ∧ x.shaper.limits = s.shaper.limits ∧ x.shaper.lastRefs = s.shaper.lastRefs ∧ x.line.found = s.line.found ∧ x.line.pointer = s.line.pointer ∧ x.line.scanTimer = s.line.scanTimer ∧ x.line.deferredStart = s.line.deferredStart ∧ x.line.enrollWaiting = s.line.enrollWaiting ∧ x.line.finishing = s.line.finishing ∧ x.line.flight = s.line.flight ∧ x.line.records.length = s.line.records.length ∧ x.alarm.time = s.alarm.time ∧ x.alarm.bound = s.alarm.bound ∧ x.alarm.lastPosition = s.alarm.lastPosition ∧ x.alarm.lastContaining = s.alarm.lastContaining) _ ?_ _ s (by simp)
  intro x d h; (try dsimp only); (repeat' split) <;> simp_all

@[simp] theorem settleBinding_frame (s : State) :
    (settleBinding s).power = s.power ∧ (settleBinding s).link = s.link ∧
    (settleBinding s).position = s.position ∧ (settleBinding s).shaper = s.shaper ∧
    (settleBinding s).swing = s.swing ∧ (settleBinding s).walk = s.walk ∧
    (settleBinding s).mgmt = s.mgmt ∧ (settleBinding s).store = s.store ∧
    (settleBinding s).tables = s.tables ∧ (settleBinding s).pending = s.pending ∧
    (settleBinding s).line.found = s.line.found ∧ (settleBinding s).line.pointer = s.line.pointer ∧
    (settleBinding s).line.scanTimer = s.line.scanTimer ∧
    (settleBinding s).line.deferredStart = s.line.deferredStart ∧
    (settleBinding s).line.enrollWaiting = s.line.enrollWaiting ∧ (settleBinding s).line.finishing = s.line.finishing ∧
    (settleBinding s).line.flight = s.line.flight ∧
    (settleBinding s).line.records.length = s.line.records.length ∧
    (settleBinding s).alarm.time = s.alarm.time ∧
    (settleBinding s).alarm.lastPosition = s.alarm.lastPosition ∧
    (settleBinding s).alarm.lastContaining = s.alarm.lastContaining ∧
    (settleBinding s).alarm.firstOut = s.alarm.firstOut ∧
    (settleBinding s).alarm.notices = s.alarm.notices := by
  have h := foldl_keeps (fun x => x.power = s.power ∧ x.link = s.link ∧ x.position = s.position ∧ x.shaper = s.shaper ∧ x.swing = s.swing ∧ x.walk = s.walk ∧ x.mgmt = s.mgmt ∧ x.store = s.store ∧ x.tables = s.tables ∧ x.pending = s.pending ∧ x.line.found = s.line.found ∧ x.line.pointer = s.line.pointer ∧ x.line.scanTimer = s.line.scanTimer ∧ x.line.deferredStart = s.line.deferredStart ∧ x.line.enrollWaiting = s.line.enrollWaiting ∧ x.line.finishing = s.line.finishing ∧ x.line.flight = s.line.flight ∧ x.line.records.length = s.line.records.length ∧ x.alarm.time = s.alarm.time ∧ x.alarm.lastPosition = s.alarm.lastPosition ∧ x.alarm.lastContaining = s.alarm.lastContaining ∧ x.alarm.firstOut = s.alarm.firstOut ∧ x.alarm.notices = s.alarm.notices)
    (fun acc (d, k) => if acc.alarm.bound.getD k false != ((definitionsOf s).map (isBound s)).getD k false then resetSlot (12 + k) acc else acc)
    (by intro x d h; (try dsimp only); (repeat' split) <;> simp_all) (definitionsOf s).zipIdx s (by simp)
  unfold settleBinding
  simp_all

@[simp] theorem startWrite_frame (w : Write) (s : State) :
    (startWrite w s).power = s.power ∧ (startWrite w s).link = s.link ∧
    (startWrite w s).position = s.position ∧ (startWrite w s).shaper = s.shaper ∧
    (startWrite w s).swing = s.swing ∧ (startWrite w s).walk = s.walk ∧
    (startWrite w s).line = s.line ∧ (startWrite w s).alarm = s.alarm ∧
    (startWrite w s).mgmt = s.mgmt ∧ (startWrite w s).tables = s.tables ∧
    (startWrite w s).pending = s.pending := by and_intros <;> rfl

end Sys2Proof.Machine
end

