-- ==== Sys2Proof/Laws/FramesUnits.lean ====
section
/-! SUPPORT. What operations leave unchanged. The swing unit, the position unit, the walk sequencer, the shaper and the report. -/

namespace Sys2Proof.Machine

@[simp] theorem refreshSectors_frame (s : State) :
    (refreshSectors s).power = s.power ∧ (refreshSectors s).link = s.link ∧
    (refreshSectors s).position = s.position ∧ (refreshSectors s).walk = s.walk ∧
    (refreshSectors s).mgmt = s.mgmt ∧ (refreshSectors s).store = s.store ∧
    (refreshSectors s).tables = s.tables ∧ (refreshSectors s).pending = s.pending ∧
    (refreshSectors s).shaper.limits = s.shaper.limits ∧
    (refreshSectors s).shaper.lastRefs = s.shaper.lastRefs ∧
    (refreshSectors s).line.found = s.line.found ∧
    (refreshSectors s).line.pointer = s.line.pointer ∧
    (refreshSectors s).line.scanTimer = s.line.scanTimer ∧
    (refreshSectors s).line.deferredStart = s.line.deferredStart ∧
    (refreshSectors s).line.enrollWaiting = s.line.enrollWaiting ∧ (refreshSectors s).line.finishing = s.line.finishing ∧
    (refreshSectors s).line.flight = s.line.flight ∧
    (refreshSectors s).line.records.length = s.line.records.length ∧
    (refreshSectors s).alarm.time = s.alarm.time ∧ (refreshSectors s).alarm.bound = s.alarm.bound ∧
    (refreshSectors s).alarm.lastPosition = s.alarm.lastPosition ∧
    (refreshSectors s).alarm.lastContaining = s.alarm.lastContaining ∧
    (refreshSectors s).swing.raw = s.swing.raw ∧
    (refreshSectors s).swing.corrected = s.swing.corrected ∧
    (refreshSectors s).swing.clear = s.swing.clear ∧
    (refreshSectors s).swing.heldLoad = s.swing.heldLoad := by simp [refreshSectors]

@[simp] theorem keepSectorSet_frame (s : State) :
    (keepSectorSet s).power = s.power ∧ (keepSectorSet s).link = s.link ∧
    (keepSectorSet s).position = s.position ∧ (keepSectorSet s).shaper = s.shaper ∧
    (keepSectorSet s).swing = s.swing ∧ (keepSectorSet s).walk = s.walk ∧
    (keepSectorSet s).line = s.line ∧ (keepSectorSet s).mgmt = s.mgmt ∧
    (keepSectorSet s).store = s.store ∧ (keepSectorSet s).tables = s.tables ∧
    (keepSectorSet s).pending = s.pending ∧ (keepSectorSet s).alarm.time = s.alarm.time ∧
    (keepSectorSet s).alarm.bound = s.alarm.bound ∧
    (keepSectorSet s).alarm.lastPosition = s.alarm.lastPosition ∧
    (keepSectorSet s).alarm.slots = s.alarm.slots ∧ (keepSectorSet s).alarm.list = s.alarm.list ∧
    (keepSectorSet s).alarm.firstOut = s.alarm.firstOut ∧
    (keepSectorSet s).alarm.notices = s.alarm.notices ∧ (keepSectorSet s).alarm.log = s.alarm.log ∧
    (keepSectorSet s).alarm.nextSeq = s.alarm.nextSeq := by and_intros <;> rfl

@[simp] theorem handSectors_frame (s : State) :
    (handSectors s).power = s.power ∧ (handSectors s).link = s.link ∧
    (handSectors s).position = s.position ∧ (handSectors s).swing = s.swing ∧
    (handSectors s).walk = s.walk ∧ (handSectors s).mgmt = s.mgmt ∧
    (handSectors s).store = s.store ∧ (handSectors s).tables = s.tables ∧
    (handSectors s).pending = s.pending ∧ (handSectors s).shaper.limits = s.shaper.limits ∧
    (handSectors s).shaper.lastRefs = s.shaper.lastRefs ∧
    (handSectors s).line.found = s.line.found ∧ (handSectors s).line.pointer = s.line.pointer ∧
    (handSectors s).line.scanTimer = s.line.scanTimer ∧
    (handSectors s).line.deferredStart = s.line.deferredStart ∧
    (handSectors s).line.enrollWaiting = s.line.enrollWaiting ∧ (handSectors s).line.finishing = s.line.finishing ∧
    (handSectors s).line.flight = s.line.flight ∧
    (handSectors s).line.records.length = s.line.records.length ∧
    (handSectors s).alarm.time = s.alarm.time ∧ (handSectors s).alarm.bound = s.alarm.bound ∧
    (handSectors s).alarm.lastPosition = s.alarm.lastPosition := by simp [handSectors]

@[simp] theorem setAngle_frame (raw : Option Nat) (s : State) :
    (setAngle raw s).power = s.power ∧ (setAngle raw s).link = s.link ∧
    (setAngle raw s).position = s.position ∧ (setAngle raw s).walk = s.walk ∧
    (setAngle raw s).mgmt = s.mgmt ∧ (setAngle raw s).store = s.store ∧
    (setAngle raw s).tables = s.tables ∧ (setAngle raw s).pending = s.pending ∧
    (setAngle raw s).shaper.limits = s.shaper.limits ∧
    (setAngle raw s).shaper.lastRefs = s.shaper.lastRefs ∧
    (setAngle raw s).line.found = s.line.found ∧ (setAngle raw s).line.pointer = s.line.pointer ∧
    (setAngle raw s).line.scanTimer = s.line.scanTimer ∧
    (setAngle raw s).line.deferredStart = s.line.deferredStart ∧
    (setAngle raw s).line.enrollWaiting = s.line.enrollWaiting ∧ (setAngle raw s).line.finishing = s.line.finishing ∧
    (setAngle raw s).line.flight = s.line.flight ∧
    (setAngle raw s).line.records.length = s.line.records.length ∧
    (setAngle raw s).alarm.time = s.alarm.time ∧ (setAngle raw s).alarm.bound = s.alarm.bound ∧
    (setAngle raw s).alarm.lastPosition = s.alarm.lastPosition ∧
    (setAngle raw s).swing.clear = s.swing.clear ∧
    (setAngle raw s).swing.heldLoad = s.swing.heldLoad := by simp [setAngle]

@[simp] theorem deliverSwing_frame (p : StatPayload) (s : State) :
    (deliverSwing p s).power = s.power ∧ (deliverSwing p s).link = s.link ∧
    (deliverSwing p s).position = s.position ∧ (deliverSwing p s).walk = s.walk ∧
    (deliverSwing p s).mgmt = s.mgmt ∧ (deliverSwing p s).store = s.store ∧
    (deliverSwing p s).tables = s.tables ∧ (deliverSwing p s).pending = s.pending ∧
    (deliverSwing p s).shaper.limits = s.shaper.limits ∧
    (deliverSwing p s).shaper.lastRefs = s.shaper.lastRefs ∧
    (deliverSwing p s).line.found = s.line.found ∧
    (deliverSwing p s).line.pointer = s.line.pointer ∧
    (deliverSwing p s).line.scanTimer = s.line.scanTimer ∧
    (deliverSwing p s).line.deferredStart = s.line.deferredStart ∧
    (deliverSwing p s).line.enrollWaiting = s.line.enrollWaiting ∧ (deliverSwing p s).line.finishing = s.line.finishing ∧
    (deliverSwing p s).line.flight = s.line.flight ∧
    (deliverSwing p s).line.records.length = s.line.records.length ∧
    (deliverSwing p s).alarm.time = s.alarm.time ∧ (deliverSwing p s).alarm.bound = s.alarm.bound ∧
    (deliverSwing p s).alarm.lastPosition = s.alarm.lastPosition ∧
    (deliverSwing p s).swing.clear = s.swing.clear ∧
    (deliverSwing p s).swing.heldLoad = s.swing.heldLoad := by simp [deliverSwing]

@[simp] theorem updateClearance_frame (p : Option HandedPosition) (s : State) :
    (updateClearance p s).power = s.power ∧ (updateClearance p s).link = s.link ∧
    (updateClearance p s).position = s.position ∧ (updateClearance p s).walk = s.walk ∧
    (updateClearance p s).mgmt = s.mgmt ∧ (updateClearance p s).store = s.store ∧
    (updateClearance p s).tables = s.tables ∧ (updateClearance p s).pending = s.pending ∧
    (updateClearance p s).shaper.limits = s.shaper.limits ∧
    (updateClearance p s).shaper.lastRefs = s.shaper.lastRefs ∧
    (updateClearance p s).line.found = s.line.found ∧
    (updateClearance p s).line.pointer = s.line.pointer ∧
    (updateClearance p s).line.scanTimer = s.line.scanTimer ∧
    (updateClearance p s).line.deferredStart = s.line.deferredStart ∧
    (updateClearance p s).line.enrollWaiting = s.line.enrollWaiting ∧ (updateClearance p s).line.finishing = s.line.finishing ∧
    (updateClearance p s).line.flight = s.line.flight ∧
    (updateClearance p s).line.records.length = s.line.records.length ∧
    (updateClearance p s).alarm.time = s.alarm.time ∧
    (updateClearance p s).alarm.bound = s.alarm.bound ∧
    (updateClearance p s).alarm.lastPosition = s.alarm.lastPosition ∧
    (updateClearance p s).alarm.lastContaining = s.alarm.lastContaining ∧
    (updateClearance p s).swing.raw = s.swing.raw ∧
    (updateClearance p s).swing.corrected = s.swing.corrected ∧
    (updateClearance p s).swing.heldLoad = s.swing.heldLoad := by simp only [updateClearance]; (repeat' split) <;> simp

@[simp] theorem deliverLoad_frame (p : StatPayload) (s : State) :
    (deliverLoad p s).power = s.power ∧ (deliverLoad p s).link = s.link ∧
    (deliverLoad p s).position = s.position ∧ (deliverLoad p s).shaper = s.shaper ∧
    (deliverLoad p s).walk = s.walk ∧ (deliverLoad p s).line = s.line ∧
    (deliverLoad p s).alarm = s.alarm ∧ (deliverLoad p s).mgmt = s.mgmt ∧
    (deliverLoad p s).store = s.store ∧ (deliverLoad p s).tables = s.tables ∧
    (deliverLoad p s).pending = s.pending ∧ (deliverLoad p s).swing.raw = s.swing.raw ∧
    (deliverLoad p s).swing.corrected = s.swing.corrected ∧
    (deliverLoad p s).swing.clear = s.swing.clear ∧
    (deliverLoad p s).swing.containing = s.swing.containing := by unfold deliverLoad; split <;> simp

@[simp] theorem swingCommitAngle_frame (s : State) :
    (swingCommitAngle s).power = s.power ∧ (swingCommitAngle s).link = s.link ∧
    (swingCommitAngle s).position = s.position ∧ (swingCommitAngle s).walk = s.walk ∧
    (swingCommitAngle s).mgmt = s.mgmt ∧ (swingCommitAngle s).store = s.store ∧
    (swingCommitAngle s).tables = s.tables ∧ (swingCommitAngle s).pending = s.pending ∧
    (swingCommitAngle s).shaper.limits = s.shaper.limits ∧
    (swingCommitAngle s).shaper.lastRefs = s.shaper.lastRefs ∧
    (swingCommitAngle s).line.found = s.line.found ∧
    (swingCommitAngle s).line.pointer = s.line.pointer ∧
    (swingCommitAngle s).line.scanTimer = s.line.scanTimer ∧
    (swingCommitAngle s).line.deferredStart = s.line.deferredStart ∧
    (swingCommitAngle s).line.enrollWaiting = s.line.enrollWaiting ∧ (swingCommitAngle s).line.finishing = s.line.finishing ∧
    (swingCommitAngle s).line.flight = s.line.flight ∧
    (swingCommitAngle s).line.records.length = s.line.records.length ∧
    (swingCommitAngle s).alarm.time = s.alarm.time ∧
    (swingCommitAngle s).alarm.bound = s.alarm.bound ∧
    (swingCommitAngle s).alarm.lastPosition = s.alarm.lastPosition ∧
    (swingCommitAngle s).swing.raw = s.swing.raw ∧
    (swingCommitAngle s).swing.heldLoad = s.swing.heldLoad := by simp [swingCommitAngle]

@[simp] theorem handPosition_frame (s : State) :
    (handPosition s).power = s.power ∧ (handPosition s).link = s.link ∧
    (handPosition s).position = s.position ∧ (handPosition s).walk = s.walk ∧
    (handPosition s).mgmt = s.mgmt ∧ (handPosition s).store = s.store ∧
    (handPosition s).tables = s.tables ∧ (handPosition s).pending = s.pending ∧
    (handPosition s).shaper.limits = s.shaper.limits ∧
    (handPosition s).shaper.lastRefs = s.shaper.lastRefs ∧
    (handPosition s).line.found = s.line.found ∧ (handPosition s).line.pointer = s.line.pointer ∧
    (handPosition s).line.scanTimer = s.line.scanTimer ∧
    (handPosition s).line.deferredStart = s.line.deferredStart ∧
    (handPosition s).line.enrollWaiting = s.line.enrollWaiting ∧ (handPosition s).line.finishing = s.line.finishing ∧
    (handPosition s).line.flight = s.line.flight ∧
    (handPosition s).line.records.length = s.line.records.length ∧
    (handPosition s).alarm.time = s.alarm.time ∧ (handPosition s).alarm.bound = s.alarm.bound ∧
    (handPosition s).alarm.lastContaining = s.alarm.lastContaining ∧
    (handPosition s).swing.raw = s.swing.raw ∧
    (handPosition s).swing.corrected = s.swing.corrected ∧
    (handPosition s).swing.heldLoad = s.swing.heldLoad := by simp [handPosition]

@[simp] theorem makeAttempt_frame (s : State) :
    (makeAttempt s).power = s.power ∧ (makeAttempt s).link = s.link ∧
    (makeAttempt s).walk = s.walk ∧ (makeAttempt s).mgmt = s.mgmt ∧
    (makeAttempt s).store = s.store ∧ (makeAttempt s).tables = s.tables ∧
    (makeAttempt s).pending = s.pending ∧ (makeAttempt s).shaper.limits = s.shaper.limits ∧
    (makeAttempt s).shaper.lastRefs = s.shaper.lastRefs ∧
    (makeAttempt s).line.found = s.line.found ∧ (makeAttempt s).line.pointer = s.line.pointer ∧
    (makeAttempt s).line.scanTimer = s.line.scanTimer ∧
    (makeAttempt s).line.deferredStart = s.line.deferredStart ∧
    (makeAttempt s).line.enrollWaiting = s.line.enrollWaiting ∧ (makeAttempt s).line.finishing = s.line.finishing ∧
    (makeAttempt s).line.flight = s.line.flight ∧
    (makeAttempt s).line.records.length = s.line.records.length ∧
    (makeAttempt s).alarm.time = s.alarm.time ∧ (makeAttempt s).alarm.bound = s.alarm.bound ∧
    (makeAttempt s).alarm.lastContaining = s.alarm.lastContaining ∧
    (makeAttempt s).swing.raw = s.swing.raw ∧ (makeAttempt s).swing.corrected = s.swing.corrected ∧
    (makeAttempt s).swing.heldLoad = s.swing.heldLoad := by unfold makeAttempt; split <;> simp

@[simp] theorem writePayout_frame (m : Motion) (p : StatPayload) (s : State) :
    (writePayout m p s).power = s.power ∧ (writePayout m p s).link = s.link ∧
    (writePayout m p s).shaper = s.shaper ∧ (writePayout m p s).swing = s.swing ∧
    (writePayout m p s).walk = s.walk ∧ (writePayout m p s).line = s.line ∧
    (writePayout m p s).alarm = s.alarm ∧ (writePayout m p s).mgmt = s.mgmt ∧
    (writePayout m p s).store = s.store ∧ (writePayout m p s).tables = s.tables ∧
    (writePayout m p s).pending = s.pending ∧
    (writePayout m p s).position.status = s.position.status ∧
    (writePayout m p s).position.count = s.position.count ∧
    (writePayout m p s).position.reach = s.position.reach ∧
    (writePayout m p s).position.height = s.position.height ∧
    (writePayout m p s).position.zone = s.position.zone ∧
    (writePayout m p s).position.edge = s.position.edge ∧
    (writePayout m p s).position.working = s.position.working := by unfold writePayout; split <;> simp

@[simp] theorem deliverPayout_frame (m : Motion) (p : StatPayload) (s : State) :
    (deliverPayout m p s).power = s.power ∧ (deliverPayout m p s).link = s.link ∧
    (deliverPayout m p s).walk = s.walk ∧ (deliverPayout m p s).mgmt = s.mgmt ∧
    (deliverPayout m p s).store = s.store ∧ (deliverPayout m p s).tables = s.tables ∧
    (deliverPayout m p s).pending = s.pending ∧
    (deliverPayout m p s).shaper.limits = s.shaper.limits ∧
    (deliverPayout m p s).shaper.lastRefs = s.shaper.lastRefs ∧
    (deliverPayout m p s).line.found = s.line.found ∧
    (deliverPayout m p s).line.pointer = s.line.pointer ∧
    (deliverPayout m p s).line.scanTimer = s.line.scanTimer ∧
    (deliverPayout m p s).line.deferredStart = s.line.deferredStart ∧
    (deliverPayout m p s).line.enrollWaiting = s.line.enrollWaiting ∧ (deliverPayout m p s).line.finishing = s.line.finishing ∧
    (deliverPayout m p s).line.flight = s.line.flight ∧
    (deliverPayout m p s).line.records.length = s.line.records.length ∧
    (deliverPayout m p s).alarm.time = s.alarm.time ∧
    (deliverPayout m p s).alarm.bound = s.alarm.bound ∧
    (deliverPayout m p s).alarm.lastContaining = s.alarm.lastContaining ∧
    (deliverPayout m p s).swing.raw = s.swing.raw ∧
    (deliverPayout m p s).swing.corrected = s.swing.corrected ∧
    (deliverPayout m p s).swing.heldLoad = s.swing.heldLoad := by simp [deliverPayout]

@[simp] theorem geometryCommit_frame (s : State) :
    (geometryCommit s).power = s.power ∧ (geometryCommit s).link = s.link ∧
    (geometryCommit s).walk = s.walk ∧ (geometryCommit s).mgmt = s.mgmt ∧
    (geometryCommit s).store = s.store ∧ (geometryCommit s).tables = s.tables ∧
    (geometryCommit s).pending = s.pending ∧ (geometryCommit s).shaper.limits = s.shaper.limits ∧
    (geometryCommit s).shaper.lastRefs = s.shaper.lastRefs ∧
    (geometryCommit s).line.found = s.line.found ∧
    (geometryCommit s).line.pointer = s.line.pointer ∧
    (geometryCommit s).line.scanTimer = s.line.scanTimer ∧
    (geometryCommit s).line.deferredStart = s.line.deferredStart ∧
    (geometryCommit s).line.enrollWaiting = s.line.enrollWaiting ∧ (geometryCommit s).line.finishing = s.line.finishing ∧
    (geometryCommit s).line.flight = s.line.flight ∧
    (geometryCommit s).line.records.length = s.line.records.length ∧
    (geometryCommit s).alarm.time = s.alarm.time ∧ (geometryCommit s).alarm.bound = s.alarm.bound ∧
    (geometryCommit s).alarm.lastContaining = s.alarm.lastContaining ∧
    (geometryCommit s).swing.raw = s.swing.raw ∧
    (geometryCommit s).swing.corrected = s.swing.corrected ∧
    (geometryCommit s).swing.heldLoad = s.swing.heldLoad := by simp [geometryCommit]

@[simp] theorem settleUsability_frame (s : State) :
    (settleUsability s).power = s.power ∧ (settleUsability s).link = s.link ∧
    (settleUsability s).position = s.position ∧ (settleUsability s).shaper = s.shaper ∧
    (settleUsability s).swing = s.swing ∧ (settleUsability s).line = s.line ∧
    (settleUsability s).alarm = s.alarm ∧ (settleUsability s).mgmt = s.mgmt ∧
    (settleUsability s).store = s.store ∧ (settleUsability s).tables = s.tables ∧
    (settleUsability s).pending = s.pending ∧ (settleUsability s).walk.state = s.walk.state ∧
    (settleUsability s).walk.sub = s.walk.sub ∧
    (settleUsability s).walk.transferTimer = s.walk.transferTimer ∧
    (settleUsability s).walk.cam = s.walk.cam ∧
    (settleUsability s).walk.stepCount = s.walk.stepCount ∧
    (settleUsability s).walk.refusal = s.walk.refusal ∧
    (settleUsability s).walk.delivered = s.walk.delivered := by and_intros <;> rfl

@[simp] theorem setCommands_frame (s : State) :
    (setCommands s).power = s.power ∧ (setCommands s).link = s.link ∧
    (setCommands s).position = s.position ∧ (setCommands s).shaper = s.shaper ∧
    (setCommands s).swing = s.swing ∧ (setCommands s).walk = s.walk ∧
    (setCommands s).alarm = s.alarm ∧ (setCommands s).mgmt = s.mgmt ∧
    (setCommands s).store = s.store ∧ (setCommands s).tables = s.tables ∧
    (setCommands s).pending = s.pending ∧ (setCommands s).line.found = s.line.found ∧
    (setCommands s).line.pointer = s.line.pointer ∧
    (setCommands s).line.scanTimer = s.line.scanTimer ∧
    (setCommands s).line.deferredStart = s.line.deferredStart ∧
    (setCommands s).line.enrollWaiting = s.line.enrollWaiting ∧ (setCommands s).line.finishing = s.line.finishing ∧
    (setCommands s).line.flight = s.line.flight ∧
    (setCommands s).line.records.length = s.line.records.length := by unfold setCommands; split <;> simp

@[simp] theorem enterState_frame (x : SeqState) (y : SubStep) (s : State) :
    (enterState x y s).power = s.power ∧ (enterState x y s).link = s.link ∧
    (enterState x y s).position = s.position ∧ (enterState x y s).shaper = s.shaper ∧
    (enterState x y s).swing = s.swing ∧ (enterState x y s).alarm = s.alarm ∧
    (enterState x y s).mgmt = s.mgmt ∧ (enterState x y s).store = s.store ∧
    (enterState x y s).tables = s.tables ∧ (enterState x y s).pending = s.pending ∧
    (enterState x y s).line.found = s.line.found ∧
    (enterState x y s).line.pointer = s.line.pointer ∧
    (enterState x y s).line.scanTimer = s.line.scanTimer ∧
    (enterState x y s).line.deferredStart = s.line.deferredStart ∧
    (enterState x y s).line.enrollWaiting = s.line.enrollWaiting ∧ (enterState x y s).line.finishing = s.line.finishing ∧
    (enterState x y s).line.flight = s.line.flight ∧
    (enterState x y s).line.records.length = s.line.records.length ∧
    (enterState x y s).walk.usable = s.walk.usable ∧ (enterState x y s).walk.cam = s.walk.cam ∧
    (enterState x y s).walk.stepCount = s.walk.stepCount ∧
    (enterState x y s).walk.refusal = s.walk.refusal ∧
    (enterState x y s).walk.delivered = s.walk.delivered := by simp [enterState]

@[simp] theorem enterFault_frame (s : State) :
    (enterFault s).power = s.power ∧ (enterFault s).link = s.link ∧
    (enterFault s).position = s.position ∧ (enterFault s).swing = s.swing ∧
    (enterFault s).mgmt = s.mgmt ∧ (enterFault s).store = s.store ∧
    (enterFault s).tables = s.tables ∧ (enterFault s).pending = s.pending ∧
    (enterFault s).shaper.limits = s.shaper.limits ∧
    (enterFault s).shaper.lastRefs = s.shaper.lastRefs ∧ (enterFault s).line.found = s.line.found ∧
    (enterFault s).line.pointer = s.line.pointer ∧
    (enterFault s).line.scanTimer = s.line.scanTimer ∧
    (enterFault s).line.deferredStart = s.line.deferredStart ∧
    (enterFault s).line.enrollWaiting = s.line.enrollWaiting ∧ (enterFault s).line.finishing = s.line.finishing ∧
    (enterFault s).line.flight = s.line.flight ∧
    (enterFault s).line.records.length = s.line.records.length ∧
    (enterFault s).alarm.time = s.alarm.time ∧ (enterFault s).alarm.bound = s.alarm.bound ∧
    (enterFault s).alarm.lastPosition = s.alarm.lastPosition ∧
    (enterFault s).alarm.lastContaining = s.alarm.lastContaining ∧
    (enterFault s).walk.usable = s.walk.usable ∧ (enterFault s).walk.cam = s.walk.cam ∧
    (enterFault s).walk.stepCount = s.walk.stepCount ∧
    (enterFault s).walk.refusal = s.walk.refusal ∧ (enterFault s).walk.delivered = s.walk.delivered := by simp [enterFault]

@[simp] theorem completeOut_frame (s : State) :
    (completeOut s).power = s.power ∧ (completeOut s).link = s.link ∧
    (completeOut s).position = s.position ∧ (completeOut s).swing = s.swing ∧
    (completeOut s).alarm = s.alarm ∧ (completeOut s).mgmt = s.mgmt ∧
    (completeOut s).store = s.store ∧ (completeOut s).tables = s.tables ∧
    (completeOut s).pending = s.pending ∧ (completeOut s).shaper.limits = s.shaper.limits ∧
    (completeOut s).shaper.lastRefs = s.shaper.lastRefs ∧
    (completeOut s).line.found = s.line.found ∧ (completeOut s).line.pointer = s.line.pointer ∧
    (completeOut s).line.scanTimer = s.line.scanTimer ∧
    (completeOut s).line.deferredStart = s.line.deferredStart ∧
    (completeOut s).line.enrollWaiting = s.line.enrollWaiting ∧ (completeOut s).line.finishing = s.line.finishing ∧
    (completeOut s).line.flight = s.line.flight ∧
    (completeOut s).line.records.length = s.line.records.length ∧
    (completeOut s).walk.usable = s.walk.usable ∧ (completeOut s).walk.cam = s.walk.cam ∧
    (completeOut s).walk.stepCount = s.walk.stepCount ∧
    (completeOut s).walk.refusal = s.walk.refusal ∧
    (completeOut s).walk.delivered = s.walk.delivered := by simp [completeOut]

@[simp] theorem completeBack_frame (s : State) :
    (completeBack s).power = s.power ∧ (completeBack s).link = s.link ∧
    (completeBack s).position = s.position ∧ (completeBack s).swing = s.swing ∧
    (completeBack s).alarm = s.alarm ∧ (completeBack s).mgmt = s.mgmt ∧
    (completeBack s).store = s.store ∧ (completeBack s).tables = s.tables ∧
    (completeBack s).pending = s.pending ∧ (completeBack s).shaper.limits = s.shaper.limits ∧
    (completeBack s).shaper.lastRefs = s.shaper.lastRefs ∧
    (completeBack s).line.found = s.line.found ∧ (completeBack s).line.pointer = s.line.pointer ∧
    (completeBack s).line.scanTimer = s.line.scanTimer ∧
    (completeBack s).line.deferredStart = s.line.deferredStart ∧
    (completeBack s).line.enrollWaiting = s.line.enrollWaiting ∧ (completeBack s).line.finishing = s.line.finishing ∧
    (completeBack s).line.flight = s.line.flight ∧
    (completeBack s).line.records.length = s.line.records.length ∧
    (completeBack s).walk.usable = s.walk.usable ∧ (completeBack s).walk.cam = s.walk.cam ∧
    (completeBack s).walk.stepCount = s.walk.stepCount ∧
    (completeBack s).walk.refusal = s.walk.refusal ∧
    (completeBack s).walk.delivered = s.walk.delivered := by simp [completeBack]

@[simp] theorem setCam_frame (c : CamPhase) (s : State) :
    (setCam c s).power = s.power ∧ (setCam c s).link = s.link ∧ (setCam c s).position = s.position ∧
    (setCam c s).swing = s.swing ∧ (setCam c s).alarm = s.alarm ∧ (setCam c s).mgmt = s.mgmt ∧
    (setCam c s).store = s.store ∧ (setCam c s).tables = s.tables ∧
    (setCam c s).pending = s.pending ∧ (setCam c s).shaper.limits = s.shaper.limits ∧
    (setCam c s).shaper.lastRefs = s.shaper.lastRefs ∧ (setCam c s).line.found = s.line.found ∧
    (setCam c s).line.pointer = s.line.pointer ∧ (setCam c s).line.scanTimer = s.line.scanTimer ∧
    (setCam c s).line.deferredStart = s.line.deferredStart ∧
    (setCam c s).line.enrollWaiting = s.line.enrollWaiting ∧ (setCam c s).line.finishing = s.line.finishing ∧
    (setCam c s).line.flight = s.line.flight ∧
    (setCam c s).line.records.length = s.line.records.length ∧
    (setCam c s).walk.usable = s.walk.usable ∧ (setCam c s).walk.refusal = s.walk.refusal ∧
    (setCam c s).walk.delivered = s.walk.delivered := by simp only [setCam]; (repeat' split) <;> simp

@[simp] theorem deliverCam_frame (p : StatPayload) (s : State) :
    (deliverCam p s).power = s.power ∧ (deliverCam p s).link = s.link ∧
    (deliverCam p s).position = s.position ∧ (deliverCam p s).swing = s.swing ∧
    (deliverCam p s).alarm = s.alarm ∧ (deliverCam p s).mgmt = s.mgmt ∧
    (deliverCam p s).store = s.store ∧ (deliverCam p s).tables = s.tables ∧
    (deliverCam p s).pending = s.pending ∧ (deliverCam p s).shaper.limits = s.shaper.limits ∧
    (deliverCam p s).shaper.lastRefs = s.shaper.lastRefs ∧
    (deliverCam p s).line.found = s.line.found ∧ (deliverCam p s).line.pointer = s.line.pointer ∧
    (deliverCam p s).line.scanTimer = s.line.scanTimer ∧
    (deliverCam p s).line.deferredStart = s.line.deferredStart ∧
    (deliverCam p s).line.enrollWaiting = s.line.enrollWaiting ∧ (deliverCam p s).line.finishing = s.line.finishing ∧
    (deliverCam p s).line.flight = s.line.flight ∧
    (deliverCam p s).line.records.length = s.line.records.length ∧
    (deliverCam p s).walk.usable = s.walk.usable ∧ (deliverCam p s).walk.refusal = s.walk.refusal ∧
    (deliverCam p s).walk.delivered = s.walk.delivered := by simp [deliverCam]

@[simp] theorem startupDecision_frame (s : State) (w : WalkTable) :
    (startupDecision s w).power = s.power ∧ (startupDecision s w).link = s.link ∧
    (startupDecision s w).position = s.position ∧ (startupDecision s w).swing = s.swing ∧
    (startupDecision s w).mgmt = s.mgmt ∧ (startupDecision s w).store = s.store ∧
    (startupDecision s w).tables = s.tables ∧ (startupDecision s w).pending = s.pending ∧
    (startupDecision s w).shaper.limits = s.shaper.limits ∧
    (startupDecision s w).shaper.lastRefs = s.shaper.lastRefs ∧
    (startupDecision s w).line.found = s.line.found ∧
    (startupDecision s w).line.pointer = s.line.pointer ∧
    (startupDecision s w).line.scanTimer = s.line.scanTimer ∧
    (startupDecision s w).line.deferredStart = s.line.deferredStart ∧
    (startupDecision s w).line.enrollWaiting = s.line.enrollWaiting ∧ (startupDecision s w).line.finishing = s.line.finishing ∧
    (startupDecision s w).line.flight = s.line.flight ∧
    (startupDecision s w).line.records.length = s.line.records.length ∧
    (startupDecision s w).alarm.time = s.alarm.time ∧
    (startupDecision s w).alarm.bound = s.alarm.bound ∧
    (startupDecision s w).alarm.lastPosition = s.alarm.lastPosition ∧
    (startupDecision s w).alarm.lastContaining = s.alarm.lastContaining ∧
    (startupDecision s w).walk.usable = s.walk.usable ∧
    (startupDecision s w).walk.cam = s.walk.cam ∧
    (startupDecision s w).walk.stepCount = s.walk.stepCount ∧
    (startupDecision s w).walk.refusal = s.walk.refusal ∧
    (startupDecision s w).walk.delivered = s.walk.delivered := by simp only [startupDecision]; (repeat' split) <;> simp

@[simp] theorem roundAdvance_frame (s : State) (w : WalkTable) :
    (roundAdvance s w).power = s.power ∧ (roundAdvance s w).link = s.link ∧
    (roundAdvance s w).position = s.position ∧ (roundAdvance s w).swing = s.swing ∧
    (roundAdvance s w).mgmt = s.mgmt ∧ (roundAdvance s w).store = s.store ∧
    (roundAdvance s w).tables = s.tables ∧ (roundAdvance s w).pending = s.pending ∧
    (roundAdvance s w).shaper.limits = s.shaper.limits ∧
    (roundAdvance s w).shaper.lastRefs = s.shaper.lastRefs ∧
    (roundAdvance s w).line.found = s.line.found ∧
    (roundAdvance s w).line.pointer = s.line.pointer ∧
    (roundAdvance s w).line.scanTimer = s.line.scanTimer ∧
    (roundAdvance s w).line.deferredStart = s.line.deferredStart ∧
    (roundAdvance s w).line.enrollWaiting = s.line.enrollWaiting ∧ (roundAdvance s w).line.finishing = s.line.finishing ∧
    (roundAdvance s w).line.flight = s.line.flight ∧
    (roundAdvance s w).line.records.length = s.line.records.length ∧
    (roundAdvance s w).alarm.time = s.alarm.time ∧ (roundAdvance s w).alarm.bound = s.alarm.bound ∧
    (roundAdvance s w).alarm.lastPosition = s.alarm.lastPosition ∧
    (roundAdvance s w).alarm.lastContaining = s.alarm.lastContaining ∧
    (roundAdvance s w).walk.usable = s.walk.usable ∧ (roundAdvance s w).walk.cam = s.walk.cam ∧
    (roundAdvance s w).walk.stepCount = s.walk.stepCount ∧
    (roundAdvance s w).walk.refusal = s.walk.refusal ∧
    (roundAdvance s w).walk.delivered = s.walk.delivered := by simp only [roundAdvance]; (repeat' split) <;> simp

@[simp] theorem faultReturn_frame (s : State) (x : SeqState) (w : WalkTable) :
    (faultReturn x s w).power = s.power ∧ (faultReturn x s w).link = s.link ∧
    (faultReturn x s w).position = s.position ∧ (faultReturn x s w).swing = s.swing ∧
    (faultReturn x s w).walk = s.walk ∧ (faultReturn x s w).mgmt = s.mgmt ∧
    (faultReturn x s w).store = s.store ∧ (faultReturn x s w).tables = s.tables ∧
    (faultReturn x s w).pending = s.pending ∧ (faultReturn x s w).shaper.limits = s.shaper.limits ∧
    (faultReturn x s w).shaper.lastRefs = s.shaper.lastRefs ∧
    (faultReturn x s w).line.found = s.line.found ∧
    (faultReturn x s w).line.pointer = s.line.pointer ∧
    (faultReturn x s w).line.scanTimer = s.line.scanTimer ∧
    (faultReturn x s w).line.deferredStart = s.line.deferredStart ∧
    (faultReturn x s w).line.enrollWaiting = s.line.enrollWaiting ∧ (faultReturn x s w).line.finishing = s.line.finishing ∧
    (faultReturn x s w).line.flight = s.line.flight ∧
    (faultReturn x s w).line.records.length = s.line.records.length ∧
    (faultReturn x s w).alarm.time = s.alarm.time ∧
    (faultReturn x s w).alarm.bound = s.alarm.bound ∧
    (faultReturn x s w).alarm.lastPosition = s.alarm.lastPosition ∧
    (faultReturn x s w).alarm.lastContaining = s.alarm.lastContaining := by unfold faultReturn; split <;> simp

@[simp] theorem requestAgain_frame (s : State) (w : WalkTable) :
    (requestAgain s w).power = s.power ∧ (requestAgain s w).link = s.link ∧
    (requestAgain s w).position = s.position ∧ (requestAgain s w).shaper = s.shaper ∧
    (requestAgain s w).swing = s.swing ∧ (requestAgain s w).walk = s.walk ∧
    (requestAgain s w).alarm = s.alarm ∧ (requestAgain s w).mgmt = s.mgmt ∧
    (requestAgain s w).store = s.store ∧ (requestAgain s w).tables = s.tables ∧
    (requestAgain s w).pending = s.pending ∧ (requestAgain s w).line.found = s.line.found ∧
    (requestAgain s w).line.pointer = s.line.pointer ∧
    (requestAgain s w).line.scanTimer = s.line.scanTimer ∧
    (requestAgain s w).line.deferredStart = s.line.deferredStart ∧
    (requestAgain s w).line.enrollWaiting = s.line.enrollWaiting ∧ (requestAgain s w).line.finishing = s.line.finishing ∧
    (requestAgain s w).line.flight = s.line.flight ∧
    (requestAgain s w).line.records.length = s.line.records.length := by unfold requestAgain; (repeat' split) <;> simp

@[simp] theorem walkRound_frame (s : State) :
    (walkRound s).power = s.power ∧ (walkRound s).link = s.link ∧
    (walkRound s).position = s.position ∧ (walkRound s).swing = s.swing ∧
    (walkRound s).mgmt = s.mgmt ∧ (walkRound s).store = s.store ∧ (walkRound s).tables = s.tables ∧
    (walkRound s).pending = s.pending ∧ (walkRound s).shaper.limits = s.shaper.limits ∧
    (walkRound s).shaper.lastRefs = s.shaper.lastRefs ∧ (walkRound s).line.found = s.line.found ∧
    (walkRound s).line.pointer = s.line.pointer ∧ (walkRound s).line.scanTimer = s.line.scanTimer ∧
    (walkRound s).line.deferredStart = s.line.deferredStart ∧
    (walkRound s).line.enrollWaiting = s.line.enrollWaiting ∧ (walkRound s).line.finishing = s.line.finishing ∧
    (walkRound s).line.flight = s.line.flight ∧
    (walkRound s).line.records.length = s.line.records.length ∧
    (walkRound s).alarm.time = s.alarm.time ∧ (walkRound s).alarm.bound = s.alarm.bound ∧
    (walkRound s).alarm.lastPosition = s.alarm.lastPosition ∧
    (walkRound s).alarm.lastContaining = s.alarm.lastContaining ∧
    (walkRound s).walk.usable = s.walk.usable ∧ (walkRound s).walk.cam = s.walk.cam ∧
    (walkRound s).walk.stepCount = s.walk.stepCount ∧ (walkRound s).walk.refusal = s.walk.refusal := by simp only [walkRound]; (repeat' split) <;> simp

@[simp] theorem refDecision_frame (p : RefPayload) (s : State) :
    ((refDecision p s).1).power = s.power ∧ ((refDecision p s).1).link = s.link ∧
    ((refDecision p s).1).position = s.position ∧ ((refDecision p s).1).swing = s.swing ∧
    ((refDecision p s).1).alarm = s.alarm ∧ ((refDecision p s).1).mgmt = s.mgmt ∧
    ((refDecision p s).1).store = s.store ∧ ((refDecision p s).1).tables = s.tables ∧
    ((refDecision p s).1).pending = s.pending ∧
    ((refDecision p s).1).shaper.limits = s.shaper.limits ∧
    ((refDecision p s).1).shaper.lastRefs = s.shaper.lastRefs ∧
    ((refDecision p s).1).line.found = s.line.found ∧
    ((refDecision p s).1).line.pointer = s.line.pointer ∧
    ((refDecision p s).1).line.scanTimer = s.line.scanTimer ∧
    ((refDecision p s).1).line.deferredStart = s.line.deferredStart ∧
    ((refDecision p s).1).line.enrollWaiting = s.line.enrollWaiting ∧ ((refDecision p s).1).line.finishing = s.line.finishing ∧
    ((refDecision p s).1).line.flight = s.line.flight ∧
    ((refDecision p s).1).line.records.length = s.line.records.length ∧
    ((refDecision p s).1).walk.usable = s.walk.usable ∧
    ((refDecision p s).1).walk.cam = s.walk.cam ∧
    ((refDecision p s).1).walk.stepCount = s.walk.stepCount ∧
    ((refDecision p s).1).walk.refusal = s.walk.refusal ∧
    ((refDecision p s).1).walk.delivered = s.walk.delivered := by simp only [refDecision, refInDig, refInTransferOut, refInWalkIdle, refInStepping, refInShoeHold, refInFault]; (repeat' split) <;> simp_all

@[simp] theorem walkTakesRef_frame (p : RefPayload) (s : State) :
    (walkTakesRef p s).power = s.power ∧ (walkTakesRef p s).link = s.link ∧
    (walkTakesRef p s).position = s.position ∧ (walkTakesRef p s).swing = s.swing ∧
    (walkTakesRef p s).alarm = s.alarm ∧ (walkTakesRef p s).mgmt = s.mgmt ∧
    (walkTakesRef p s).store = s.store ∧ (walkTakesRef p s).tables = s.tables ∧
    (walkTakesRef p s).pending = s.pending ∧ (walkTakesRef p s).shaper.limits = s.shaper.limits ∧
    (walkTakesRef p s).shaper.lastRefs = s.shaper.lastRefs ∧
    (walkTakesRef p s).line.found = s.line.found ∧
    (walkTakesRef p s).line.pointer = s.line.pointer ∧
    (walkTakesRef p s).line.scanTimer = s.line.scanTimer ∧
    (walkTakesRef p s).line.deferredStart = s.line.deferredStart ∧
    (walkTakesRef p s).line.enrollWaiting = s.line.enrollWaiting ∧ (walkTakesRef p s).line.finishing = s.line.finishing ∧
    (walkTakesRef p s).line.flight = s.line.flight ∧
    (walkTakesRef p s).line.records.length = s.line.records.length ∧
    (walkTakesRef p s).walk.usable = s.walk.usable ∧ (walkTakesRef p s).walk.cam = s.walk.cam ∧
    (walkTakesRef p s).walk.stepCount = s.walk.stepCount ∧
    (walkTakesRef p s).walk.delivered = s.walk.delivered := by simp [walkTakesRef]

@[simp] theorem walkSettlesCommit_frame (s : State) :
    (walkSettlesCommit s).power = s.power ∧ (walkSettlesCommit s).link = s.link ∧
    (walkSettlesCommit s).position = s.position ∧ (walkSettlesCommit s).shaper = s.shaper ∧
    (walkSettlesCommit s).swing = s.swing ∧ (walkSettlesCommit s).alarm = s.alarm ∧
    (walkSettlesCommit s).mgmt = s.mgmt ∧ (walkSettlesCommit s).store = s.store ∧
    (walkSettlesCommit s).tables = s.tables ∧ (walkSettlesCommit s).pending = s.pending ∧
    (walkSettlesCommit s).line.found = s.line.found ∧
    (walkSettlesCommit s).line.pointer = s.line.pointer ∧
    (walkSettlesCommit s).line.scanTimer = s.line.scanTimer ∧
    (walkSettlesCommit s).line.deferredStart = s.line.deferredStart ∧
    (walkSettlesCommit s).line.enrollWaiting = s.line.enrollWaiting ∧ (walkSettlesCommit s).line.finishing = s.line.finishing ∧
    (walkSettlesCommit s).line.flight = s.line.flight ∧
    (walkSettlesCommit s).line.records.length = s.line.records.length ∧
    (walkSettlesCommit s).walk.state = s.walk.state ∧ (walkSettlesCommit s).walk.sub = s.walk.sub ∧
    (walkSettlesCommit s).walk.transferTimer = s.walk.transferTimer ∧
    (walkSettlesCommit s).walk.cam = s.walk.cam ∧
    (walkSettlesCommit s).walk.stepCount = s.walk.stepCount ∧
    (walkSettlesCommit s).walk.refusal = s.walk.refusal ∧
    (walkSettlesCommit s).walk.delivered = s.walk.delivered := by simp [walkSettlesCommit]

@[simp] theorem shaperTakesRef_frame (p : RefPayload) (s : State) :
    (shaperTakesRef p s).power = s.power ∧ (shaperTakesRef p s).link = s.link ∧
    (shaperTakesRef p s).position = s.position ∧ (shaperTakesRef p s).swing = s.swing ∧
    (shaperTakesRef p s).walk = s.walk ∧ (shaperTakesRef p s).line = s.line ∧
    (shaperTakesRef p s).alarm = s.alarm ∧ (shaperTakesRef p s).mgmt = s.mgmt ∧
    (shaperTakesRef p s).store = s.store ∧ (shaperTakesRef p s).tables = s.tables ∧
    (shaperTakesRef p s).pending = s.pending := by and_intros <;> rfl

@[simp] theorem takeNotice_frame (s : State) :
    ((takeNotice s).2).power = s.power ∧ ((takeNotice s).2).link = s.link ∧
    ((takeNotice s).2).position = s.position ∧ ((takeNotice s).2).shaper = s.shaper ∧
    ((takeNotice s).2).swing = s.swing ∧ ((takeNotice s).2).walk = s.walk ∧
    ((takeNotice s).2).line = s.line ∧ ((takeNotice s).2).mgmt = s.mgmt ∧
    ((takeNotice s).2).store = s.store ∧ ((takeNotice s).2).tables = s.tables ∧
    ((takeNotice s).2).pending = s.pending ∧ ((takeNotice s).2).alarm.time = s.alarm.time ∧
    ((takeNotice s).2).alarm.bound = s.alarm.bound ∧
    ((takeNotice s).2).alarm.lastPosition = s.alarm.lastPosition ∧
    ((takeNotice s).2).alarm.lastContaining = s.alarm.lastContaining ∧
    ((takeNotice s).2).alarm.slots = s.alarm.slots ∧ ((takeNotice s).2).alarm.list = s.alarm.list ∧
    ((takeNotice s).2).alarm.firstOut = s.alarm.firstOut ∧
    ((takeNotice s).2).alarm.log = s.alarm.log ∧ ((takeNotice s).2).alarm.nextSeq = s.alarm.nextSeq := by unfold takeNotice; (repeat' split) <;> simp

@[simp] theorem sendReport_frame (c : Nat) (o : Bool) (s : State) :
    (sendReport c o s).power = s.power ∧ (sendReport c o s).position = s.position ∧
    (sendReport c o s).shaper = s.shaper ∧ (sendReport c o s).swing = s.swing ∧
    (sendReport c o s).walk = s.walk ∧ (sendReport c o s).line = s.line ∧
    (sendReport c o s).mgmt = s.mgmt ∧ (sendReport c o s).store = s.store ∧
    (sendReport c o s).tables = s.tables ∧ (sendReport c o s).pending = s.pending ∧
    (sendReport c o s).alarm.time = s.alarm.time ∧ (sendReport c o s).alarm.bound = s.alarm.bound ∧
    (sendReport c o s).alarm.lastPosition = s.alarm.lastPosition ∧
    (sendReport c o s).alarm.lastContaining = s.alarm.lastContaining ∧
    (sendReport c o s).alarm.slots = s.alarm.slots ∧ (sendReport c o s).alarm.list = s.alarm.list ∧
    (sendReport c o s).alarm.firstOut = s.alarm.firstOut ∧
    (sendReport c o s).alarm.log = s.alarm.log ∧
    (sendReport c o s).alarm.nextSeq = s.alarm.nextSeq ∧
    (sendReport c o s).link.drivePort = s.link.drivePort ∧
    (sendReport c o s).link.cabState = s.link.cabState ∧
    (sendReport c o s).link.silenceTimer = s.link.silenceTimer ∧
    (sendReport c o s).link.holdTimer = s.link.holdTimer ∧
    (sendReport c o s).link.lastCycle = s.link.lastCycle ∧
    (sendReport c o s).link.lastOriginHold = s.link.lastOriginHold ∧
    (sendReport c o s).link.held = s.link.held ∧ (sendReport c o s).link.drives = s.link.drives := by simp [sendReport]

end Sys2Proof.Machine
end

