-- ==== Sys2Proof/Laws/FramesLines.lean ====
section
/-! SUPPORT. What operations leave unchanged. The station line and the retained store. -/

namespace Sys2Proof.Machine

@[simp] theorem charge_frame (n : Nat) (ok : Bool) (s : State) :
    (charge n ok s).power = s.power ∧ (charge n ok s).link = s.link ∧
    (charge n ok s).position = s.position ∧ (charge n ok s).swing = s.swing ∧
    (charge n ok s).walk = s.walk ∧ (charge n ok s).mgmt = s.mgmt ∧
    (charge n ok s).store = s.store ∧ (charge n ok s).tables = s.tables ∧
    (charge n ok s).pending = s.pending ∧ (charge n ok s).shaper.limits = s.shaper.limits ∧
    (charge n ok s).shaper.lastRefs = s.shaper.lastRefs ∧
    (charge n ok s).line.found = s.line.found ∧ (charge n ok s).line.pointer = s.line.pointer ∧
    (charge n ok s).line.scanTimer = s.line.scanTimer ∧
    (charge n ok s).line.deferredStart = s.line.deferredStart ∧
    (charge n ok s).line.enrollWaiting = s.line.enrollWaiting ∧ (charge n ok s).line.finishing = s.line.finishing ∧
    (charge n ok s).line.flight = s.line.flight ∧
    (charge n ok s).line.records.length = s.line.records.length ∧
    (charge n ok s).alarm.time = s.alarm.time ∧ (charge n ok s).alarm.bound = s.alarm.bound ∧
    (charge n ok s).alarm.lastPosition = s.alarm.lastPosition ∧
    (charge n ok s).alarm.lastContaining = s.alarm.lastContaining := by unfold charge; (repeat' split) <;> simp

@[simp] theorem setFlight_frame (f : Flight) (s : State) :
    (setFlight f s).power = s.power ∧ (setFlight f s).link = s.link ∧
    (setFlight f s).position = s.position ∧ (setFlight f s).shaper = s.shaper ∧
    (setFlight f s).swing = s.swing ∧ (setFlight f s).walk = s.walk ∧
    (setFlight f s).alarm = s.alarm ∧ (setFlight f s).mgmt = s.mgmt ∧
    (setFlight f s).store = s.store ∧ (setFlight f s).tables = s.tables ∧
    (setFlight f s).pending = s.pending ∧ (setFlight f s).line.records = s.line.records ∧
    (setFlight f s).line.found = s.line.found ∧ (setFlight f s).line.pointer = s.line.pointer ∧
    (setFlight f s).line.scanTimer = s.line.scanTimer ∧
    (setFlight f s).line.deferredStart = s.line.deferredStart ∧
    (setFlight f s).line.enrollWaiting = s.line.enrollWaiting ∧ (setFlight f s).line.finishing = s.line.finishing := by and_intros <;> rfl

@[simp] theorem beginCompletion_frame (r : Round) (s : State) :
    (beginCompletion r s).power = s.power ∧ (beginCompletion r s).link = s.link ∧
    (beginCompletion r s).position = s.position ∧ (beginCompletion r s).shaper = s.shaper ∧
    (beginCompletion r s).swing = s.swing ∧ (beginCompletion r s).walk = s.walk ∧
    (beginCompletion r s).alarm = s.alarm ∧ (beginCompletion r s).mgmt = s.mgmt ∧
    (beginCompletion r s).store = s.store ∧ (beginCompletion r s).tables = s.tables ∧
    (beginCompletion r s).pending = s.pending ∧
    (beginCompletion r s).line.records = s.line.records ∧
    (beginCompletion r s).line.found = s.line.found ∧
    (beginCompletion r s).line.pointer = s.line.pointer ∧
    (beginCompletion r s).line.scanTimer = s.line.scanTimer ∧
    (beginCompletion r s).line.deferredStart = s.line.deferredStart ∧
    (beginCompletion r s).line.enrollWaiting = s.line.enrollWaiting ∧ (beginCompletion r s).line.finishing = s.line.finishing := by and_intros <;> rfl

@[simp] theorem beginRotation_frame (r : Round) (s : State) :
    (beginRotation r s).power = s.power ∧ (beginRotation r s).link = s.link ∧
    (beginRotation r s).position = s.position ∧ (beginRotation r s).shaper = s.shaper ∧
    (beginRotation r s).swing = s.swing ∧ (beginRotation r s).walk = s.walk ∧
    (beginRotation r s).alarm = s.alarm ∧ (beginRotation r s).mgmt = s.mgmt ∧
    (beginRotation r s).store = s.store ∧ (beginRotation r s).tables = s.tables ∧
    (beginRotation r s).pending = s.pending ∧ (beginRotation r s).line.records = s.line.records ∧
    (beginRotation r s).line.found = s.line.found ∧
    (beginRotation r s).line.pointer = s.line.pointer ∧
    (beginRotation r s).line.scanTimer = s.line.scanTimer ∧
    (beginRotation r s).line.deferredStart = s.line.deferredStart ∧
    (beginRotation r s).line.enrollWaiting = s.line.enrollWaiting ∧ (beginRotation r s).line.finishing = s.line.finishing := by unfold beginRotation; split <;> simp

@[simp] theorem beginReading_frame (r : Round) (s : State) :
    (beginReading r s).power = s.power ∧ (beginReading r s).link = s.link ∧
    (beginReading r s).position = s.position ∧ (beginReading r s).shaper = s.shaper ∧
    (beginReading r s).swing = s.swing ∧ (beginReading r s).walk = s.walk ∧
    (beginReading r s).alarm = s.alarm ∧ (beginReading r s).mgmt = s.mgmt ∧
    (beginReading r s).store = s.store ∧ (beginReading r s).tables = s.tables ∧
    (beginReading r s).pending = s.pending ∧ (beginReading r s).line.records = s.line.records ∧
    (beginReading r s).line.found = s.line.found ∧
    (beginReading r s).line.pointer = s.line.pointer ∧
    (beginReading r s).line.scanTimer = s.line.scanTimer ∧
    (beginReading r s).line.deferredStart = s.line.deferredStart ∧
    (beginReading r s).line.enrollWaiting = s.line.enrollWaiting ∧ (beginReading r s).line.finishing = s.line.finishing := by unfold beginReading; split <;> simp

@[simp] theorem beginSweep_frame (r : Round) (s : State) :
    (beginSweep r s).power = s.power ∧ (beginSweep r s).link = s.link ∧
    (beginSweep r s).position = s.position ∧ (beginSweep r s).shaper = s.shaper ∧
    (beginSweep r s).swing = s.swing ∧ (beginSweep r s).walk = s.walk ∧
    (beginSweep r s).alarm = s.alarm ∧ (beginSweep r s).mgmt = s.mgmt ∧
    (beginSweep r s).store = s.store ∧ (beginSweep r s).tables = s.tables ∧
    (beginSweep r s).pending = s.pending ∧ (beginSweep r s).line.records = s.line.records ∧
    (beginSweep r s).line.pointer = s.line.pointer ∧
    (beginSweep r s).line.scanTimer = s.line.scanTimer ∧
    (beginSweep r s).line.deferredStart = s.line.deferredStart ∧
    (beginSweep r s).line.enrollWaiting = s.line.enrollWaiting ∧ (beginSweep r s).line.finishing = s.line.finishing := by and_intros <;> rfl

@[simp] theorem startRound_frame (s : State) :
    (startRound s).power = s.power ∧ (startRound s).link = s.link ∧
    (startRound s).position = s.position ∧ (startRound s).shaper = s.shaper ∧
    (startRound s).swing = s.swing ∧ (startRound s).walk = s.walk ∧ (startRound s).alarm = s.alarm ∧
    (startRound s).mgmt = s.mgmt ∧ (startRound s).store = s.store ∧
    (startRound s).tables = s.tables ∧ (startRound s).pending = s.pending ∧
    (startRound s).line.pointer = s.line.pointer ∧
    (startRound s).line.scanTimer = s.line.scanTimer ∧
    (startRound s).line.deferredStart = s.line.deferredStart ∧
    (startRound s).line.enrollWaiting = s.line.enrollWaiting ∧ (startRound s).line.finishing = s.line.finishing ∧
    (startRound s).line.records.length = s.line.records.length := by simp only [startRound]; (repeat' split) <;> simp

@[simp] theorem nextTransaction_frame (r : Round) (n : Nat) (rest : List Job) (s : State) :
    (nextTransaction r n rest s).power = s.power ∧ (nextTransaction r n rest s).link = s.link ∧
    (nextTransaction r n rest s).position = s.position ∧
    (nextTransaction r n rest s).shaper = s.shaper ∧ (nextTransaction r n rest s).swing = s.swing ∧
    (nextTransaction r n rest s).walk = s.walk ∧ (nextTransaction r n rest s).alarm = s.alarm ∧
    (nextTransaction r n rest s).mgmt = s.mgmt ∧ (nextTransaction r n rest s).store = s.store ∧
    (nextTransaction r n rest s).tables = s.tables ∧
    (nextTransaction r n rest s).pending = s.pending ∧
    (nextTransaction r n rest s).line.records = s.line.records ∧
    (nextTransaction r n rest s).line.scanTimer = s.line.scanTimer ∧
    (nextTransaction r n rest s).line.deferredStart = s.line.deferredStart ∧
    (nextTransaction r n rest s).line.enrollWaiting = s.line.enrollWaiting ∧ (nextTransaction r n rest s).line.finishing = s.line.finishing := by unfold nextTransaction; (repeat' split) <;> simp

@[simp] theorem completeRead_frame (x : PickedAnswer) (r : Round) (n : Nat) (rest : List Job) (s : State) :
    (completeRead x r n rest s).power = s.power ∧ (completeRead x r n rest s).link = s.link ∧
    (completeRead x r n rest s).position = s.position ∧
    (completeRead x r n rest s).swing = s.swing ∧ (completeRead x r n rest s).walk = s.walk ∧
    (completeRead x r n rest s).mgmt = s.mgmt ∧ (completeRead x r n rest s).store = s.store ∧
    (completeRead x r n rest s).tables = s.tables ∧
    (completeRead x r n rest s).pending = s.pending ∧
    (completeRead x r n rest s).shaper.limits = s.shaper.limits ∧
    (completeRead x r n rest s).shaper.lastRefs = s.shaper.lastRefs ∧
    (completeRead x r n rest s).alarm.time = s.alarm.time ∧
    (completeRead x r n rest s).alarm.bound = s.alarm.bound ∧
    (completeRead x r n rest s).alarm.lastPosition = s.alarm.lastPosition ∧
    (completeRead x r n rest s).alarm.lastContaining = s.alarm.lastContaining ∧
    (completeRead x r n rest s).line.scanTimer = s.line.scanTimer ∧
    (completeRead x r n rest s).line.deferredStart = s.line.deferredStart ∧
    (completeRead x r n rest s).line.enrollWaiting = s.line.enrollWaiting ∧ (completeRead x r n rest s).line.finishing = s.line.finishing ∧
    (completeRead x r n rest s).line.records.length = s.line.records.length := by unfold completeRead; (repeat' split) <;> simp

@[simp] theorem completeWrite_frame (x : PickedAnswer) (r : Round) (n : Nat) (v : PerChannel Bool) (rest : List Job) (s : State) :
    (completeWrite x r n v rest s).power = s.power ∧ (completeWrite x r n v rest s).link = s.link ∧
    (completeWrite x r n v rest s).position = s.position ∧
    (completeWrite x r n v rest s).swing = s.swing ∧ (completeWrite x r n v rest s).walk = s.walk ∧
    (completeWrite x r n v rest s).mgmt = s.mgmt ∧ (completeWrite x r n v rest s).store = s.store ∧
    (completeWrite x r n v rest s).tables = s.tables ∧
    (completeWrite x r n v rest s).pending = s.pending ∧
    (completeWrite x r n v rest s).shaper.limits = s.shaper.limits ∧
    (completeWrite x r n v rest s).shaper.lastRefs = s.shaper.lastRefs ∧
    (completeWrite x r n v rest s).alarm.time = s.alarm.time ∧
    (completeWrite x r n v rest s).alarm.bound = s.alarm.bound ∧
    (completeWrite x r n v rest s).alarm.lastPosition = s.alarm.lastPosition ∧
    (completeWrite x r n v rest s).alarm.lastContaining = s.alarm.lastContaining ∧
    (completeWrite x r n v rest s).line.scanTimer = s.line.scanTimer ∧
    (completeWrite x r n v rest s).line.deferredStart = s.line.deferredStart ∧
    (completeWrite x r n v rest s).line.enrollWaiting = s.line.enrollWaiting ∧ (completeWrite x r n v rest s).line.finishing = s.line.finishing ∧
    (completeWrite x r n v rest s).line.records.length = s.line.records.length := by unfold completeWrite; (repeat' split) <;> simp

@[simp] theorem completeCondition_frame (x : ConditionAnswer) (r : Round) (n : Nat) (rest : List Job) (s : State) :
    (completeCondition x r n rest s).power = s.power ∧
    (completeCondition x r n rest s).link = s.link ∧
    (completeCondition x r n rest s).position = s.position ∧
    (completeCondition x r n rest s).swing = s.swing ∧
    (completeCondition x r n rest s).walk = s.walk ∧
    (completeCondition x r n rest s).mgmt = s.mgmt ∧
    (completeCondition x r n rest s).store = s.store ∧
    (completeCondition x r n rest s).tables = s.tables ∧
    (completeCondition x r n rest s).pending = s.pending ∧
    (completeCondition x r n rest s).shaper.limits = s.shaper.limits ∧
    (completeCondition x r n rest s).shaper.lastRefs = s.shaper.lastRefs ∧
    (completeCondition x r n rest s).alarm.time = s.alarm.time ∧
    (completeCondition x r n rest s).alarm.bound = s.alarm.bound ∧
    (completeCondition x r n rest s).alarm.lastPosition = s.alarm.lastPosition ∧
    (completeCondition x r n rest s).alarm.lastContaining = s.alarm.lastContaining ∧
    (completeCondition x r n rest s).line.scanTimer = s.line.scanTimer ∧
    (completeCondition x r n rest s).line.deferredStart = s.line.deferredStart ∧
    (completeCondition x r n rest s).line.enrollWaiting = s.line.enrollWaiting ∧ (completeCondition x r n rest s).line.finishing = s.line.finishing ∧
    (completeCondition x r n rest s).line.records.length = s.line.records.length := by unfold completeCondition; split <;> simp

@[simp] theorem foundIdentity_frame (i : Identity) (s : State) :
    (foundIdentity i s).power = s.power ∧ (foundIdentity i s).link = s.link ∧
    (foundIdentity i s).position = s.position ∧ (foundIdentity i s).shaper = s.shaper ∧
    (foundIdentity i s).swing = s.swing ∧ (foundIdentity i s).walk = s.walk ∧
    (foundIdentity i s).alarm = s.alarm ∧ (foundIdentity i s).mgmt = s.mgmt ∧
    (foundIdentity i s).store = s.store ∧ (foundIdentity i s).tables = s.tables ∧
    (foundIdentity i s).pending = s.pending ∧ (foundIdentity i s).line.records = s.line.records ∧
    (foundIdentity i s).line.pointer = s.line.pointer ∧
    (foundIdentity i s).line.scanTimer = s.line.scanTimer ∧
    (foundIdentity i s).line.deferredStart = s.line.deferredStart ∧
    (foundIdentity i s).line.enrollWaiting = s.line.enrollWaiting ∧ (foundIdentity i s).line.finishing = s.line.finishing ∧
    (foundIdentity i s).line.flight = s.line.flight := by unfold foundIdentity; (repeat' split) <;> simp

@[simp] theorem completeSeekIf_frame (x : PassAnswer) (r : Round) (s : State) :
    (completeSeekIf x r s).power = s.power ∧ (completeSeekIf x r s).link = s.link ∧
    (completeSeekIf x r s).position = s.position ∧ (completeSeekIf x r s).shaper = s.shaper ∧
    (completeSeekIf x r s).swing = s.swing ∧ (completeSeekIf x r s).walk = s.walk ∧
    (completeSeekIf x r s).alarm = s.alarm ∧ (completeSeekIf x r s).mgmt = s.mgmt ∧
    (completeSeekIf x r s).store = s.store ∧ (completeSeekIf x r s).tables = s.tables ∧
    (completeSeekIf x r s).pending = s.pending ∧
    (completeSeekIf x r s).line.records = s.line.records ∧
    (completeSeekIf x r s).line.pointer = s.line.pointer ∧
    (completeSeekIf x r s).line.scanTimer = s.line.scanTimer ∧
    (completeSeekIf x r s).line.deferredStart = s.line.deferredStart ∧
    (completeSeekIf x r s).line.enrollWaiting = s.line.enrollWaiting ∧ (completeSeekIf x r s).line.finishing = s.line.finishing := by unfold completeSeekIf; (repeat' split) <;> simp

@[simp] theorem startEnrollment_frame (s : State) :
    (startEnrollment s).power = s.power ∧ (startEnrollment s).link = s.link ∧
    (startEnrollment s).position = s.position ∧ (startEnrollment s).shaper = s.shaper ∧
    (startEnrollment s).swing = s.swing ∧ (startEnrollment s).walk = s.walk ∧
    (startEnrollment s).alarm = s.alarm ∧ (startEnrollment s).mgmt = s.mgmt ∧
    (startEnrollment s).store = s.store ∧ (startEnrollment s).tables = s.tables ∧
    (startEnrollment s).pending = s.pending ∧ (startEnrollment s).line.records = s.line.records ∧
    (startEnrollment s).line.pointer = s.line.pointer ∧
    (startEnrollment s).line.scanTimer = s.line.scanTimer ∧
    (startEnrollment s).line.deferredStart = s.line.deferredStart ∧
    (startEnrollment s).line.found = s.line.found := by and_intros <;> rfl

@[simp] theorem endEnrollment_frame (l : List Identity) (more : Bool) (s : State) :
    (endEnrollment l more s).power = s.power ∧ (endEnrollment l more s).position = s.position ∧
    (endEnrollment l more s).shaper = s.shaper ∧ (endEnrollment l more s).swing = s.swing ∧
    (endEnrollment l more s).walk = s.walk ∧ (endEnrollment l more s).alarm = s.alarm ∧
    (endEnrollment l more s).store = s.store ∧ (endEnrollment l more s).tables = s.tables ∧
    (endEnrollment l more s).pending = s.pending ∧
    (endEnrollment l more s).line.records = s.line.records ∧
    (endEnrollment l more s).line.pointer = s.line.pointer ∧
    (endEnrollment l more s).line.scanTimer = s.line.scanTimer ∧
    (endEnrollment l more s).line.deferredStart = s.line.deferredStart ∧
    (endEnrollment l more s).line.found = s.line.found ∧
    (endEnrollment l more s).line.enrollWaiting = s.line.enrollWaiting ∧ (endEnrollment l more s).line.finishing = s.line.finishing ∧
    (endEnrollment l more s).link.drivePort = s.link.drivePort ∧
    (endEnrollment l more s).link.cabState = s.link.cabState ∧
    (endEnrollment l more s).link.silenceTimer = s.link.silenceTimer ∧
    (endEnrollment l more s).link.holdTimer = s.link.holdTimer ∧
    (endEnrollment l more s).link.lastCycle = s.link.lastCycle ∧
    (endEnrollment l more s).link.lastOriginHold = s.link.lastOriginHold ∧
    (endEnrollment l more s).link.drives = s.link.drives ∧
    (endEnrollment l more s).mgmt.lock = s.mgmt.lock ∧
    (endEnrollment l more s).mgmt.key = s.mgmt.key ∧
    (endEnrollment l more s).mgmt.attempts = s.mgmt.attempts ∧
    (endEnrollment l more s).mgmt.restartPending = s.mgmt.restartPending ∧
    (endEnrollment l more s).mgmt.outCommit = s.mgmt.outCommit ∧
    (endEnrollment l more s).mgmt.seqFlag = s.mgmt.seqFlag ∧
    (endEnrollment l more s).mgmt.retainedOnce = s.mgmt.retainedOnce ∧
    (endEnrollment l more s).mgmt.staging = s.mgmt.staging := by simp only [endEnrollment]; (repeat' split) <;> simp

@[simp] theorem completeSeek_frame (x : PassAnswer) (e : Enrollment) (s : State) :
    (completeSeek x e s).power = s.power ∧ (completeSeek x e s).position = s.position ∧
    (completeSeek x e s).shaper = s.shaper ∧ (completeSeek x e s).swing = s.swing ∧
    (completeSeek x e s).walk = s.walk ∧ (completeSeek x e s).alarm = s.alarm ∧
    (completeSeek x e s).store = s.store ∧ (completeSeek x e s).tables = s.tables ∧
    (completeSeek x e s).pending = s.pending ∧ (completeSeek x e s).line.records = s.line.records ∧
    (completeSeek x e s).line.pointer = s.line.pointer ∧
    (completeSeek x e s).line.scanTimer = s.line.scanTimer ∧
    (completeSeek x e s).line.deferredStart = s.line.deferredStart ∧
    (completeSeek x e s).line.found = s.line.found ∧
    (completeSeek x e s).line.enrollWaiting = s.line.enrollWaiting ∧ (completeSeek x e s).line.finishing = s.line.finishing ∧
    (completeSeek x e s).link.drivePort = s.link.drivePort ∧
    (completeSeek x e s).link.cabState = s.link.cabState ∧
    (completeSeek x e s).link.silenceTimer = s.link.silenceTimer ∧
    (completeSeek x e s).link.holdTimer = s.link.holdTimer ∧
    (completeSeek x e s).link.lastCycle = s.link.lastCycle ∧
    (completeSeek x e s).link.lastOriginHold = s.link.lastOriginHold ∧
    (completeSeek x e s).link.drives = s.link.drives ∧
    (completeSeek x e s).mgmt.lock = s.mgmt.lock ∧ (completeSeek x e s).mgmt.key = s.mgmt.key ∧
    (completeSeek x e s).mgmt.attempts = s.mgmt.attempts ∧
    (completeSeek x e s).mgmt.restartPending = s.mgmt.restartPending ∧
    (completeSeek x e s).mgmt.outCommit = s.mgmt.outCommit ∧
    (completeSeek x e s).mgmt.seqFlag = s.mgmt.seqFlag ∧
    (completeSeek x e s).mgmt.retainedOnce = s.mgmt.retainedOnce ∧
    (completeSeek x e s).mgmt.staging = s.mgmt.staging := by unfold completeSeek; (repeat' split) <;> simp

@[simp] theorem lineStart_frame (s : State) :
    (lineStart s).power = s.power ∧ (lineStart s).link = s.link ∧
    (lineStart s).position = s.position ∧ (lineStart s).shaper = s.shaper ∧
    (lineStart s).swing = s.swing ∧ (lineStart s).walk = s.walk ∧ (lineStart s).alarm = s.alarm ∧
    (lineStart s).mgmt = s.mgmt ∧ (lineStart s).store = s.store ∧ (lineStart s).tables = s.tables ∧
    (lineStart s).pending = s.pending := by and_intros <;> rfl

@[simp] theorem stationCommitLine_frame (o : Option Transaction) (s : State) :
    (stationCommitLine o s).power = s.power ∧ (stationCommitLine o s).link = s.link ∧
    (stationCommitLine o s).position = s.position ∧ (stationCommitLine o s).swing = s.swing ∧
    (stationCommitLine o s).mgmt = s.mgmt ∧ (stationCommitLine o s).store = s.store ∧
    (stationCommitLine o s).tables = s.tables ∧ (stationCommitLine o s).pending = s.pending ∧
    (stationCommitLine o s).shaper.limits = s.shaper.limits ∧
    (stationCommitLine o s).shaper.lastRefs = s.shaper.lastRefs ∧
    (stationCommitLine o s).alarm.time = s.alarm.time ∧
    (stationCommitLine o s).alarm.bound = s.alarm.bound ∧
    (stationCommitLine o s).alarm.lastPosition = s.alarm.lastPosition ∧
    (stationCommitLine o s).alarm.lastContaining = s.alarm.lastContaining ∧
    (stationCommitLine o s).walk.usable = s.walk.usable ∧
    (stationCommitLine o s).walk.state = s.walk.state ∧ (stationCommitLine o s).walk.sub = s.walk.sub ∧
    (stationCommitLine o s).walk.transferTimer = s.walk.transferTimer ∧
    (stationCommitLine o s).walk.cam = s.walk.cam ∧
    (stationCommitLine o s).walk.stepCount = s.walk.stepCount ∧
    (stationCommitLine o s).walk.refusal = s.walk.refusal ∧
    (stationCommitLine o s).line.scanTimer = s.line.scanTimer ∧
    (stationCommitLine o s).line.enrollWaiting = s.line.enrollWaiting ∧ (stationCommitLine o s).line.finishing = o := by simp [stationCommitLine]

@[simp] theorem settleItem_frame (w : Write) (ok : Bool) (s : State) :
    (settleItem w ok s).power = s.power ∧ (settleItem w ok s).link = s.link ∧
    (settleItem w ok s).position = s.position ∧ (settleItem w ok s).shaper = s.shaper ∧
    (settleItem w ok s).swing = s.swing ∧ (settleItem w ok s).walk = s.walk ∧
    (settleItem w ok s).line = s.line ∧ (settleItem w ok s).alarm = s.alarm ∧
    (settleItem w ok s).mgmt = s.mgmt ∧ (settleItem w ok s).tables = s.tables ∧
    (settleItem w ok s).pending = s.pending := by and_intros <;> rfl

@[simp] theorem reportWrite_frame (w : Write) (ok : Bool) (s : State) :
    (reportWrite w ok s).power = s.power ∧ (reportWrite w ok s).position = s.position ∧
    (reportWrite w ok s).shaper = s.shaper ∧ (reportWrite w ok s).swing = s.swing ∧
    (reportWrite w ok s).walk = s.walk ∧ (reportWrite w ok s).line = s.line ∧
    (reportWrite w ok s).alarm = s.alarm ∧ (reportWrite w ok s).store = s.store ∧
    (reportWrite w ok s).tables = s.tables ∧ (reportWrite w ok s).pending = s.pending ∧
    (reportWrite w ok s).link.drivePort = s.link.drivePort ∧
    (reportWrite w ok s).link.cabState = s.link.cabState ∧
    (reportWrite w ok s).link.silenceTimer = s.link.silenceTimer ∧
    (reportWrite w ok s).link.holdTimer = s.link.holdTimer ∧
    (reportWrite w ok s).link.lastCycle = s.link.lastCycle ∧
    (reportWrite w ok s).link.lastOriginHold = s.link.lastOriginHold ∧
    (reportWrite w ok s).link.drives = s.link.drives ∧
    (reportWrite w ok s).mgmt.lock = s.mgmt.lock ∧ (reportWrite w ok s).mgmt.key = s.mgmt.key ∧
    (reportWrite w ok s).mgmt.attempts = s.mgmt.attempts ∧
    (reportWrite w ok s).mgmt.restartPending = s.mgmt.restartPending ∧
    (reportWrite w ok s).mgmt.outEnroll = s.mgmt.outEnroll ∧
    (reportWrite w ok s).mgmt.seqFlag = s.mgmt.seqFlag ∧
    (reportWrite w ok s).mgmt.retainedOnce = s.mgmt.retainedOnce ∧
    (reportWrite w ok s).mgmt.staging = s.mgmt.staging := by unfold reportWrite; (repeat' split) <;> simp

@[simp] theorem finishWrite_frame (ok : Bool) (s : State) :
    (finishWrite ok s).power = s.power ∧ (finishWrite ok s).position = s.position ∧
    (finishWrite ok s).swing = s.swing ∧ (finishWrite ok s).walk = s.walk ∧
    (finishWrite ok s).tables = s.tables ∧ (finishWrite ok s).pending = s.pending ∧
    (finishWrite ok s).shaper.limits = s.shaper.limits ∧
    (finishWrite ok s).shaper.lastRefs = s.shaper.lastRefs ∧
    (finishWrite ok s).line.found = s.line.found ∧
    (finishWrite ok s).line.pointer = s.line.pointer ∧
    (finishWrite ok s).line.scanTimer = s.line.scanTimer ∧
    (finishWrite ok s).line.deferredStart = s.line.deferredStart ∧
    (finishWrite ok s).line.enrollWaiting = s.line.enrollWaiting ∧ (finishWrite ok s).line.finishing = s.line.finishing ∧
    (finishWrite ok s).line.flight = s.line.flight ∧
    (finishWrite ok s).line.records.length = s.line.records.length ∧
    (finishWrite ok s).alarm.time = s.alarm.time ∧ (finishWrite ok s).alarm.bound = s.alarm.bound ∧
    (finishWrite ok s).alarm.lastPosition = s.alarm.lastPosition ∧
    (finishWrite ok s).alarm.lastContaining = s.alarm.lastContaining ∧
    (finishWrite ok s).link.drivePort = s.link.drivePort ∧
    (finishWrite ok s).link.cabState = s.link.cabState ∧
    (finishWrite ok s).link.silenceTimer = s.link.silenceTimer ∧
    (finishWrite ok s).link.holdTimer = s.link.holdTimer ∧
    (finishWrite ok s).link.lastCycle = s.link.lastCycle ∧
    (finishWrite ok s).link.lastOriginHold = s.link.lastOriginHold ∧
    (finishWrite ok s).link.drives = s.link.drives ∧ (finishWrite ok s).mgmt.lock = s.mgmt.lock ∧
    (finishWrite ok s).mgmt.key = s.mgmt.key ∧ (finishWrite ok s).mgmt.attempts = s.mgmt.attempts ∧
    (finishWrite ok s).mgmt.restartPending = s.mgmt.restartPending ∧
    (finishWrite ok s).mgmt.outEnroll = s.mgmt.outEnroll ∧
    (finishWrite ok s).mgmt.seqFlag = s.mgmt.seqFlag ∧
    (finishWrite ok s).mgmt.retainedOnce = s.mgmt.retainedOnce ∧
    (finishWrite ok s).mgmt.staging = s.mgmt.staging := by unfold finishWrite; split <;> simp

end Sys2Proof.Machine
end

