-- ==== Sys2Proof/Laws/FramesCommands.lean ====
section
/-! SUPPORT. What operations leave unchanged. Commits, starts and commands. -/

namespace Sys2Proof.Machine

@[simp] theorem dropSlots_frame (which : Nat → Bool) (s : State) :
    (dropSlots which s).power = s.power ∧ (dropSlots which s).link = s.link ∧
    (dropSlots which s).position = s.position ∧ (dropSlots which s).shaper = s.shaper ∧
    (dropSlots which s).swing = s.swing ∧ (dropSlots which s).walk = s.walk ∧
    (dropSlots which s).mgmt = s.mgmt ∧ (dropSlots which s).store = s.store ∧
    (dropSlots which s).tables = s.tables ∧ (dropSlots which s).pending = s.pending ∧
    (dropSlots which s).line.found = s.line.found ∧
    (dropSlots which s).line.pointer = s.line.pointer ∧
    (dropSlots which s).line.scanTimer = s.line.scanTimer ∧
    (dropSlots which s).line.deferredStart = s.line.deferredStart ∧
    (dropSlots which s).line.enrollWaiting = s.line.enrollWaiting ∧ (dropSlots which s).line.finishing = s.line.finishing ∧
    (dropSlots which s).line.flight = s.line.flight ∧
    (dropSlots which s).line.records.length = s.line.records.length ∧
    (dropSlots which s).alarm.time = s.alarm.time ∧
    (dropSlots which s).alarm.bound = s.alarm.bound ∧
    (dropSlots which s).alarm.lastPosition = s.alarm.lastPosition ∧
    (dropSlots which s).alarm.lastContaining = s.alarm.lastContaining ∧
    (dropSlots which s).alarm.firstOut = s.alarm.firstOut ∧
    (dropSlots which s).alarm.notices = s.alarm.notices := by
  have h := foldl_keeps (fun x => x.power = s.power ∧ x.link = s.link ∧ x.position = s.position ∧ x.shaper = s.shaper ∧ x.swing = s.swing ∧ x.walk = s.walk ∧ x.mgmt = s.mgmt ∧ x.store = s.store ∧ x.tables = s.tables ∧ x.pending = s.pending ∧ x.line.found = s.line.found ∧ x.line.pointer = s.line.pointer ∧ x.line.scanTimer = s.line.scanTimer ∧ x.line.deferredStart = s.line.deferredStart ∧ x.line.enrollWaiting = s.line.enrollWaiting ∧ x.line.finishing = s.line.finishing ∧ x.line.flight = s.line.flight ∧ x.line.records.length = s.line.records.length ∧ x.alarm.time = s.alarm.time ∧ x.alarm.bound = s.alarm.bound ∧ x.alarm.lastPosition = s.alarm.lastPosition ∧ x.alarm.lastContaining = s.alarm.lastContaining ∧ x.alarm.firstOut = s.alarm.firstOut ∧ x.alarm.notices = s.alarm.notices)
    (fun acc n => removeListed n acc)
    (by intro x d h; simp_all) ((s.alarm.list.map (·.slot)).filter which) s (by simp)
  unfold dropSlots
  simp_all

@[simp] theorem settleAlarms_frame (s : State) :
    (settleAlarms s).power = s.power ∧ (settleAlarms s).link = s.link ∧
    (settleAlarms s).position = s.position ∧ (settleAlarms s).swing = s.swing ∧
    (settleAlarms s).walk = s.walk ∧ (settleAlarms s).mgmt = s.mgmt ∧
    (settleAlarms s).store = s.store ∧ (settleAlarms s).tables = s.tables ∧
    (settleAlarms s).pending = s.pending ∧ (settleAlarms s).shaper.limits = s.shaper.limits ∧
    (settleAlarms s).shaper.lastRefs = s.shaper.lastRefs ∧
    (settleAlarms s).line.found = s.line.found ∧ (settleAlarms s).line.pointer = s.line.pointer ∧
    (settleAlarms s).line.scanTimer = s.line.scanTimer ∧
    (settleAlarms s).line.deferredStart = s.line.deferredStart ∧
    (settleAlarms s).line.enrollWaiting = s.line.enrollWaiting ∧ (settleAlarms s).line.finishing = s.line.finishing ∧
    (settleAlarms s).line.flight = s.line.flight ∧
    (settleAlarms s).line.records.length = s.line.records.length ∧
    (settleAlarms s).alarm.time = s.alarm.time ∧
    (settleAlarms s).alarm.lastPosition = s.alarm.lastPosition ∧
    (settleAlarms s).alarm.lastContaining = s.alarm.lastContaining := by simp [settleAlarms]

@[simp] theorem setOwned_frame (s : State) :
    (setOwned s).power = s.power ∧ (setOwned s).link = s.link ∧ (setOwned s).position = s.position ∧
    (setOwned s).shaper = s.shaper ∧ (setOwned s).swing = s.swing ∧ (setOwned s).walk = s.walk ∧
    (setOwned s).alarm = s.alarm ∧ (setOwned s).mgmt = s.mgmt ∧ (setOwned s).store = s.store ∧
    (setOwned s).tables = s.tables ∧ (setOwned s).pending = s.pending ∧
    (setOwned s).line.found = s.line.found ∧ (setOwned s).line.pointer = s.line.pointer ∧
    (setOwned s).line.scanTimer = s.line.scanTimer ∧
    (setOwned s).line.deferredStart = s.line.deferredStart ∧
    (setOwned s).line.enrollWaiting = s.line.enrollWaiting ∧ (setOwned s).line.finishing = s.line.finishing ∧
    (setOwned s).line.flight = s.line.flight ∧
    (setOwned s).line.records.length = s.line.records.length := by
  unfold setOwned
  refine foldl_keeps (fun x => x.power = s.power ∧ x.link = s.link ∧ x.position = s.position ∧ x.shaper = s.shaper ∧ x.swing = s.swing ∧ x.walk = s.walk ∧ x.alarm = s.alarm ∧ x.mgmt = s.mgmt ∧ x.store = s.store ∧ x.tables = s.tables ∧ x.pending = s.pending ∧ x.line.found = s.line.found ∧ x.line.pointer = s.line.pointer ∧ x.line.scanTimer = s.line.scanTimer ∧ x.line.deferredStart = s.line.deferredStart ∧ x.line.enrollWaiting = s.line.enrollWaiting ∧ x.line.finishing = s.line.finishing ∧ x.line.flight = s.line.flight ∧ x.line.records.length = s.line.records.length) _ ?_ _ s (by simp)
  intro x d h; simp_all

@[simp] theorem restoreOwned_frame (s : State) :
    (restoreOwned s).power = s.power ∧ (restoreOwned s).link = s.link ∧
    (restoreOwned s).position = s.position ∧ (restoreOwned s).shaper = s.shaper ∧
    (restoreOwned s).swing = s.swing ∧ (restoreOwned s).walk = s.walk ∧
    (restoreOwned s).alarm = s.alarm ∧ (restoreOwned s).mgmt = s.mgmt ∧
    (restoreOwned s).store = s.store ∧ (restoreOwned s).tables = s.tables ∧
    (restoreOwned s).pending = s.pending ∧ (restoreOwned s).line.found = s.line.found ∧
    (restoreOwned s).line.pointer = s.line.pointer ∧
    (restoreOwned s).line.scanTimer = s.line.scanTimer ∧
    (restoreOwned s).line.deferredStart = s.line.deferredStart ∧
    (restoreOwned s).line.enrollWaiting = s.line.enrollWaiting ∧ (restoreOwned s).line.finishing = s.line.finishing ∧
    (restoreOwned s).line.flight = s.line.flight ∧
    (restoreOwned s).line.records.length = s.line.records.length := by
  unfold restoreOwned
  refine foldl_keeps (fun x => x.power = s.power ∧ x.link = s.link ∧ x.position = s.position ∧ x.shaper = s.shaper ∧ x.swing = s.swing ∧ x.walk = s.walk ∧ x.alarm = s.alarm ∧ x.mgmt = s.mgmt ∧ x.store = s.store ∧ x.tables = s.tables ∧ x.pending = s.pending ∧ x.line.found = s.line.found ∧ x.line.pointer = s.line.pointer ∧ x.line.scanTimer = s.line.scanTimer ∧ x.line.deferredStart = s.line.deferredStart ∧ x.line.enrollWaiting = s.line.enrollWaiting ∧ x.line.finishing = s.line.finishing ∧ x.line.flight = s.line.flight ∧ x.line.records.length = s.line.records.length) _ ?_ _ s (by simp)
  intro x d h; simp_all

@[simp] theorem activate_frame (k : Kind) (i : Image) (s : State) :
    (activate k i s).power = s.power ∧ (activate k i s).link = s.link ∧
    (activate k i s).position = s.position ∧ (activate k i s).shaper = s.shaper ∧
    (activate k i s).swing = s.swing ∧ (activate k i s).walk = s.walk ∧
    (activate k i s).line = s.line ∧ (activate k i s).alarm = s.alarm ∧
    (activate k i s).store = s.store ∧ (activate k i s).pending = s.pending ∧
    (activate k i s).mgmt.lock = s.mgmt.lock ∧ (activate k i s).mgmt.key = s.mgmt.key ∧
    (activate k i s).mgmt.attempts = s.mgmt.attempts ∧
    (activate k i s).mgmt.restartPending = s.mgmt.restartPending ∧
    (activate k i s).mgmt.deferredStore = s.mgmt.deferredStore ∧
    (activate k i s).mgmt.outCommit = s.mgmt.outCommit ∧
    (activate k i s).mgmt.outEnroll = s.mgmt.outEnroll ∧
    (activate k i s).mgmt.seqFlag = s.mgmt.seqFlag ∧
    (activate k i s).mgmt.retainedOnce = s.mgmt.retainedOnce := by and_intros <;> rfl

@[simp] theorem commitAlarm_frame (i : Image) (s : State) :
    (commitAlarm i s).power = s.power ∧ (commitAlarm i s).link = s.link ∧
    (commitAlarm i s).position = s.position ∧ (commitAlarm i s).swing = s.swing ∧
    (commitAlarm i s).walk = s.walk ∧ (commitAlarm i s).store = s.store ∧
    (commitAlarm i s).pending = s.pending ∧ (commitAlarm i s).shaper.limits = s.shaper.limits ∧
    (commitAlarm i s).shaper.lastRefs = s.shaper.lastRefs ∧
    (commitAlarm i s).line.found = s.line.found ∧ (commitAlarm i s).line.pointer = s.line.pointer ∧
    (commitAlarm i s).line.scanTimer = s.line.scanTimer ∧
    (commitAlarm i s).line.deferredStart = s.line.deferredStart ∧
    (commitAlarm i s).line.enrollWaiting = s.line.enrollWaiting ∧ (commitAlarm i s).line.finishing = s.line.finishing ∧
    (commitAlarm i s).line.flight = s.line.flight ∧
    (commitAlarm i s).line.records.length = s.line.records.length ∧
    (commitAlarm i s).alarm.time = s.alarm.time ∧
    (commitAlarm i s).alarm.lastPosition = s.alarm.lastPosition ∧
    (commitAlarm i s).alarm.lastContaining = s.alarm.lastContaining ∧
    (commitAlarm i s).mgmt.lock = s.mgmt.lock ∧ (commitAlarm i s).mgmt.key = s.mgmt.key ∧
    (commitAlarm i s).mgmt.attempts = s.mgmt.attempts ∧
    (commitAlarm i s).mgmt.restartPending = s.mgmt.restartPending ∧
    (commitAlarm i s).mgmt.deferredStore = s.mgmt.deferredStore ∧
    (commitAlarm i s).mgmt.outCommit = s.mgmt.outCommit ∧
    (commitAlarm i s).mgmt.outEnroll = s.mgmt.outEnroll ∧
    (commitAlarm i s).mgmt.seqFlag = s.mgmt.seqFlag ∧
    (commitAlarm i s).mgmt.retainedOnce = s.mgmt.retainedOnce := by simp [commitAlarm]

@[simp] theorem commitSwing_frame (i : Image) (s : State) :
    (commitSwing i s).power = s.power ∧ (commitSwing i s).link = s.link ∧
    (commitSwing i s).position = s.position ∧ (commitSwing i s).walk = s.walk ∧
    (commitSwing i s).store = s.store ∧ (commitSwing i s).pending = s.pending ∧
    (commitSwing i s).shaper.limits = s.shaper.limits ∧
    (commitSwing i s).shaper.lastRefs = s.shaper.lastRefs ∧
    (commitSwing i s).line.found = s.line.found ∧ (commitSwing i s).line.pointer = s.line.pointer ∧
    (commitSwing i s).line.scanTimer = s.line.scanTimer ∧
    (commitSwing i s).line.deferredStart = s.line.deferredStart ∧
    (commitSwing i s).line.enrollWaiting = s.line.enrollWaiting ∧ (commitSwing i s).line.finishing = s.line.finishing ∧
    (commitSwing i s).line.flight = s.line.flight ∧
    (commitSwing i s).line.records.length = s.line.records.length ∧
    (commitSwing i s).alarm.time = s.alarm.time ∧
    (commitSwing i s).alarm.lastPosition = s.alarm.lastPosition ∧
    (commitSwing i s).swing.raw = s.swing.raw ∧
    (commitSwing i s).swing.heldLoad = s.swing.heldLoad ∧
    (commitSwing i s).mgmt.lock = s.mgmt.lock ∧ (commitSwing i s).mgmt.key = s.mgmt.key ∧
    (commitSwing i s).mgmt.attempts = s.mgmt.attempts ∧
    (commitSwing i s).mgmt.restartPending = s.mgmt.restartPending ∧
    (commitSwing i s).mgmt.deferredStore = s.mgmt.deferredStore ∧
    (commitSwing i s).mgmt.outCommit = s.mgmt.outCommit ∧
    (commitSwing i s).mgmt.outEnroll = s.mgmt.outEnroll ∧
    (commitSwing i s).mgmt.seqFlag = s.mgmt.seqFlag ∧
    (commitSwing i s).mgmt.retainedOnce = s.mgmt.retainedOnce := by simp [commitSwing]

@[simp] theorem commitStation_frame (i : Image) (s : State) :
    (commitStation i s).power = s.power ∧ (commitStation i s).link = s.link ∧
    (commitStation i s).position = s.position ∧ (commitStation i s).swing = s.swing ∧
    (commitStation i s).store = s.store ∧ (commitStation i s).pending = s.pending ∧
    (commitStation i s).shaper.limits = s.shaper.limits ∧
    (commitStation i s).shaper.lastRefs = s.shaper.lastRefs ∧
    (commitStation i s).alarm.time = s.alarm.time ∧
    (commitStation i s).alarm.lastPosition = s.alarm.lastPosition ∧
    (commitStation i s).alarm.lastContaining = s.alarm.lastContaining ∧
    (commitStation i s).walk.state = s.walk.state ∧ (commitStation i s).walk.sub = s.walk.sub ∧
    (commitStation i s).walk.transferTimer = s.walk.transferTimer ∧
    (commitStation i s).walk.cam = s.walk.cam ∧
    (commitStation i s).walk.stepCount = s.walk.stepCount ∧
    (commitStation i s).walk.refusal = s.walk.refusal ∧
    (commitStation i s).mgmt.lock = s.mgmt.lock ∧ (commitStation i s).mgmt.key = s.mgmt.key ∧
    (commitStation i s).mgmt.attempts = s.mgmt.attempts ∧
    (commitStation i s).mgmt.restartPending = s.mgmt.restartPending ∧
    (commitStation i s).mgmt.deferredStore = s.mgmt.deferredStore ∧
    (commitStation i s).mgmt.outCommit = s.mgmt.outCommit ∧
    (commitStation i s).mgmt.outEnroll = s.mgmt.outEnroll ∧
    (commitStation i s).mgmt.seqFlag = s.mgmt.seqFlag ∧
    (commitStation i s).mgmt.retainedOnce = s.mgmt.retainedOnce ∧
    (commitStation i s).line.scanTimer = s.line.scanTimer ∧
    (commitStation i s).line.enrollWaiting = s.line.enrollWaiting ∧ (commitStation i s).line.finishing = lineTransaction s := by simp [commitStation]

@[simp] theorem commitEffects_frame (k : Kind) (i : Image) (s : State) :
    (commitEffects k i s).power = s.power ∧ (commitEffects k i s).link = s.link ∧
    (commitEffects k i s).store = s.store ∧ (commitEffects k i s).pending = s.pending ∧
    (commitEffects k i s).shaper.limits = s.shaper.limits ∧
    (commitEffects k i s).shaper.lastRefs = s.shaper.lastRefs ∧
    (commitEffects k i s).alarm.time = s.alarm.time ∧
    (commitEffects k i s).walk.state = s.walk.state ∧ (commitEffects k i s).walk.sub = s.walk.sub ∧
    (commitEffects k i s).walk.transferTimer = s.walk.transferTimer ∧
    (commitEffects k i s).walk.cam = s.walk.cam ∧
    (commitEffects k i s).walk.stepCount = s.walk.stepCount ∧
    (commitEffects k i s).walk.refusal = s.walk.refusal ∧
    (commitEffects k i s).swing.raw = s.swing.raw ∧
    (commitEffects k i s).swing.heldLoad = s.swing.heldLoad ∧
    (commitEffects k i s).mgmt.lock = s.mgmt.lock ∧ (commitEffects k i s).mgmt.key = s.mgmt.key ∧
    (commitEffects k i s).mgmt.attempts = s.mgmt.attempts ∧
    (commitEffects k i s).mgmt.restartPending = s.mgmt.restartPending ∧
    (commitEffects k i s).mgmt.deferredStore = s.mgmt.deferredStore ∧
    (commitEffects k i s).mgmt.outCommit = s.mgmt.outCommit ∧
    (commitEffects k i s).mgmt.outEnroll = s.mgmt.outEnroll ∧
    (commitEffects k i s).mgmt.seqFlag = s.mgmt.seqFlag ∧
    (commitEffects k i s).mgmt.retainedOnce = s.mgmt.retainedOnce ∧
    (commitEffects k i s).line.scanTimer = s.line.scanTimer ∧
    (commitEffects k i s).line.enrollWaiting = s.line.enrollWaiting := by unfold commitEffects; split <;> simp

@[simp] theorem commitTable_frame (k : Kind) (i : Image) (s : State) :
    (commitTable k i s).power = s.power ∧ (commitTable k i s).link = s.link ∧
    (commitTable k i s).pending = s.pending ∧ (commitTable k i s).shaper.limits = s.shaper.limits ∧
    (commitTable k i s).shaper.lastRefs = s.shaper.lastRefs ∧
    (commitTable k i s).alarm.time = s.alarm.time ∧ (commitTable k i s).walk.state = s.walk.state ∧
    (commitTable k i s).walk.sub = s.walk.sub ∧
    (commitTable k i s).walk.transferTimer = s.walk.transferTimer ∧
    (commitTable k i s).walk.cam = s.walk.cam ∧
    (commitTable k i s).walk.stepCount = s.walk.stepCount ∧
    (commitTable k i s).walk.refusal = s.walk.refusal ∧
    (commitTable k i s).swing.raw = s.swing.raw ∧
    (commitTable k i s).swing.heldLoad = s.swing.heldLoad ∧
    (commitTable k i s).mgmt.lock = s.mgmt.lock ∧ (commitTable k i s).mgmt.key = s.mgmt.key ∧
    (commitTable k i s).mgmt.attempts = s.mgmt.attempts ∧
    (commitTable k i s).mgmt.restartPending = s.mgmt.restartPending ∧
    (commitTable k i s).mgmt.deferredStore = s.mgmt.deferredStore ∧
    (commitTable k i s).mgmt.outCommit = s.mgmt.outCommit ∧
    (commitTable k i s).mgmt.outEnroll = s.mgmt.outEnroll ∧
    (commitTable k i s).mgmt.seqFlag = s.mgmt.seqFlag ∧
    (commitTable k i s).mgmt.retainedOnce = s.mgmt.retainedOnce ∧
    (commitTable k i s).line.scanTimer = s.line.scanTimer ∧
    (commitTable k i s).line.enrollWaiting = s.line.enrollWaiting := by simp [commitTable]

@[simp] theorem enterWaiting_frame (s : State) :
    (enterWaiting s).power = s.power ∧ (enterWaiting s).position = s.position ∧
    (enterWaiting s).swing = s.swing ∧ (enterWaiting s).walk = s.walk ∧
    (enterWaiting s).line = s.line ∧ (enterWaiting s).alarm = s.alarm ∧
    (enterWaiting s).mgmt = s.mgmt ∧ (enterWaiting s).store = s.store ∧
    (enterWaiting s).tables = s.tables ∧ (enterWaiting s).pending = s.pending ∧
    (enterWaiting s).link.cabPort = s.link.cabPort ∧ (enterWaiting s).link.held = s.link.held ∧
    (enterWaiting s).link.drives = s.link.drives ∧ (enterWaiting s).shaper.gates = s.shaper.gates ∧
    (enterWaiting s).shaper.limits = s.shaper.limits := by simp [enterWaiting]

@[simp] theorem beginLine_frame (s : State) :
    (beginLine s).power = s.power ∧ (beginLine s).link = s.link ∧
    (beginLine s).position = s.position ∧ (beginLine s).shaper = s.shaper ∧
    (beginLine s).swing = s.swing ∧ (beginLine s).walk = s.walk ∧ (beginLine s).alarm = s.alarm ∧
    (beginLine s).mgmt = s.mgmt ∧ (beginLine s).store = s.store ∧ (beginLine s).tables = s.tables ∧
    (beginLine s).pending = s.pending := by simp [beginLine]

@[simp] theorem restartAlarm_frame (s : State) :
    (restartAlarm s).power = s.power ∧ (restartAlarm s).link = s.link ∧
    (restartAlarm s).position = s.position ∧ (restartAlarm s).shaper = s.shaper ∧
    (restartAlarm s).swing = s.swing ∧ (restartAlarm s).walk = s.walk ∧
    (restartAlarm s).line = s.line ∧ (restartAlarm s).mgmt = s.mgmt ∧
    (restartAlarm s).store = s.store ∧ (restartAlarm s).tables = s.tables ∧
    (restartAlarm s).pending = s.pending ∧ (restartAlarm s).alarm.time = s.alarm.time ∧
    (restartAlarm s).alarm.bound = s.alarm.bound ∧
    (restartAlarm s).alarm.firstOut = s.alarm.firstOut := by
  have h := foldl_keeps (fun x => x.power = s.power ∧ x.link = s.link ∧ x.position = s.position ∧ x.shaper = s.shaper ∧ x.swing = s.swing ∧ x.walk = s.walk ∧ x.line = s.line ∧ x.mgmt = s.mgmt ∧ x.store = s.store ∧ x.tables = s.tables ∧ x.pending = s.pending ∧ x.alarm.time = s.alarm.time ∧ x.alarm.bound = s.alarm.bound ∧ x.alarm.firstOut = s.alarm.firstOut)
    (fun acc n => logEvent .remove n acc)
    (by intro x d h; simp_all) (s.alarm.list.map (·.slot)) s (by simp)
  unfold restartAlarm
  simp_all

@[simp] theorem restartConditions_frame (s : State) :
    (restartConditions s).power = s.power ∧ (restartConditions s).link = s.link ∧
    (restartConditions s).position = s.position ∧ (restartConditions s).swing = s.swing ∧
    (restartConditions s).walk = s.walk ∧ (restartConditions s).mgmt = s.mgmt ∧
    (restartConditions s).store = s.store ∧ (restartConditions s).tables = s.tables ∧
    (restartConditions s).pending = s.pending ∧
    (restartConditions s).shaper.limits = s.shaper.limits ∧
    (restartConditions s).shaper.lastRefs = s.shaper.lastRefs ∧
    (restartConditions s).line.found = s.line.found ∧
    (restartConditions s).line.pointer = s.line.pointer ∧
    (restartConditions s).line.scanTimer = s.line.scanTimer ∧
    (restartConditions s).line.deferredStart = s.line.deferredStart ∧
    (restartConditions s).line.enrollWaiting = s.line.enrollWaiting ∧ (restartConditions s).line.finishing = s.line.finishing ∧
    (restartConditions s).line.flight = s.line.flight ∧
    (restartConditions s).line.records.length = s.line.records.length ∧
    (restartConditions s).alarm.time = s.alarm.time ∧
    (restartConditions s).alarm.bound = s.alarm.bound ∧
    (restartConditions s).alarm.lastPosition = s.alarm.lastPosition ∧
    (restartConditions s).alarm.lastContaining = s.alarm.lastContaining := by simp [restartConditions]

@[simp] theorem linkTakesRef_frame (c : Nat) (s : State) :
    (linkTakesRef c s).power = s.power ∧ (linkTakesRef c s).position = s.position ∧
    (linkTakesRef c s).swing = s.swing ∧ (linkTakesRef c s).walk = s.walk ∧
    (linkTakesRef c s).mgmt = s.mgmt ∧ (linkTakesRef c s).store = s.store ∧
    (linkTakesRef c s).tables = s.tables ∧ (linkTakesRef c s).pending = s.pending ∧
    (linkTakesRef c s).shaper.limits = s.shaper.limits ∧
    (linkTakesRef c s).shaper.lastRefs = s.shaper.lastRefs ∧
    (linkTakesRef c s).line.found = s.line.found ∧
    (linkTakesRef c s).line.pointer = s.line.pointer ∧
    (linkTakesRef c s).line.scanTimer = s.line.scanTimer ∧
    (linkTakesRef c s).line.deferredStart = s.line.deferredStart ∧
    (linkTakesRef c s).line.enrollWaiting = s.line.enrollWaiting ∧ (linkTakesRef c s).line.finishing = s.line.finishing ∧
    (linkTakesRef c s).line.flight = s.line.flight ∧
    (linkTakesRef c s).line.records.length = s.line.records.length ∧
    (linkTakesRef c s).alarm.time = s.alarm.time ∧ (linkTakesRef c s).alarm.bound = s.alarm.bound ∧
    (linkTakesRef c s).alarm.lastPosition = s.alarm.lastPosition ∧
    (linkTakesRef c s).alarm.lastContaining = s.alarm.lastContaining ∧
    (linkTakesRef c s).link.drivePort = s.link.drivePort ∧
    (linkTakesRef c s).link.cabPort = s.link.cabPort ∧
    (linkTakesRef c s).link.lastOriginHold = s.link.lastOriginHold ∧
    (linkTakesRef c s).link.held = s.link.held ∧ (linkTakesRef c s).link.drives = s.link.drives := by unfold linkTakesRef; split <;> simp

@[simp] theorem forward_frame (p : RefPayload) (x : Shaped) (s : State) :
    (forward p x s).power = s.power ∧ (forward p x s).position = s.position ∧
    (forward p x s).shaper = s.shaper ∧ (forward p x s).swing = s.swing ∧
    (forward p x s).walk = s.walk ∧ (forward p x s).line = s.line ∧
    (forward p x s).alarm = s.alarm ∧ (forward p x s).mgmt = s.mgmt ∧
    (forward p x s).store = s.store ∧ (forward p x s).tables = s.tables ∧
    (forward p x s).pending = s.pending ∧ (forward p x s).link.cabPort = s.link.cabPort ∧
    (forward p x s).link.cabState = s.link.cabState ∧
    (forward p x s).link.silenceTimer = s.link.silenceTimer ∧
    (forward p x s).link.holdTimer = s.link.holdTimer ∧
    (forward p x s).link.lastCycle = s.link.lastCycle ∧ (forward p x s).link.held = s.link.held ∧
    (forward p x s).link.drives = s.link.drives := by simp [forward]

@[simp] theorem refreshDrive_frame (m : Motion) (p : StatPayload) (s : State) :
    (refreshDrive m p s).power = s.power ∧ (refreshDrive m p s).position = s.position ∧
    (refreshDrive m p s).shaper = s.shaper ∧ (refreshDrive m p s).swing = s.swing ∧
    (refreshDrive m p s).walk = s.walk ∧ (refreshDrive m p s).line = s.line ∧
    (refreshDrive m p s).alarm = s.alarm ∧ (refreshDrive m p s).mgmt = s.mgmt ∧
    (refreshDrive m p s).store = s.store ∧ (refreshDrive m p s).tables = s.tables ∧
    (refreshDrive m p s).pending = s.pending ∧
    (refreshDrive m p s).link.drivePort = s.link.drivePort ∧
    (refreshDrive m p s).link.cabPort = s.link.cabPort ∧
    (refreshDrive m p s).link.cabState = s.link.cabState ∧
    (refreshDrive m p s).link.silenceTimer = s.link.silenceTimer ∧
    (refreshDrive m p s).link.holdTimer = s.link.holdTimer ∧
    (refreshDrive m p s).link.lastCycle = s.link.lastCycle ∧
    (refreshDrive m p s).link.lastOriginHold = s.link.lastOriginHold ∧
    (refreshDrive m p s).link.held = s.link.held := by and_intros <;> rfl

@[simp] theorem deliverTo_frame (m : Motion) (p : StatPayload) (s : State) :
    (deliverTo m p s).power = s.power ∧ (deliverTo m p s).link = s.link ∧
    (deliverTo m p s).mgmt = s.mgmt ∧ (deliverTo m p s).store = s.store ∧
    (deliverTo m p s).tables = s.tables ∧ (deliverTo m p s).pending = s.pending ∧
    (deliverTo m p s).shaper.limits = s.shaper.limits ∧
    (deliverTo m p s).shaper.lastRefs = s.shaper.lastRefs ∧
    (deliverTo m p s).line.found = s.line.found ∧ (deliverTo m p s).line.pointer = s.line.pointer ∧
    (deliverTo m p s).line.scanTimer = s.line.scanTimer ∧
    (deliverTo m p s).line.deferredStart = s.line.deferredStart ∧
    (deliverTo m p s).line.enrollWaiting = s.line.enrollWaiting ∧ (deliverTo m p s).line.finishing = s.line.finishing ∧
    (deliverTo m p s).line.flight = s.line.flight ∧
    (deliverTo m p s).line.records.length = s.line.records.length ∧
    (deliverTo m p s).alarm.time = s.alarm.time ∧ (deliverTo m p s).alarm.bound = s.alarm.bound ∧
    (deliverTo m p s).walk.usable = s.walk.usable ∧
    (deliverTo m p s).walk.refusal = s.walk.refusal ∧
    (deliverTo m p s).walk.delivered = s.walk.delivered := by unfold deliverTo; split <;> simp

@[simp] theorem silenceAt_frame (m : Motion) (s : State) :
    (silenceAt m s).power = s.power ∧ (silenceAt m s).link = s.link ∧
    (silenceAt m s).position = s.position ∧ (silenceAt m s).mgmt = s.mgmt ∧
    (silenceAt m s).store = s.store ∧ (silenceAt m s).tables = s.tables ∧
    (silenceAt m s).pending = s.pending ∧ (silenceAt m s).shaper.limits = s.shaper.limits ∧
    (silenceAt m s).shaper.lastRefs = s.shaper.lastRefs ∧
    (silenceAt m s).line.found = s.line.found ∧ (silenceAt m s).line.pointer = s.line.pointer ∧
    (silenceAt m s).line.scanTimer = s.line.scanTimer ∧
    (silenceAt m s).line.deferredStart = s.line.deferredStart ∧
    (silenceAt m s).line.enrollWaiting = s.line.enrollWaiting ∧ (silenceAt m s).line.finishing = s.line.finishing ∧
    (silenceAt m s).line.flight = s.line.flight ∧
    (silenceAt m s).line.records.length = s.line.records.length ∧
    (silenceAt m s).alarm.time = s.alarm.time ∧ (silenceAt m s).alarm.bound = s.alarm.bound ∧
    (silenceAt m s).alarm.lastPosition = s.alarm.lastPosition ∧
    (silenceAt m s).walk.usable = s.walk.usable ∧ (silenceAt m s).walk.refusal = s.walk.refusal ∧
    (silenceAt m s).walk.delivered = s.walk.delivered ∧
    (silenceAt m s).swing.clear = s.swing.clear ∧ (silenceAt m s).swing.heldLoad = s.swing.heldLoad := by unfold silenceAt; split <;> simp

@[simp] theorem enterHold_frame (s : State) :
    (enterHold s).power = s.power ∧ (enterHold s).position = s.position ∧
    (enterHold s).swing = s.swing ∧ (enterHold s).walk = s.walk ∧ (enterHold s).mgmt = s.mgmt ∧
    (enterHold s).store = s.store ∧ (enterHold s).tables = s.tables ∧
    (enterHold s).pending = s.pending ∧ (enterHold s).shaper.limits = s.shaper.limits ∧
    (enterHold s).line.found = s.line.found ∧ (enterHold s).line.pointer = s.line.pointer ∧
    (enterHold s).line.scanTimer = s.line.scanTimer ∧
    (enterHold s).line.deferredStart = s.line.deferredStart ∧
    (enterHold s).line.enrollWaiting = s.line.enrollWaiting ∧ (enterHold s).line.finishing = s.line.finishing ∧
    (enterHold s).line.flight = s.line.flight ∧
    (enterHold s).line.records.length = s.line.records.length ∧
    (enterHold s).alarm.time = s.alarm.time ∧ (enterHold s).alarm.bound = s.alarm.bound ∧
    (enterHold s).alarm.lastPosition = s.alarm.lastPosition ∧
    (enterHold s).alarm.lastContaining = s.alarm.lastContaining ∧
    (enterHold s).link.cabPort = s.link.cabPort ∧ (enterHold s).link.held = s.link.held ∧
    (enterHold s).link.drives = s.link.drives ∧ (enterHold s).link.lastCycle = s.link.lastCycle := by simp [enterHold]

@[simp] theorem fallSilent_frame (m : Motion) (s : State) :
    (fallSilent m s).power = s.power ∧ (fallSilent m s).position = s.position ∧
    (fallSilent m s).mgmt = s.mgmt ∧ (fallSilent m s).store = s.store ∧
    (fallSilent m s).tables = s.tables ∧ (fallSilent m s).pending = s.pending ∧
    (fallSilent m s).shaper.limits = s.shaper.limits ∧
    (fallSilent m s).shaper.lastRefs = s.shaper.lastRefs ∧
    (fallSilent m s).line.found = s.line.found ∧ (fallSilent m s).line.pointer = s.line.pointer ∧
    (fallSilent m s).line.scanTimer = s.line.scanTimer ∧
    (fallSilent m s).line.deferredStart = s.line.deferredStart ∧
    (fallSilent m s).line.enrollWaiting = s.line.enrollWaiting ∧ (fallSilent m s).line.finishing = s.line.finishing ∧
    (fallSilent m s).line.flight = s.line.flight ∧
    (fallSilent m s).line.records.length = s.line.records.length ∧
    (fallSilent m s).alarm.time = s.alarm.time ∧ (fallSilent m s).alarm.bound = s.alarm.bound ∧
    (fallSilent m s).alarm.lastPosition = s.alarm.lastPosition ∧
    (fallSilent m s).link.drivePort = s.link.drivePort ∧
    (fallSilent m s).link.cabPort = s.link.cabPort ∧
    (fallSilent m s).link.cabState = s.link.cabState ∧
    (fallSilent m s).link.silenceTimer = s.link.silenceTimer ∧
    (fallSilent m s).link.holdTimer = s.link.holdTimer ∧
    (fallSilent m s).link.lastCycle = s.link.lastCycle ∧
    (fallSilent m s).link.lastOriginHold = s.link.lastOriginHold ∧
    (fallSilent m s).link.held = s.link.held := by simp [fallSilent]

@[simp] theorem passOn_frame (p : Port) (f : List Byte) (s : State) :
    (passOn p f s).power = s.power ∧ (passOn p f s).position = s.position ∧
    (passOn p f s).shaper = s.shaper ∧ (passOn p f s).swing = s.swing ∧
    (passOn p f s).walk = s.walk ∧ (passOn p f s).line = s.line ∧ (passOn p f s).alarm = s.alarm ∧
    (passOn p f s).mgmt = s.mgmt ∧ (passOn p f s).store = s.store ∧
    (passOn p f s).tables = s.tables ∧ (passOn p f s).pending = s.pending ∧
    (passOn p f s).link.cabState = s.link.cabState ∧
    (passOn p f s).link.silenceTimer = s.link.silenceTimer ∧
    (passOn p f s).link.holdTimer = s.link.holdTimer ∧
    (passOn p f s).link.lastCycle = s.link.lastCycle ∧
    (passOn p f s).link.lastOriginHold = s.link.lastOriginHold ∧
    (passOn p f s).link.held = s.link.held ∧ (passOn p f s).link.drives = s.link.drives := by unfold passOn; split <;> simp

@[simp] theorem completeAt_frame (p : Port) (s : State) :
    (completeAt p s).power = s.power ∧ (completeAt p s).position = s.position ∧
    (completeAt p s).shaper = s.shaper ∧ (completeAt p s).swing = s.swing ∧
    (completeAt p s).walk = s.walk ∧ (completeAt p s).line = s.line ∧
    (completeAt p s).alarm = s.alarm ∧ (completeAt p s).mgmt = s.mgmt ∧
    (completeAt p s).store = s.store ∧ (completeAt p s).tables = s.tables ∧
    (completeAt p s).pending = s.pending ∧ (completeAt p s).link.cabState = s.link.cabState ∧
    (completeAt p s).link.silenceTimer = s.link.silenceTimer ∧
    (completeAt p s).link.holdTimer = s.link.holdTimer ∧
    (completeAt p s).link.lastCycle = s.link.lastCycle ∧
    (completeAt p s).link.lastOriginHold = s.link.lastOriginHold ∧
    (completeAt p s).link.held = s.link.held ∧ (completeAt p s).link.drives = s.link.drives := by unfold completeAt; split <;> simp

@[simp] theorem delayExpires_frame (n : Nat) (s : State) :
    (delayExpires n s).power = s.power ∧ (delayExpires n s).link = s.link ∧
    (delayExpires n s).position = s.position ∧ (delayExpires n s).swing = s.swing ∧
    (delayExpires n s).walk = s.walk ∧ (delayExpires n s).mgmt = s.mgmt ∧
    (delayExpires n s).store = s.store ∧ (delayExpires n s).tables = s.tables ∧
    (delayExpires n s).pending = s.pending ∧ (delayExpires n s).shaper.limits = s.shaper.limits ∧
    (delayExpires n s).shaper.lastRefs = s.shaper.lastRefs ∧
    (delayExpires n s).line.found = s.line.found ∧
    (delayExpires n s).line.pointer = s.line.pointer ∧
    (delayExpires n s).line.scanTimer = s.line.scanTimer ∧
    (delayExpires n s).line.deferredStart = s.line.deferredStart ∧
    (delayExpires n s).line.enrollWaiting = s.line.enrollWaiting ∧ (delayExpires n s).line.finishing = s.line.finishing ∧
    (delayExpires n s).line.flight = s.line.flight ∧
    (delayExpires n s).line.records.length = s.line.records.length ∧
    (delayExpires n s).alarm.time = s.alarm.time ∧ (delayExpires n s).alarm.bound = s.alarm.bound ∧
    (delayExpires n s).alarm.lastPosition = s.alarm.lastPosition ∧
    (delayExpires n s).alarm.lastContaining = s.alarm.lastContaining := by unfold delayExpires; (repeat' split) <;> simp

@[simp] theorem scanExpires_frame (s : State) :
    (scanExpires s).power = s.power ∧ (scanExpires s).link = s.link ∧
    (scanExpires s).position = s.position ∧ (scanExpires s).shaper = s.shaper ∧
    (scanExpires s).swing = s.swing ∧ (scanExpires s).walk = s.walk ∧
    (scanExpires s).alarm = s.alarm ∧ (scanExpires s).mgmt = s.mgmt ∧
    (scanExpires s).store = s.store ∧ (scanExpires s).tables = s.tables ∧
    (scanExpires s).pending = s.pending ∧ (scanExpires s).line.pointer = s.line.pointer ∧
    (scanExpires s).line.enrollWaiting = s.line.enrollWaiting ∧ (scanExpires s).line.finishing = s.line.finishing ∧
    (scanExpires s).line.records.length = s.line.records.length := by unfold scanExpires; split <;> simp

@[simp] theorem completeRound_frame (r : Round) (s : State) :
    (completeRound r s).power = s.power ∧ (completeRound r s).link = s.link ∧
    (completeRound r s).position = s.position ∧ (completeRound r s).swing = s.swing ∧
    (completeRound r s).mgmt = s.mgmt ∧ (completeRound r s).store = s.store ∧
    (completeRound r s).tables = s.tables ∧ (completeRound r s).pending = s.pending ∧
    (completeRound r s).shaper.limits = s.shaper.limits ∧
    (completeRound r s).shaper.lastRefs = s.shaper.lastRefs ∧
    (completeRound r s).alarm.time = s.alarm.time ∧
    (completeRound r s).alarm.bound = s.alarm.bound ∧
    (completeRound r s).alarm.lastPosition = s.alarm.lastPosition ∧
    (completeRound r s).alarm.lastContaining = s.alarm.lastContaining ∧
    (completeRound r s).walk.usable = s.walk.usable ∧ (completeRound r s).walk.cam = s.walk.cam ∧
    (completeRound r s).walk.stepCount = s.walk.stepCount ∧
    (completeRound r s).walk.refusal = s.walk.refusal ∧
    (completeRound r s).line.found = s.line.found ∧
    (completeRound r s).line.pointer = s.line.pointer ∧
    (completeRound r s).line.scanTimer = s.line.scanTimer ∧
    (completeRound r s).line.deferredStart = s.line.deferredStart ∧
    (completeRound r s).line.enrollWaiting = s.line.enrollWaiting ∧ (completeRound r s).line.finishing = s.line.finishing ∧
    (completeRound r s).line.records.length = s.line.records.length := by simp [completeRound]

@[simp] theorem writeOutputsDone_frame (x : PickedAnswer) (s : State) :
    (writeOutputsDone x s).power = s.power ∧ (writeOutputsDone x s).link = s.link ∧
    (writeOutputsDone x s).position = s.position ∧ (writeOutputsDone x s).swing = s.swing ∧
    (writeOutputsDone x s).walk = s.walk ∧ (writeOutputsDone x s).mgmt = s.mgmt ∧
    (writeOutputsDone x s).store = s.store ∧ (writeOutputsDone x s).tables = s.tables ∧
    (writeOutputsDone x s).pending = s.pending ∧
    (writeOutputsDone x s).shaper.limits = s.shaper.limits ∧
    (writeOutputsDone x s).shaper.lastRefs = s.shaper.lastRefs ∧
    (writeOutputsDone x s).alarm.time = s.alarm.time ∧
    (writeOutputsDone x s).alarm.bound = s.alarm.bound ∧
    (writeOutputsDone x s).alarm.lastPosition = s.alarm.lastPosition ∧
    (writeOutputsDone x s).alarm.lastContaining = s.alarm.lastContaining ∧
    (writeOutputsDone x s).line.scanTimer = s.line.scanTimer ∧
    (writeOutputsDone x s).line.deferredStart = s.line.deferredStart ∧
    (writeOutputsDone x s).line.enrollWaiting = s.line.enrollWaiting ∧
    (writeOutputsDone x s).line.records.length = s.line.records.length := by
  unfold writeOutputsDone completion; split
  · unfold writeOutputsRecorded; (repeat' split) <;> simp
  · split <;> simp

@[simp] theorem writeConditionDone_frame (x : ConditionAnswer) (s : State) :
    (writeConditionDone x s).power = s.power ∧ (writeConditionDone x s).link = s.link ∧
    (writeConditionDone x s).position = s.position ∧ (writeConditionDone x s).swing = s.swing ∧
    (writeConditionDone x s).walk = s.walk ∧ (writeConditionDone x s).mgmt = s.mgmt ∧
    (writeConditionDone x s).store = s.store ∧ (writeConditionDone x s).tables = s.tables ∧
    (writeConditionDone x s).pending = s.pending ∧
    (writeConditionDone x s).shaper.limits = s.shaper.limits ∧
    (writeConditionDone x s).shaper.lastRefs = s.shaper.lastRefs ∧
    (writeConditionDone x s).alarm.time = s.alarm.time ∧
    (writeConditionDone x s).alarm.bound = s.alarm.bound ∧
    (writeConditionDone x s).alarm.lastPosition = s.alarm.lastPosition ∧
    (writeConditionDone x s).alarm.lastContaining = s.alarm.lastContaining ∧
    (writeConditionDone x s).line.scanTimer = s.line.scanTimer ∧
    (writeConditionDone x s).line.deferredStart = s.line.deferredStart ∧
    (writeConditionDone x s).line.enrollWaiting = s.line.enrollWaiting ∧
    (writeConditionDone x s).line.records.length = s.line.records.length := by
  unfold writeConditionDone completion; split
  · unfold writeConditionRecorded; (repeat' split) <;> simp
  · split <;> simp

@[simp] theorem readClearingDone_frame (x : PickedAnswer) (s : State) :
    (readClearingDone x s).power = s.power ∧ (readClearingDone x s).link = s.link ∧
    (readClearingDone x s).position = s.position ∧ (readClearingDone x s).swing = s.swing ∧
    (readClearingDone x s).walk = s.walk ∧ (readClearingDone x s).mgmt = s.mgmt ∧
    (readClearingDone x s).store = s.store ∧ (readClearingDone x s).tables = s.tables ∧
    (readClearingDone x s).pending = s.pending ∧
    (readClearingDone x s).shaper.limits = s.shaper.limits ∧
    (readClearingDone x s).shaper.lastRefs = s.shaper.lastRefs ∧
    (readClearingDone x s).alarm.time = s.alarm.time ∧
    (readClearingDone x s).alarm.bound = s.alarm.bound ∧
    (readClearingDone x s).alarm.lastPosition = s.alarm.lastPosition ∧
    (readClearingDone x s).alarm.lastContaining = s.alarm.lastContaining ∧
    (readClearingDone x s).line.scanTimer = s.line.scanTimer ∧
    (readClearingDone x s).line.deferredStart = s.line.deferredStart ∧
    (readClearingDone x s).line.enrollWaiting = s.line.enrollWaiting ∧
    (readClearingDone x s).line.records.length = s.line.records.length := by
  unfold readClearingDone completion; split
  · unfold readClearingRecorded; (repeat' split) <;> simp
  · split <;> simp

@[simp] theorem seekIfDone_frame (x : PassAnswer) (s : State) :
    (seekIfDone x s).power = s.power ∧ (seekIfDone x s).link = s.link ∧
    (seekIfDone x s).position = s.position ∧ (seekIfDone x s).shaper = s.shaper ∧
    (seekIfDone x s).swing = s.swing ∧ (seekIfDone x s).walk = s.walk ∧
    (seekIfDone x s).alarm = s.alarm ∧ (seekIfDone x s).mgmt = s.mgmt ∧
    (seekIfDone x s).store = s.store ∧ (seekIfDone x s).tables = s.tables ∧
    (seekIfDone x s).pending = s.pending ∧ (seekIfDone x s).line.records = s.line.records ∧
    (seekIfDone x s).line.pointer = s.line.pointer ∧
    (seekIfDone x s).line.scanTimer = s.line.scanTimer ∧
    (seekIfDone x s).line.deferredStart = s.line.deferredStart ∧
    (seekIfDone x s).line.enrollWaiting = s.line.enrollWaiting := by
  unfold seekIfDone completion; split
  · unfold seekIfRecorded; (repeat' split) <;> simp
  · split <;> simp

@[simp] theorem seekDone_frame (x : PassAnswer) (s : State) :
    (seekDone x s).power = s.power ∧ (seekDone x s).position = s.position ∧
    (seekDone x s).shaper = s.shaper ∧ (seekDone x s).swing = s.swing ∧
    (seekDone x s).walk = s.walk ∧ (seekDone x s).alarm = s.alarm ∧ (seekDone x s).store = s.store ∧
    (seekDone x s).tables = s.tables ∧ (seekDone x s).pending = s.pending ∧
    (seekDone x s).line.records = s.line.records ∧ (seekDone x s).line.pointer = s.line.pointer ∧
    (seekDone x s).line.scanTimer = s.line.scanTimer ∧
    (seekDone x s).line.deferredStart = s.line.deferredStart ∧
    (seekDone x s).line.found = s.line.found ∧
    (seekDone x s).line.enrollWaiting = s.line.enrollWaiting ∧
    (seekDone x s).link.drivePort = s.link.drivePort ∧
    (seekDone x s).link.cabState = s.link.cabState ∧
    (seekDone x s).link.silenceTimer = s.link.silenceTimer ∧
    (seekDone x s).link.holdTimer = s.link.holdTimer ∧
    (seekDone x s).link.lastCycle = s.link.lastCycle ∧
    (seekDone x s).link.lastOriginHold = s.link.lastOriginHold ∧
    (seekDone x s).link.drives = s.link.drives ∧ (seekDone x s).mgmt.lock = s.mgmt.lock ∧
    (seekDone x s).mgmt.key = s.mgmt.key ∧ (seekDone x s).mgmt.attempts = s.mgmt.attempts ∧
    (seekDone x s).mgmt.restartPending = s.mgmt.restartPending ∧
    (seekDone x s).mgmt.outCommit = s.mgmt.outCommit ∧
    (seekDone x s).mgmt.seqFlag = s.mgmt.seqFlag ∧
    (seekDone x s).mgmt.retainedOnce = s.mgmt.retainedOnce ∧
    (seekDone x s).mgmt.staging = s.mgmt.staging := by
  unfold seekDone completion; split
  · unfold seekRecorded; (repeat' split) <;> simp
  · split <;> simp

@[simp] theorem roundDone_frame (s : State) :
    (roundDone s).power = s.power ∧ (roundDone s).link = s.link ∧
    (roundDone s).position = s.position ∧ (roundDone s).swing = s.swing ∧
    (roundDone s).mgmt = s.mgmt ∧ (roundDone s).store = s.store ∧ (roundDone s).tables = s.tables ∧
    (roundDone s).pending = s.pending ∧ (roundDone s).shaper.limits = s.shaper.limits ∧
    (roundDone s).shaper.lastRefs = s.shaper.lastRefs ∧ (roundDone s).alarm.time = s.alarm.time ∧
    (roundDone s).alarm.bound = s.alarm.bound ∧
    (roundDone s).alarm.lastPosition = s.alarm.lastPosition ∧
    (roundDone s).alarm.lastContaining = s.alarm.lastContaining ∧
    (roundDone s).walk.usable = s.walk.usable ∧ (roundDone s).walk.cam = s.walk.cam ∧
    (roundDone s).walk.stepCount = s.walk.stepCount ∧ (roundDone s).walk.refusal = s.walk.refusal ∧
    (roundDone s).line.found = s.line.found ∧ (roundDone s).line.pointer = s.line.pointer ∧
    (roundDone s).line.scanTimer = s.line.scanTimer ∧
    (roundDone s).line.deferredStart = s.line.deferredStart ∧
    (roundDone s).line.enrollWaiting = s.line.enrollWaiting ∧ (roundDone s).line.finishing = s.line.finishing ∧
    (roundDone s).line.records.length = s.line.records.length := by unfold roundDone; (repeat' split) <;> simp

end Sys2Proof.Machine
end

