-- ==== Sys2Proof/Laws/Alarms.lean ====
section
/-! SUPPORT. What the operations on alarm slots do (R142 to R148), each said once: which slots they write,
what they leave of the list and the records, and that they reach nothing else. -/

namespace Sys2Proof.Machine

/-! ### Slots -/

theorem slotOf_setSlot_same {n : Nat} {x : Slot} {s : State} (h : n < s.alarm.slots.length) :
    slotOf (setSlot n x s) n = x := by
  simp [slotOf, setSlot, h]

theorem slotOf_setSlot_other {n m : Nat} {x : Slot} {s : State} (h : m ≠ n) :
    slotOf (setSlot n x s) m = slotOf s m := by
  simp [slotOf, setSlot, List.getElem?_set, h.symm]

/-- Beyond the slots there is nothing to write. -/
theorem setSlot_beyond {n : Nat} {x : Slot} {s : State} (h : s.alarm.slots.length ≤ n) :
    (setSlot n x s).alarm.slots = s.alarm.slots := by
  simp [setSlot, List.set_eq_of_length_le h]

theorem slotOf_congr {s t : State} (h : t.alarm.slots = s.alarm.slots) (n : Nat) :
    slotOf t n = slotOf s n := by simp [slotOf, h]

theorem setSlot_slots_length (n : Nat) (x : Slot) (s : State) :
    (setSlot n x s).alarm.slots.length = s.alarm.slots.length := by simp [setSlot]

/-! ### Desired outputs -/

/-- Setting a desired output changes no other part of any live record (R128). -/
@[simp] theorem setDesired_undesired (b : Binding) (v : Bool) (s : State) :
    (setDesired b v s).line.records.map undesired = s.line.records.map undesired := by
  simp only [setDesired, updateRecord, State.withLine_line]
  apply List.ext_getElem?
  intro i
  simp only [List.getElem?_map, List.getElem?_modify]
  split <;> simp only [Option.map_eq_map, Option.map_map] <;> rfl

@[simp] theorem updateOutput_undesired (o : Option Binding) (before : Bool) (s : State) :
    (updateOutput o before s).line.records.map undesired = s.line.records.map undesired := by
  unfold updateOutput; split
  · rfl
  · split <;> simp

@[simp] theorem raiseSlot_undesired (n : Nat) (a : Attrs) (s : State) :
    (raiseSlot n a s).line.records.map undesired = s.line.records.map undesired := by
  simp only [raiseSlot, updateOutput_undesired]
  (repeat' split) <;> simp

@[simp] theorem removeEntry_undesired (n : Nat) (a : Attrs) (s : State) :
    (removeEntry n a s).line.records.map undesired = s.line.records.map undesired := by
  simp [removeEntry]

@[simp] theorem evaluate_undesired (n : Nat) (v : Bool) (s : State) :
    (evaluate n v s).line.records.map undesired = s.line.records.map undesired := by
  simp only [evaluate, returnEntry]
  (repeat' split) <;> simp

/-- A line that keeps all but its records. -/
theorem StationLine.eq_of_records {l l' : StationLine} (h1 : l'.found = l.found)
    (h2 : l'.pointer = l.pointer) (h3 : l'.scanTimer = l.scanTimer)
    (h4 : l'.deferredStart = l.deferredStart) (h5 : l'.enrollWaiting = l.enrollWaiting)
    (h6 : l'.flight = l.flight) (h7 : l'.finishing = l.finishing) : l' = { l with records := l'.records } := by
  cases l; cases l'; simp_all

/-- Evaluating a condition reaches the alarm unit, gates and desired outputs alone. -/
theorem evaluate_alarmsOnly (n : Nat) (v : Bool) (s : State) : AlarmsOnly s (evaluate n v s) := by
  refine ⟨?_, ?_, ?_, ?_, ?_, ?_, ?_, ?_, ?_, ?_, ?_,
    StationLine.eq_of_records ?_ ?_ ?_ ?_ ?_ ?_ ?_, ?_, ?_, ?_, ?_, ?_⟩ <;> simp

/-! ### The condition an evaluation stores -/

theorem raiseSlot_slots (n : Nat) (a : Attrs) (s : State) :
    (raiseSlot n a s).alarm.slots = s.alarm.slots.set n { slotOf s n with delay := none } := by
  simp only [raiseSlot]
  (repeat' split) <;> simp [setSlot, slotOf]

/-- What an evaluation leaves of the slots: its own slot changes, no other does. -/
theorem evaluate_slots_other {n m : Nat} (v : Bool) (s : State) (h : m ≠ n) :
    slotOf (evaluate n v s) m = slotOf s m := by
  simp only [evaluate, returnEntry, reassert]
  (repeat' split) <;>
    simp [slotOf, raiseSlot_slots, setSlot, List.getElem?_set, h.symm]

@[simp] theorem evaluate_slots_length (n : Nat) (v : Bool) (s : State) :
    (evaluate n v s).alarm.slots.length = s.alarm.slots.length := by
  simp only [evaluate, returnEntry, reassert]
  (repeat' split) <;> simp [raiseSlot_slots, setSlot]

/-- An evaluation stores the condition of a slot that has attributes (R142). -/
theorem evaluate_condition {n : Nat} (v : Bool) {s : State} {a : Attrs} (ha : attrsOf s n = some a)
    (h : n < s.alarm.slots.length) : (slotOf (evaluate n v s) n).condition = v := by
  simp only [evaluate, ha, returnEntry, reassert]
  (repeat' split) <;> simp_all [slotOf, raiseSlot_slots, setSlot]

/-- The same of an internal slot. -/
theorem evaluate_condition_internal {n : Nat} (v : Bool) {s : State} (hn : n < 12)
    (h : n < s.alarm.slots.length) : (slotOf (evaluate n v s) n).condition = v :=
  evaluate_condition v (a := internalSlot n) (by simp [attrsOf, hn]) h

/-- Storing false needs no slot: a slot that is not there reads as IDLE. -/
theorem evaluate_false_condition {n : Nat} {s : State} (hn : n < 12) :
    (slotOf (evaluate n false s) n).condition = false := by
  by_cases h : n < s.alarm.slots.length
  · exact evaluate_condition_internal false hn h
  · have : s.alarm.slots.length ≤ n := by omega
    have h2 : (evaluate n false s).alarm.slots.length ≤ n := by simpa using this
    simp [slotOf, List.getElem?_eq_none h2, Slot.start]

/-- An evaluation fills an empty first-out record at most at a raise (R149): never when false. -/
theorem evaluate_false_firstOut (n : Nat) (s : State) :
    (evaluate n false s).alarm.firstOut = s.alarm.firstOut := by
  simp only [evaluate, returnEntry]
  (repeat' split) <;> simp_all

/-- Loaded sources reach no internal slot. -/
theorem evaluateBound_internal {value : AlarmDef → Bool → Option Bool} {n : Nat} (h : n < 12)
    (s : State) : slotOf (evaluateBound value s) n = slotOf s n := by
  have := foldl_keeps (α := AlarmDef × Nat) (fun x => slotOf x n = slotOf s n)
    (fun acc (d, k) =>
      if acc.alarm.bound.getD k false then
        match value d (slotOf acc (12 + k)).condition with
        | some v => evaluate (12 + k) v acc
        | none => acc
      else acc)
    (by
      intro x d hx
      dsimp only
      split
      · split
        · rw [evaluate_slots_other _ _ (by omega), hx]
        · exact hx
      · exact hx)
    (definitionsOf s).zipIdx s rfl
  exact this

@[simp] theorem evaluateBound_slots_length (value : AlarmDef → Bool → Option Bool) (s : State) :
    (evaluateBound value s).alarm.slots.length = s.alarm.slots.length := by
  refine foldl_keeps (fun x => x.alarm.slots.length = s.alarm.slots.length) _ ?_ _ s rfl
  intro x d hx
  dsimp only
  split
  · split
    · simpa using hx
    · exact hx
  · exact hx

@[simp] theorem evaluateBound_undesired (value : AlarmDef → Bool → Option Bool) (s : State) :
    (evaluateBound value s).line.records.map undesired = s.line.records.map undesired := by
  refine foldl_keeps (fun x => x.line.records.map undesired = s.line.records.map undesired) _ ?_ _ s rfl
  intro x d hx
  dsimp only
  split
  · split
    · simpa using hx
    · exact hx
  · exact hx

/-- One step of `evaluateBound`: the definition of slot 12 + k, if it is bound and has a value. -/
theorem evaluateBound_step {value : AlarmDef → Bool → Option Bool} {defs : List AlarmDef} (n : Nat) :
    ∀ (l : List AlarmDef) (m : Nat) (s : State), definitionsOf s = defs → (∀ i, l[i]? = defs[m + i]?) →
      12 + n < s.alarm.slots.length →
      (slotOf ((l.zipIdx m).foldl (fun acc (d, k) =>
          if acc.alarm.bound.getD k false then
            match value d (slotOf acc (12 + k)).condition with
            | some v => evaluate (12 + k) v acc
            | none => acc
          else acc) s) (12 + n)).condition
        = if m ≤ n then
            match l[n - m]? with
            | some d =>
              if s.alarm.bound.getD n false then
                (value d (slotOf s (12 + n)).condition).getD (slotOf s (12 + n)).condition
              else (slotOf s (12 + n)).condition
            | none => (slotOf s (12 + n)).condition
          else (slotOf s (12 + n)).condition := by
  intro l
  induction l with
  | nil => intro m s _ _ _; simp
  | cons d l ih =>
    intro m s hd hl hn
    rw [List.zipIdx_cons, List.foldl_cons]
    have hm : defs[m]? = some d := by simpa using (hl 0).symm
    have hl' : ∀ i, l[i]? = defs[m + 1 + i]? := by
      intro i; have := hl (i + 1); rw [List.getElem?_cons_succ] at this
      rw [this]; congr 1; omega
    set x := (if s.alarm.bound.getD m false then
        match value d (slotOf s (12 + m)).condition with
        | some v => evaluate (12 + m) v s
        | none => s
      else s) with hx
    have hxd : definitionsOf x = defs := by
      rw [← hd, hx]; split
      · split <;> simp [definitionsOf]
      · rfl
    have hxb : x.alarm.bound = s.alarm.bound := by
      rw [hx]; split
      · split <;> simp
      · rfl
    have hxl : x.alarm.slots.length = s.alarm.slots.length := by
      rw [hx]; split
      · split <;> simp
      · rfl
    have hxo : n ≠ m → slotOf x (12 + n) = slotOf s (12 + n) := by
      intro hnm; rw [hx]; split
      · split
        · exact evaluate_slots_other _ _ (by omega)
        · rfl
      · rfl
    have hxe : n = m → (slotOf x (12 + n)).condition
        = if s.alarm.bound.getD n false then
            (value d (slotOf s (12 + n)).condition).getD (slotOf s (12 + n)).condition
          else (slotOf s (12 + n)).condition := by
      rintro rfl; rw [hx]
      split
      · split
        · rename_i v hv
          rw [hv, evaluate_condition (a := d.attrs) v (by simp [attrsOf, hd, hm]) hn]; rfl
        · rename_i hv; simp [hv]
      · rfl
    refine (ih (m + 1) x hxd hl' (by omega)).trans ?_
    simp only [hxb]
    by_cases h : n = m
    · subst h
      simp only [show ¬ n + 1 ≤ n by omega, if_false, le_refl, if_true, Nat.sub_self,
        List.getElem?_cons_zero]
      exact hxe rfl
    · rw [hxo h]
      by_cases hlt : m < n
      · have e : n - m = (n - (m + 1)) + 1 := by omega
        simp only [show m + 1 ≤ n by omega, show m ≤ n by omega, if_true, e, List.getElem?_cons_succ]
      · simp [show ¬ m + 1 ≤ n by omega, show ¬ m ≤ n by omega]

/-- What the evaluation of the bound sources leaves as the condition of a loaded slot (R139 to R141):
the value of a bound definition that has one, and otherwise the condition as it was. -/
theorem evaluateBound_condition (value : AlarmDef → Bool → Option Bool) {s : State} {k : Nat}
    (h : 12 + k < s.alarm.slots.length) :
    (slotOf (evaluateBound value s) (12 + k)).condition
      = match (definitionsOf s)[k]? with
        | some d =>
          if s.alarm.bound.getD k false then
            (value d (slotOf s (12 + k)).condition).getD (slotOf s (12 + k)).condition
          else (slotOf s (12 + k)).condition
        | none => (slotOf s (12 + k)).condition := by
  have := evaluateBound_step (value := value) k (definitionsOf s) 0 s rfl (by simp) h
  refine this.trans ?_
  simp only [Nat.zero_le, if_true, Nat.sub_zero]

/-! ### What a raise and a removal do, whole -/

/-- The first-out record after a raise (R149). -/
def firstOutAfter (n : Nat) (cls : AlarmClass) (s : State) : Option FirstOut :=
  if (cls = .stop ∨ cls = .trip) ∧ s.alarm.firstOut = none then
    some { slot := n, time := s.alarm.time, status := s.position.status, reach := s.position.reach
           height := s.position.height, zone := s.position.zone, angle := s.swing.corrected
           seqState := s.walk.state, sub := s.walk.sub, refs := s.shaper.lastRefs }
  else s.alarm.firstOut

@[simp] theorem updateOutput_alarm (o : Option Binding) (b : Bool) (s : State) :
    (updateOutput o b s).alarm = s.alarm := by
  simp only [updateOutput]; (repeat' split) <;> simp

@[simp] theorem updateOutput_shaper (o : Option Binding) (b : Bool) (s : State) :
    (updateOutput o b s).shaper = s.shaper := by
  simp only [updateOutput]; (repeat' split) <;> simp [setDesired, updateRecord]

/-- Everything a raise does to the alarm unit (R144). -/
theorem raiseSlot_alarm (n : Nat) (a : Attrs) (s : State) :
    (raiseSlot n a s).alarm = { s.alarm with
      slots := s.alarm.slots.set n { slotOf s n with delay := none }
      list := s.alarm.list ++ [{ slot := n, state := .raisedUnack, time := s.alarm.time }]
      firstOut := firstOutAfter n a.cls s
      notices := if a.notify = true ∧ s.alarm.notices.length < 8 then s.alarm.notices ++ [n]
        else s.alarm.notices
      log := (logEvent .raise n s).alarm.log
      nextSeq := s.alarm.nextSeq + 1 } := by
  simp only [raiseSlot, updateOutput_alarm]
  have hf : ∀ x : State, (captureFirstOut n a.cls x).alarm
      = { x.alarm with firstOut := firstOutAfter n a.cls x } := by
    intro x; unfold captureFirstOut firstOutAfter
    by_cases h : (a.cls = .stop ∨ a.cls = .trip) ∧ x.alarm.firstOut = none
    · rw [if_pos (by simpa using h), if_pos h]; rfl
    · rw [if_neg (by simpa using h), if_neg h]
  have hg : ∀ w (x : State), (closeGates w x).alarm = x.alarm := fun _ _ => rfl
  have hc : ∀ x : State, (if a.cls == AlarmClass.trip then closeGates allMotions x else x).alarm
      = x.alarm := by intro x; split <;> simp [hg]
  have hq : ∀ x : State, (if a.notify then queueNotice n x else x).alarm = { x.alarm with
      notices := if a.notify = true ∧ x.alarm.notices.length < 8 then x.alarm.notices ++ [n]
        else x.alarm.notices } := by
    intro x; unfold queueNotice noticeCap
    by_cases h1 : a.notify = true <;> by_cases h2 : x.alarm.notices.length < 8 <;> simp [h1, h2]
  rw [hq, hc, hf]
  simp [firstOutAfter, setSlot, logEvent, slotOf]

/-- The gates after a raise: all closed by a TRIP (R57, R144). -/
theorem raiseSlot_shaper (n : Nat) (a : Attrs) (s : State) :
    (raiseSlot n a s).shaper = { s.shaper with
      gates := if a.cls = .trip then ⟨.gated, .gated, .gated, .gated⟩ else s.shaper.gates } := by
  simp only [raiseSlot, updateOutput_shaper]
  by_cases h : a.cls = .trip <;> simp only [h] <;> (repeat' split) <;>
    simp_all [queueNotice, closeGates, captureFirstOut, setSlot, logEvent, allMotions] <;>
    (repeat' split) <;> simp_all

/-- Everything a removal does to the alarm unit (R145). -/
theorem removeEntry_alarm (n : Nat) (a : Attrs) (s : State) :
    (removeEntry n a s).alarm = { s.alarm with
      list := s.alarm.list.filter (·.slot != n)
      log := (logEvent .remove n s).alarm.log
      nextSeq := s.alarm.nextSeq + 1 } := by
  simp [removeEntry, logEvent]

@[simp] theorem removeEntry_shaper (n : Nat) (a : Attrs) (s : State) :
    (removeEntry n a s).shaper = s.shaper := by simp [removeEntry, logEvent]

theorem internalSlot_output (n : Nat) : (internalSlot n).output = none := by
  unfold internalSlot; split <;> rfl
theorem internalSlot_delay (n : Nat) : (internalSlot n).delay = 0 := by
  unfold internalSlot; split <;> rfl
theorem internalSlot_not_trip {n : Nat} (h : n ≠ 8) : (internalSlot n).cls ≠ .trip := by
  unfold internalSlot; split <;> simp_all [internalAttrs]

theorem attrsOf_internal {n : Nat} (s : State) (h : n < 12) : attrsOf s n = some (internalSlot n) := by
  simp [attrsOf, h]

/-- An internal slot has no output: its evaluation reaches no station. -/
theorem evaluate_internal_line {n : Nat} (v : Bool) (s : State) (h : n < 12) :
    (evaluate n v s).line = s.line := by
  simp only [evaluate, attrsOf_internal s h, internalSlot_delay]
  (repeat' split) <;>
    simp_all [raiseSlot, removeEntry, returnEntry, reassert, internalSlot_output, updateOutput, setSlot,
      setEntryState, logEvent] <;>
    (repeat' split) <;> simp_all [queueNotice, captureFirstOut] <;>
    (repeat' split) <;> simp_all

/-- Only the internal slot of class TRIP closes gates. -/
theorem evaluate_internal_shaper {n : Nat} (v : Bool) (s : State) (h : n < 12) (h8 : n ≠ 8) :
    (evaluate n v s).shaper = s.shaper := by
  simp only [evaluate, attrsOf_internal s h, internalSlot_delay, returnEntry, reassert]
  (repeat' split) <;> simp [raiseSlot_shaper, internalSlot_not_trip h8, setSlot, setEntryState, logEvent]

/-- A false evaluation closes no gate. -/
theorem evaluate_false_shaper (n : Nat) (s : State) : (evaluate n false s).shaper = s.shaper := by
  simp only [evaluate, returnEntry]
  (repeat' split) <;> simp_all [setSlot, setEntryState, logEvent]

end Sys2Proof.Machine
end

