-- ==== Sys2Proof/Laws/AlarmsKept.lean ====
section
/-! SUPPORT. Every operation on the alarm unit keeps it as R134, R142, R144, R151 and R154 have it. -/

namespace Sys2Proof.Machine

/-! ### What every operation keeps of the alarm unit (R134, R142, R144, R151, R154) -/

theorem alarmInv_congr {s t : State} (h : AlarmInv s) (ha : t.alarm = s.alarm) : AlarmInv t := by
  simpa [AlarmInv, ha, slotOf, entryOf] using h

/-- An alarm unit that differs in none of what AlarmInv speaks of. -/
theorem alarmInv_congr_fields {s t : State} (h : AlarmInv s) (h1 : t.alarm.slots = s.alarm.slots)
    (h2 : t.alarm.list = s.alarm.list) (h3 : t.alarm.notices.length ≤ 8)
    (h4 : t.alarm.log.length ≤ 256) : AlarmInv t := by
  obtain ⟨a, b, c, -, -, f⟩ := h
  refine ⟨by rw [h1, a], by rw [h2]; exact b, by rw [h2]; exact c, h3, h4, ?_⟩
  simpa [slotOf, entryOf, h1, h2] using f

theorem logEvent_length {kind : LogKind} {n : Nat} {s : State} (h : s.alarm.log.length ≤ 256) :
    (logEvent kind n s).alarm.log.length ≤ 256 := by
  by_cases hl : s.alarm.log.length < 256 <;> simp [logEvent, logCap, hl] <;> omega

theorem alarmInv_logEvent {s : State} (h : AlarmInv s) (kind : LogKind) (n : Nat) :
    AlarmInv (logEvent kind n s) :=
  alarmInv_congr_fields h rfl rfl (by simpa [logEvent] using h.2.2.2.1) (logEvent_length h.2.2.2.2.1)

theorem entryOf_none {s : State} {n : Nat} : entryOf s n = none ↔ ∀ e ∈ s.alarm.list, e.slot ≠ n := by
  simp [entryOf]

theorem entryOf_some_slot {s : State} {n : Nat} {e : Entry} (h : entryOf s n = some e) :
    e.slot = n := by
  have := List.find?_some h; simpa using this

theorem entryOf_mem {s : State} {n : Nat} {e : Entry} (h : entryOf s n = some e) :
    e ∈ s.alarm.list := List.mem_of_find?_eq_some h

/-- A raise of a slot without an entry, its condition true, keeps the alarm unit as it must be. -/
theorem alarmInv_raiseSlot {s : State} {n : Nat} (hslots : s.alarm.slots.length = 64) (hn : n < 64)
    (hnodup : (s.alarm.list.map (·.slot)).Nodup) (hlist : ∀ e ∈ s.alarm.list, e.slot < 64)
    (hnot : s.alarm.notices.length ≤ 8) (hlog : s.alarm.log.length ≤ 256)
    (hfit : ∀ m, m < 64 → m ≠ n → SlotFits (slotOf s m) (entryOf s m))
    (hnone : entryOf s n = none) (hcond : (slotOf s n).condition = true) (a : Attrs) :
    AlarmInv (raiseSlot n a s) := by
  have hr := raiseSlot_alarm n a s
  have hentry : ∀ m, entryOf (raiseSlot n a s) m
      = if m = n then some { slot := n, state := .raisedUnack, time := s.alarm.time }
        else entryOf s m := by
    intro m
    simp only [entryOf, hr, List.find?_append]
    by_cases hm : m = n
    · subst hm
      have : List.find? (fun x => x.slot == m) s.alarm.list = none := hnone
      simp [this]
    · simp [hm, Ne.symm hm]
  refine ⟨by simp [hr, hslots], ?_, ?_, ?_, ?_, ?_⟩
  · rw [hr]
    simp only [List.map_append, List.map_cons, List.map_nil]
    refine List.nodup_append.2 ⟨hnodup, by simp, ?_⟩
    intro x hx y hy
    simp only [List.mem_map] at hx
    obtain ⟨e, he, rfl⟩ := hx
    simp at hy; subst hy
    exact entryOf_none.1 hnone e he
  · rw [hr]
    intro e he
    simp only [List.mem_append, List.mem_singleton] at he
    rcases he with he | rfl
    · exact hlist e he
    · exact hn
  · rw [hr]; dsimp only; split
    · simp; omega
    · exact hnot
  · rw [hr]; exact logEvent_length hlog
  · intro m hm
    have hs : slotOf (raiseSlot n a s) m
        = if m = n then { slotOf s n with delay := none } else slotOf s m := by
      simp only [slotOf, hr, List.getD_eq_getElem?_getD, List.getElem?_set]
      by_cases h : n = m
      · subst h; simp [hslots, hm, slotOf]
      · simp [h, Ne.symm h]
    rw [hentry, hs]
    split
    · rename_i h; subst h; simp [SlotFits, hcond]
    · rename_i h; exact hfit m hm h

/-- A removal of an entry whose slot is left false and without a timer. -/
theorem alarmInv_removeEntry {s : State} {n : Nat} (hslots : s.alarm.slots.length = 64)
    (hnodup : (s.alarm.list.map (·.slot)).Nodup) (hlist : ∀ e ∈ s.alarm.list, e.slot < 64)
    (hnot : s.alarm.notices.length ≤ 8) (hlog : s.alarm.log.length ≤ 256)
    (hfit : ∀ m, m < 64 → m ≠ n → SlotFits (slotOf s m) (entryOf s m))
    (hslot : (slotOf s n).condition = (slotOf s n).delay.isSome) (a : Attrs) :
    AlarmInv (removeEntry n a s) := by
  have hr := removeEntry_alarm n a s
  have hsl : ∀ m, slotOf (removeEntry n a s) m = slotOf s m := by intro m; simp [slotOf, hr]
  have hentry : ∀ m, entryOf (removeEntry n a s) m = if m = n then none else entryOf s m := by
    intro m
    simp only [entryOf, hr, List.find?_filter]
    by_cases hm : m = n
    · subst hm; simp
    · rw [if_neg hm]; congr 1; funext e
      by_cases h : e.slot = m <;> simp [h, hm]
  refine ⟨by simp [hr, hslots], ?_, ?_, ?_, ?_, ?_⟩
  · rw [hr]; exact hnodup.sublist (List.filter_sublist.map _)
  · rw [hr]; intro e he; exact hlist e (List.mem_of_mem_filter he)
  · rw [hr]; exact hnot
  · rw [hr]; exact logEvent_length hlog
  · intro m hm
    rw [hentry, hsl]
    split
    · rename_i h; subst h; simpa [SlotFits] using hslot
    · rename_i h; exact hfit m hm h

/-- A change of an entry's state that fits its slot's condition. -/
theorem alarmInv_setEntryState {s : State} {n : Nat} {x : EntryState}
    (hslots : s.alarm.slots.length = 64) (hnodup : (s.alarm.list.map (·.slot)).Nodup)
    (hlist : ∀ e ∈ s.alarm.list, e.slot < 64)
    (hnot : s.alarm.notices.length ≤ 8) (hlog : s.alarm.log.length ≤ 256)
    (hfit : ∀ m, m < 64 → m ≠ n → SlotFits (slotOf s m) (entryOf s m))
    (hsome : (entryOf s n).isSome = true) (hdelay : (slotOf s n).delay = none)
    (hslot : (slotOf s n).condition = true ↔ x ≠ .returnedUnack) :
    AlarmInv (setEntryState n x s) := by
  have hentry : ∀ m, entryOf (setEntryState n x s) m
      = (entryOf s m).map fun e => if e.slot == n then { e with state := x } else e := by
    intro m
    simp only [entryOf, setEntryState, State.withAlarm_alarm, List.find?_map]
    congr 2; funext e; simp only [Function.comp]; split <;> rfl
  have hmap : ((setEntryState n x s).alarm.list.map (·.slot)) = s.alarm.list.map (·.slot) := by
    simp only [setEntryState, State.withAlarm_alarm, List.map_map]
    congr 1; funext e; simp only [Function.comp]; split <;> rfl
  refine ⟨hslots, by rw [hmap]; exact hnodup, ?_, hnot, hlog, ?_⟩
  · intro e he
    have : e.slot ∈ s.alarm.list.map (·.slot) := by rw [← hmap]; exact List.mem_map_of_mem he
    obtain ⟨e', he', h⟩ := List.mem_map.1 this
    rw [← h]; exact hlist e' he'
  · intro m hm
    rw [hentry]
    show SlotFits (slotOf s m) _
    by_cases h : m = n
    · subst h
      obtain ⟨e, he⟩ := Option.isSome_iff_exists.1 hsome
      simp [he, entryOf_some_slot he, SlotFits, hdelay, hslot]
    · have := hfit m hm h
      cases he : entryOf s m with
      | none => simpa [he] using this
      | some e =>
        have hne : e.slot ≠ n := by rw [entryOf_some_slot he]; exact h
        simpa [he, hne] using this

/-- Every evaluation of a slot keeps the alarm unit as it must be. -/
theorem alarmInv_evaluate {s : State} (h : AlarmInv s) {n : Nat} (hn : n < 64) (v : Bool) :
    AlarmInv (evaluate n v s) := by
  obtain ⟨hslots, hnodup, hlist, hnot, hlog, hfit⟩ := h
  have hlt : n < s.alarm.slots.length := by omega
  have hfn := hfit n hn
  have keep : ∀ (y : Slot) m, m ≠ n → slotOf (setSlot n y s) m = slotOf s m :=
    fun y m hm => slotOf_setSlot_other hm
  have same : ∀ y : Slot, slotOf (setSlot n y s) n = y := fun y => slotOf_setSlot_same hlt
  have fitk : ∀ (y : Slot) m, m < 64 → m ≠ n →
      SlotFits (slotOf (setSlot n y s) m) (entryOf (setSlot n y s) m) := by
    intro y m hm hmn; rw [keep y m hmn]; exact hfit m hm
  have whole : ∀ y : Slot, SlotFits y (entryOf s n) → AlarmInv (setSlot n y s) := by
    intro y hy
    refine ⟨by simp [setSlot, hslots], hnodup, hlist, hnot, hlog, ?_⟩
    intro m hm
    by_cases hmn : m = n
    · subst hmn; rw [same]; exact hy
    · exact fitk y m hm hmn
  have hsl : ∀ y : Slot, (setSlot n y s).alarm.slots.length = 64 := by
    intro y; rw [setSlot_slots_length, hslots]
  unfold evaluate
  split
  · exact ⟨hslots, hnodup, hlist, hnot, hlog, hfit⟩
  · rename_i a ha
    dsimp only
    split
    · rename_i e he
      rw [he] at hfn
      obtain ⟨hd, hc⟩ := hfn
      split
      · -- true
        rename_i hv
        unfold reassert; split
        · apply alarmInv_setEntryState (hsl _) hnodup hlist hnot hlog (fitk _)
          · show (entryOf s n).isSome = true; simp [he]
          · rw [same]; exact hd
          · rw [same]; simp [hv]
        · rename_i hs; apply whole; rw [he]; simp [SlotFits, hd, hs, hv]
        · rename_i hs; apply whole; rw [he]; simp [SlotFits, hd, hs, hv]
      · rename_i hv
        have hv' : v = false := by simpa using hv
        unfold returnEntry; split
        · split
          · refine alarmInv_setEntryState (s := logEvent .return' n (setSlot n _ s)) (hsl _) hnodup hlist
              hnot (logEvent_length hlog) (fitk _) ?_ ?_ ?_
            · show (entryOf s n).isSome = true; simp [he]
            · show (slotOf (setSlot n _ s) n).delay = none; rw [same]; exact hd
            · show (slotOf (setSlot n _ s) n).condition = true ↔ _; rw [same]; simp [hv']
          · refine alarmInv_removeEntry (s := logEvent .return' n (setSlot n _ s)) (hsl _) hnodup hlist hnot
              (logEvent_length hlog) (fitk _) ?_ a
            show (slotOf (setSlot n _ s) n).condition = (slotOf (setSlot n _ s) n).delay.isSome
            rw [same]; simp [hv', hd]
        · refine alarmInv_removeEntry (s := logEvent .return' n (setSlot n _ s)) (hsl _) hnodup hlist hnot
            (logEvent_length hlog) (fitk _) ?_ a
          show (slotOf (setSlot n _ s) n).condition = (slotOf (setSlot n _ s) n).delay.isSome
          rw [same]; simp [hv', hd]
        · rename_i hs; apply whole; rw [he]; simp [SlotFits, hd, hs, hv']
    · rename_i he
      split
      · rename_i hv
        split
        · rename_i hd; apply whole; rw [he]; simp [SlotFits, hv, hd]
        · split
          · refine alarmInv_raiseSlot (hsl _) hn hnodup hlist hnot hlog (fitk _) he ?_ a
            rw [same]; exact hv
          · have : setSlot n { condition := true, delay := some a.delay }
                (setSlot n { slotOf s n with condition := v } s)
                = setSlot n { condition := true, delay := some a.delay } s := by
              simp [setSlot]
            rw [this]; apply whole; rw [he]; simp [SlotFits]
      · have : setSlot n { condition := false, delay := none }
                (setSlot n { slotOf s n with condition := v } s)
                = setSlot n { condition := false, delay := none } s := by
              simp [setSlot]
        rw [this]; apply whole; rw [he]; simp [SlotFits]

/-- A slot set back to its start, its entry removed first if it has one (R138, R157). -/
theorem alarmInv_resetSlot {s : State} (h : AlarmInv s) {n : Nat} (hn : n < 64) :
    AlarmInv (resetSlot n s) := by
  obtain ⟨hslots, hnodup, hlist, hnot, hlog, hfit⟩ := h
  unfold resetSlot
  have core : ∀ t : State, t.alarm.slots = s.alarm.slots → (t.alarm.list.map (·.slot)).Nodup →
      (∀ e ∈ t.alarm.list, e.slot < 64) → t.alarm.notices.length ≤ 8 → t.alarm.log.length ≤ 256 →
      entryOf t n = none → (∀ m, m ≠ n → entryOf t m = entryOf s m) →
      AlarmInv (setSlot n .start t) := by
    intro t h1 h2 h3 h4 h5 h6 h7
    refine ⟨by rw [setSlot_slots_length, h1, hslots], h2, h3, h4, h5, ?_⟩
    intro m hm
    by_cases hmn : m = n
    · subst hmn; rw [slotOf_setSlot_same (by rw [h1]; omega)]
      show SlotFits _ (entryOf t m); rw [h6]; rfl
    · rw [slotOf_setSlot_other hmn, slotOf_congr h1]
      show SlotFits _ (entryOf t m); rw [h7 m hmn]; exact hfit m hm
  split
  · have hr := removeEntry_alarm n ((attrsOf s n).getD plainAttrs) s
    refine core _ (by simp [removeListed, hr]) ?_ ?_ ?_ ?_ ?_ ?_
    · simp only [removeListed, hr]; exact hnodup.sublist (List.filter_sublist.map _)
    · simp only [removeListed, hr]; intro e he; exact hlist e (List.mem_of_mem_filter he)
    · simpa only [removeListed, hr] using hnot
    · simpa only [removeListed, hr] using logEvent_length hlog
    · simp [removeListed, entryOf, hr]
    · intro m hm
      simp only [removeListed, entryOf, hr, List.find?_filter]; congr 1; funext e
      by_cases h : e.slot = m <;> simp [h, hm]
  · rename_i hne
    exact core s rfl hnodup hlist hnot hlog (by simpa using hne) (fun _ _ => rfl)

/-- The definitions of the active ALARM table are 52 at most, so their slots are loaded ones. -/
theorem alarmInv_evaluateBound {s : State} (h : AlarmInv s)
    (hd : (definitionsOf s).length ≤ 52) (value : AlarmDef → Bool → Option Bool) :
    AlarmInv (evaluateBound value s) := by
  unfold evaluateBound
  have : ∀ (l : List (AlarmDef × Nat)) (t : State), (∀ x ∈ l, x.2 < 52) → AlarmInv t →
      AlarmInv (l.foldl (fun acc (d, k) =>
        if acc.alarm.bound.getD k false then
          match value d (slotOf acc (12 + k)).condition with
          | some v => evaluate (12 + k) v acc
          | none => acc
        else acc) t) := by
    intro l
    induction l with
    | nil => intro t _ ht; exact ht
    | cons x l ih =>
      intro t hx ht
      rw [List.foldl_cons]
      apply ih _ (fun y hy => hx y (List.mem_cons_of_mem _ hy))
      have := hx x (List.mem_cons_self ..)
      dsimp only
      split
      · split
        · exact alarmInv_evaluate ht (by omega) _
        · exact ht
      · exact ht
  apply this _ _ _ h
  intro x hx
  have := List.snd_lt_of_mem_zipIdx hx
  omega

end Sys2Proof.Machine
end

