-- ==== Sys2Proof/Laws/FramesRequests.lean ====
section
/-! SUPPORT. What operations leave unchanged. The answers of the owners of requests. -/

namespace Sys2Proof.Machine

@[simp] theorem setStaging_frame (x : Staging) (s : State) :
    (setStaging x s).power = s.power ∧ (setStaging x s).link = s.link ∧
    (setStaging x s).position = s.position ∧ (setStaging x s).shaper = s.shaper ∧
    (setStaging x s).swing = s.swing ∧ (setStaging x s).walk = s.walk ∧
    (setStaging x s).line = s.line ∧ (setStaging x s).alarm = s.alarm ∧
    (setStaging x s).store = s.store ∧ (setStaging x s).tables = s.tables ∧
    (setStaging x s).pending = s.pending ∧ (setStaging x s).mgmt.lock = s.mgmt.lock ∧
    (setStaging x s).mgmt.key = s.mgmt.key ∧ (setStaging x s).mgmt.attempts = s.mgmt.attempts ∧
    (setStaging x s).mgmt.restartPending = s.mgmt.restartPending ∧
    (setStaging x s).mgmt.deferredStore = s.mgmt.deferredStore ∧
    (setStaging x s).mgmt.outCommit = s.mgmt.outCommit ∧
    (setStaging x s).mgmt.outEnroll = s.mgmt.outEnroll ∧
    (setStaging x s).mgmt.seqFlag = s.mgmt.seqFlag ∧
    (setStaging x s).mgmt.retainedOnce = s.mgmt.retainedOnce := by and_intros <;> rfl

@[simp] theorem tableRead_frame (p : List Byte) (s : State) :
    ((tableRead p s).1).power = s.power ∧ ((tableRead p s).1).link = s.link ∧
    ((tableRead p s).1).position = s.position ∧ ((tableRead p s).1).shaper = s.shaper ∧
    ((tableRead p s).1).swing = s.swing ∧ ((tableRead p s).1).walk = s.walk ∧
    ((tableRead p s).1).line = s.line ∧ ((tableRead p s).1).alarm = s.alarm ∧
    ((tableRead p s).1).mgmt = s.mgmt ∧ ((tableRead p s).1).store = s.store ∧
    ((tableRead p s).1).tables = s.tables ∧ ((tableRead p s).1).pending = s.pending := by unfold tableRead; dsimp only; (repeat' split) <;> simp_all [refuse, refuseLimits]

@[simp] theorem tableBegin_frame (p : List Byte) (s : State) :
    ((tableBegin p s).1).power = s.power ∧ ((tableBegin p s).1).link = s.link ∧
    ((tableBegin p s).1).position = s.position ∧ ((tableBegin p s).1).shaper = s.shaper ∧
    ((tableBegin p s).1).swing = s.swing ∧ ((tableBegin p s).1).walk = s.walk ∧
    ((tableBegin p s).1).line = s.line ∧ ((tableBegin p s).1).alarm = s.alarm ∧
    ((tableBegin p s).1).store = s.store ∧ ((tableBegin p s).1).tables = s.tables ∧
    ((tableBegin p s).1).pending = s.pending ∧ ((tableBegin p s).1).mgmt.lock = s.mgmt.lock ∧
    ((tableBegin p s).1).mgmt.key = s.mgmt.key ∧
    ((tableBegin p s).1).mgmt.attempts = s.mgmt.attempts ∧
    ((tableBegin p s).1).mgmt.restartPending = s.mgmt.restartPending ∧
    ((tableBegin p s).1).mgmt.deferredStore = s.mgmt.deferredStore ∧
    ((tableBegin p s).1).mgmt.outCommit = s.mgmt.outCommit ∧
    ((tableBegin p s).1).mgmt.outEnroll = s.mgmt.outEnroll ∧
    ((tableBegin p s).1).mgmt.seqFlag = s.mgmt.seqFlag ∧
    ((tableBegin p s).1).mgmt.retainedOnce = s.mgmt.retainedOnce := by unfold tableBegin; dsimp only; (repeat' split) <;> simp_all [refuse, refuseLimits]

@[simp] theorem tableBlock_frame (p : List Byte) (s : State) :
    ((tableBlock p s).1).power = s.power ∧ ((tableBlock p s).1).link = s.link ∧
    ((tableBlock p s).1).position = s.position ∧ ((tableBlock p s).1).shaper = s.shaper ∧
    ((tableBlock p s).1).swing = s.swing ∧ ((tableBlock p s).1).walk = s.walk ∧
    ((tableBlock p s).1).line = s.line ∧ ((tableBlock p s).1).alarm = s.alarm ∧
    ((tableBlock p s).1).store = s.store ∧ ((tableBlock p s).1).tables = s.tables ∧
    ((tableBlock p s).1).pending = s.pending ∧ ((tableBlock p s).1).mgmt.lock = s.mgmt.lock ∧
    ((tableBlock p s).1).mgmt.key = s.mgmt.key ∧
    ((tableBlock p s).1).mgmt.attempts = s.mgmt.attempts ∧
    ((tableBlock p s).1).mgmt.restartPending = s.mgmt.restartPending ∧
    ((tableBlock p s).1).mgmt.deferredStore = s.mgmt.deferredStore ∧
    ((tableBlock p s).1).mgmt.outCommit = s.mgmt.outCommit ∧
    ((tableBlock p s).1).mgmt.outEnroll = s.mgmt.outEnroll ∧
    ((tableBlock p s).1).mgmt.seqFlag = s.mgmt.seqFlag ∧
    ((tableBlock p s).1).mgmt.retainedOnce = s.mgmt.retainedOnce := by unfold tableBlock; dsimp only; (repeat' split) <;> simp_all [refuse, refuseLimits]

@[simp] theorem tableEnd_frame (s : State) :
    ((tableEnd s).1).power = s.power ∧ ((tableEnd s).1).link = s.link ∧
    ((tableEnd s).1).position = s.position ∧ ((tableEnd s).1).shaper = s.shaper ∧
    ((tableEnd s).1).swing = s.swing ∧ ((tableEnd s).1).walk = s.walk ∧
    ((tableEnd s).1).line = s.line ∧ ((tableEnd s).1).alarm = s.alarm ∧
    ((tableEnd s).1).store = s.store ∧ ((tableEnd s).1).tables = s.tables ∧
    ((tableEnd s).1).pending = s.pending ∧ ((tableEnd s).1).mgmt.lock = s.mgmt.lock ∧
    ((tableEnd s).1).mgmt.key = s.mgmt.key ∧ ((tableEnd s).1).mgmt.attempts = s.mgmt.attempts ∧
    ((tableEnd s).1).mgmt.restartPending = s.mgmt.restartPending ∧
    ((tableEnd s).1).mgmt.deferredStore = s.mgmt.deferredStore ∧
    ((tableEnd s).1).mgmt.outCommit = s.mgmt.outCommit ∧
    ((tableEnd s).1).mgmt.outEnroll = s.mgmt.outEnroll ∧
    ((tableEnd s).1).mgmt.seqFlag = s.mgmt.seqFlag ∧
    ((tableEnd s).1).mgmt.retainedOnce = s.mgmt.retainedOnce := by unfold tableEnd; (repeat' split) <;> simp_all [refuse, refuseLimits, unlockMove]

@[simp] theorem tableCommit_frame (tag : Byte) (p : List Byte) (s : State) :
    ((tableCommit tag p s).1).power = s.power ∧ ((tableCommit tag p s).1).link = s.link ∧
    ((tableCommit tag p s).1).pending = s.pending ∧
    ((tableCommit tag p s).1).shaper.limits = s.shaper.limits ∧
    ((tableCommit tag p s).1).shaper.lastRefs = s.shaper.lastRefs ∧
    ((tableCommit tag p s).1).alarm.time = s.alarm.time ∧
    ((tableCommit tag p s).1).walk.state = s.walk.state ∧
    ((tableCommit tag p s).1).walk.sub = s.walk.sub ∧
    ((tableCommit tag p s).1).walk.transferTimer = s.walk.transferTimer ∧
    ((tableCommit tag p s).1).walk.cam = s.walk.cam ∧
    ((tableCommit tag p s).1).walk.stepCount = s.walk.stepCount ∧
    ((tableCommit tag p s).1).walk.refusal = s.walk.refusal ∧
    ((tableCommit tag p s).1).swing.raw = s.swing.raw ∧
    ((tableCommit tag p s).1).swing.heldLoad = s.swing.heldLoad ∧
    ((tableCommit tag p s).1).mgmt.lock = s.mgmt.lock ∧
    ((tableCommit tag p s).1).mgmt.key = s.mgmt.key ∧
    ((tableCommit tag p s).1).mgmt.attempts = s.mgmt.attempts ∧
    ((tableCommit tag p s).1).mgmt.restartPending = s.mgmt.restartPending ∧
    ((tableCommit tag p s).1).mgmt.deferredStore = s.mgmt.deferredStore ∧
    ((tableCommit tag p s).1).mgmt.outEnroll = s.mgmt.outEnroll ∧
    ((tableCommit tag p s).1).mgmt.seqFlag = s.mgmt.seqFlag ∧
    ((tableCommit tag p s).1).mgmt.retainedOnce = s.mgmt.retainedOnce ∧
    ((tableCommit tag p s).1).line.scanTimer = s.line.scanTimer ∧
    ((tableCommit tag p s).1).line.enrollWaiting = s.line.enrollWaiting := by unfold tableCommit; (repeat' split) <;> simp_all [refuse, refuseLimits, unlockMove]

@[simp] theorem acceptLimits_frame (l : Limits) (retain : Bool) (s : State) :
    (acceptLimits l retain s).power = s.power ∧ (acceptLimits l retain s).link = s.link ∧
    (acceptLimits l retain s).swing = s.swing ∧ (acceptLimits l retain s).walk = s.walk ∧
    (acceptLimits l retain s).tables = s.tables ∧ (acceptLimits l retain s).pending = s.pending ∧
    (acceptLimits l retain s).mgmt.lock = s.mgmt.lock ∧
    (acceptLimits l retain s).mgmt.key = s.mgmt.key ∧
    (acceptLimits l retain s).mgmt.attempts = s.mgmt.attempts ∧
    (acceptLimits l retain s).mgmt.restartPending = s.mgmt.restartPending ∧
    (acceptLimits l retain s).mgmt.deferredStore = s.mgmt.deferredStore ∧
    (acceptLimits l retain s).mgmt.outCommit = s.mgmt.outCommit ∧
    (acceptLimits l retain s).mgmt.outEnroll = s.mgmt.outEnroll ∧
    (acceptLimits l retain s).mgmt.seqFlag = s.mgmt.seqFlag ∧
    (acceptLimits l retain s).mgmt.staging = s.mgmt.staging ∧
    (acceptLimits l retain s).shaper.limits = s.shaper.limits ∧
    (acceptLimits l retain s).shaper.lastRefs = s.shaper.lastRefs ∧
    (acceptLimits l retain s).line.found = s.line.found ∧
    (acceptLimits l retain s).line.pointer = s.line.pointer ∧
    (acceptLimits l retain s).line.scanTimer = s.line.scanTimer ∧
    (acceptLimits l retain s).line.deferredStart = s.line.deferredStart ∧
    (acceptLimits l retain s).line.enrollWaiting = s.line.enrollWaiting ∧ (acceptLimits l retain s).line.finishing = s.line.finishing ∧
    (acceptLimits l retain s).line.flight = s.line.flight ∧
    (acceptLimits l retain s).line.records.length = s.line.records.length ∧
    (acceptLimits l retain s).alarm.time = s.alarm.time ∧
    (acceptLimits l retain s).alarm.bound = s.alarm.bound ∧
    (acceptLimits l retain s).alarm.lastPosition = s.alarm.lastPosition ∧
    (acceptLimits l retain s).alarm.lastContaining = s.alarm.lastContaining ∧
    (acceptLimits l retain s).position.hoistPayout = s.position.hoistPayout ∧
    (acceptLimits l retain s).position.dragPayout = s.position.dragPayout ∧
    (acceptLimits l retain s).position.status = s.position.status ∧
    (acceptLimits l retain s).position.count = s.position.count ∧
    (acceptLimits l retain s).position.reach = s.position.reach ∧
    (acceptLimits l retain s).position.height = s.position.height ∧
    (acceptLimits l retain s).position.zone = s.position.zone ∧
    (acceptLimits l retain s).position.edge = s.position.edge := by unfold acceptLimits; split <;> simp

@[simp] theorem limitsSet_frame (p : List Byte) (s : State) :
    ((limitsSet p s).1).power = s.power ∧ ((limitsSet p s).1).link = s.link ∧
    ((limitsSet p s).1).swing = s.swing ∧ ((limitsSet p s).1).walk = s.walk ∧
    ((limitsSet p s).1).tables = s.tables ∧ ((limitsSet p s).1).pending = s.pending ∧
    ((limitsSet p s).1).mgmt.lock = s.mgmt.lock ∧ ((limitsSet p s).1).mgmt.key = s.mgmt.key ∧
    ((limitsSet p s).1).mgmt.attempts = s.mgmt.attempts ∧
    ((limitsSet p s).1).mgmt.restartPending = s.mgmt.restartPending ∧
    ((limitsSet p s).1).mgmt.deferredStore = s.mgmt.deferredStore ∧
    ((limitsSet p s).1).mgmt.outCommit = s.mgmt.outCommit ∧
    ((limitsSet p s).1).mgmt.outEnroll = s.mgmt.outEnroll ∧
    ((limitsSet p s).1).mgmt.seqFlag = s.mgmt.seqFlag ∧
    ((limitsSet p s).1).mgmt.staging = s.mgmt.staging ∧
    ((limitsSet p s).1).shaper.limits = s.shaper.limits ∧
    ((limitsSet p s).1).shaper.lastRefs = s.shaper.lastRefs ∧
    ((limitsSet p s).1).line.found = s.line.found ∧
    ((limitsSet p s).1).line.pointer = s.line.pointer ∧
    ((limitsSet p s).1).line.scanTimer = s.line.scanTimer ∧
    ((limitsSet p s).1).line.deferredStart = s.line.deferredStart ∧
    ((limitsSet p s).1).line.enrollWaiting = s.line.enrollWaiting ∧ ((limitsSet p s).1).line.finishing = s.line.finishing ∧
    ((limitsSet p s).1).line.flight = s.line.flight ∧
    ((limitsSet p s).1).line.records.length = s.line.records.length ∧
    ((limitsSet p s).1).alarm.time = s.alarm.time ∧
    ((limitsSet p s).1).alarm.bound = s.alarm.bound ∧
    ((limitsSet p s).1).alarm.lastPosition = s.alarm.lastPosition ∧
    ((limitsSet p s).1).alarm.lastContaining = s.alarm.lastContaining ∧
    ((limitsSet p s).1).position.hoistPayout = s.position.hoistPayout ∧
    ((limitsSet p s).1).position.dragPayout = s.position.dragPayout ∧
    ((limitsSet p s).1).position.status = s.position.status ∧
    ((limitsSet p s).1).position.count = s.position.count ∧
    ((limitsSet p s).1).position.reach = s.position.reach ∧
    ((limitsSet p s).1).position.height = s.position.height ∧
    ((limitsSet p s).1).position.zone = s.position.zone ∧
    ((limitsSet p s).1).position.edge = s.position.edge := by unfold limitsSet; dsimp only; (repeat' split) <;> simp_all [refuse, refuseLimits]

@[simp] theorem stationStatus_frame (p : List Byte) (s : State) :
    ((stationStatus p s).1).power = s.power ∧ ((stationStatus p s).1).link = s.link ∧
    ((stationStatus p s).1).position = s.position ∧ ((stationStatus p s).1).shaper = s.shaper ∧
    ((stationStatus p s).1).swing = s.swing ∧ ((stationStatus p s).1).walk = s.walk ∧
    ((stationStatus p s).1).line = s.line ∧ ((stationStatus p s).1).alarm = s.alarm ∧
    ((stationStatus p s).1).mgmt = s.mgmt ∧ ((stationStatus p s).1).store = s.store ∧
    ((stationStatus p s).1).tables = s.tables ∧ ((stationStatus p s).1).pending = s.pending := by unfold stationStatus; dsimp only; (repeat' split) <;> simp_all [refuse, refuseLimits]

@[simp] theorem applyOutput_frame (p : List Byte) (b : Binding) (s : State) :
    (applyOutput p s b).power = s.power ∧ (applyOutput p s b).link = s.link ∧
    (applyOutput p s b).position = s.position ∧ (applyOutput p s b).shaper = s.shaper ∧
    (applyOutput p s b).swing = s.swing ∧ (applyOutput p s b).walk = s.walk ∧
    (applyOutput p s b).alarm = s.alarm ∧ (applyOutput p s b).mgmt = s.mgmt ∧
    (applyOutput p s b).store = s.store ∧ (applyOutput p s b).tables = s.tables ∧
    (applyOutput p s b).pending = s.pending ∧ (applyOutput p s b).line.found = s.line.found ∧
    (applyOutput p s b).line.pointer = s.line.pointer ∧
    (applyOutput p s b).line.scanTimer = s.line.scanTimer ∧
    (applyOutput p s b).line.deferredStart = s.line.deferredStart ∧
    (applyOutput p s b).line.enrollWaiting = s.line.enrollWaiting ∧ (applyOutput p s b).line.finishing = s.line.finishing ∧
    (applyOutput p s b).line.flight = s.line.flight ∧
    (applyOutput p s b).line.records.length = s.line.records.length := by unfold applyOutput; dsimp only; (repeat' split) <;> simp_all [refuse, refuseLimits]

@[simp] theorem stationOutput_frame (p : List Byte) (s : State) :
    ((stationOutput p s).1).power = s.power ∧ ((stationOutput p s).1).link = s.link ∧
    ((stationOutput p s).1).position = s.position ∧ ((stationOutput p s).1).shaper = s.shaper ∧
    ((stationOutput p s).1).swing = s.swing ∧ ((stationOutput p s).1).walk = s.walk ∧
    ((stationOutput p s).1).alarm = s.alarm ∧ ((stationOutput p s).1).mgmt = s.mgmt ∧
    ((stationOutput p s).1).store = s.store ∧ ((stationOutput p s).1).tables = s.tables ∧
    ((stationOutput p s).1).pending = s.pending ∧
    ((stationOutput p s).1).line.found = s.line.found ∧
    ((stationOutput p s).1).line.pointer = s.line.pointer ∧
    ((stationOutput p s).1).line.scanTimer = s.line.scanTimer ∧
    ((stationOutput p s).1).line.deferredStart = s.line.deferredStart ∧
    ((stationOutput p s).1).line.enrollWaiting = s.line.enrollWaiting ∧ ((stationOutput p s).1).line.finishing = s.line.finishing ∧
    ((stationOutput p s).1).line.flight = s.line.flight ∧
    ((stationOutput p s).1).line.records.length = s.line.records.length := by
  have h := foldl_keeps (fun x => x.power = s.power ∧ x.link = s.link ∧ x.position = s.position ∧ x.shaper = s.shaper ∧ x.swing = s.swing ∧ x.walk = s.walk ∧ x.alarm = s.alarm ∧ x.mgmt = s.mgmt ∧ x.store = s.store ∧ x.tables = s.tables ∧ x.pending = s.pending ∧ x.line.found = s.line.found ∧ x.line.pointer = s.line.pointer ∧ x.line.scanTimer = s.line.scanTimer ∧ x.line.deferredStart = s.line.deferredStart ∧ x.line.enrollWaiting = s.line.enrollWaiting ∧ x.line.finishing = s.line.finishing ∧ x.line.flight = s.line.flight ∧ x.line.records.length = s.line.records.length)
    (applyOutput p) (by intro x d h; simp_all) (allChannels s) s (by simp)
  unfold stationOutput refuse
  dsimp only
  (repeat' split) <;> first | exact h | simp

@[simp] theorem stationEnroll_frame (tag : Byte) (s : State) :
    ((stationEnroll tag s).1).power = s.power ∧ ((stationEnroll tag s).1).link = s.link ∧
    ((stationEnroll tag s).1).position = s.position ∧ ((stationEnroll tag s).1).shaper = s.shaper ∧
    ((stationEnroll tag s).1).swing = s.swing ∧ ((stationEnroll tag s).1).walk = s.walk ∧
    ((stationEnroll tag s).1).alarm = s.alarm ∧ ((stationEnroll tag s).1).store = s.store ∧
    ((stationEnroll tag s).1).tables = s.tables ∧ ((stationEnroll tag s).1).pending = s.pending ∧
    ((stationEnroll tag s).1).line.found = s.line.found ∧
    ((stationEnroll tag s).1).line.pointer = s.line.pointer ∧
    ((stationEnroll tag s).1).line.scanTimer = s.line.scanTimer ∧
    ((stationEnroll tag s).1).line.deferredStart = s.line.deferredStart ∧
    ((stationEnroll tag s).1).line.records = s.line.records ∧
    ((stationEnroll tag s).1).mgmt.lock = s.mgmt.lock ∧
    ((stationEnroll tag s).1).mgmt.key = s.mgmt.key ∧
    ((stationEnroll tag s).1).mgmt.attempts = s.mgmt.attempts ∧
    ((stationEnroll tag s).1).mgmt.restartPending = s.mgmt.restartPending ∧
    ((stationEnroll tag s).1).mgmt.deferredStore = s.mgmt.deferredStore ∧
    ((stationEnroll tag s).1).mgmt.outCommit = s.mgmt.outCommit ∧
    ((stationEnroll tag s).1).mgmt.seqFlag = s.mgmt.seqFlag ∧
    ((stationEnroll tag s).1).mgmt.retainedOnce = s.mgmt.retainedOnce ∧
    ((stationEnroll tag s).1).mgmt.staging = s.mgmt.staging := by unfold stationEnroll; (repeat' split) <;> simp_all [refuse, refuseLimits, unlockMove]

@[simp] theorem alarmListRead_frame (p : List Byte) (s : State) :
    ((alarmListRead p s).1).power = s.power ∧ ((alarmListRead p s).1).link = s.link ∧
    ((alarmListRead p s).1).position = s.position ∧ ((alarmListRead p s).1).shaper = s.shaper ∧
    ((alarmListRead p s).1).swing = s.swing ∧ ((alarmListRead p s).1).walk = s.walk ∧
    ((alarmListRead p s).1).line = s.line ∧ ((alarmListRead p s).1).alarm = s.alarm ∧
    ((alarmListRead p s).1).mgmt = s.mgmt ∧ ((alarmListRead p s).1).store = s.store ∧
    ((alarmListRead p s).1).tables = s.tables ∧ ((alarmListRead p s).1).pending = s.pending := by unfold alarmListRead; dsimp only; (repeat' split) <;> simp_all [refuse, refuseLimits]

@[simp] theorem acknowledgeSlot_frame (n : Nat) (s : State) :
    (acknowledgeSlot n s).power = s.power ∧ (acknowledgeSlot n s).link = s.link ∧
    (acknowledgeSlot n s).position = s.position ∧ (acknowledgeSlot n s).shaper = s.shaper ∧
    (acknowledgeSlot n s).swing = s.swing ∧ (acknowledgeSlot n s).walk = s.walk ∧
    (acknowledgeSlot n s).mgmt = s.mgmt ∧ (acknowledgeSlot n s).store = s.store ∧
    (acknowledgeSlot n s).tables = s.tables ∧ (acknowledgeSlot n s).pending = s.pending ∧
    (acknowledgeSlot n s).line.found = s.line.found ∧
    (acknowledgeSlot n s).line.pointer = s.line.pointer ∧
    (acknowledgeSlot n s).line.scanTimer = s.line.scanTimer ∧
    (acknowledgeSlot n s).line.deferredStart = s.line.deferredStart ∧
    (acknowledgeSlot n s).line.enrollWaiting = s.line.enrollWaiting ∧ (acknowledgeSlot n s).line.finishing = s.line.finishing ∧
    (acknowledgeSlot n s).line.flight = s.line.flight ∧
    (acknowledgeSlot n s).line.records.length = s.line.records.length ∧
    (acknowledgeSlot n s).alarm.time = s.alarm.time ∧
    (acknowledgeSlot n s).alarm.bound = s.alarm.bound ∧
    (acknowledgeSlot n s).alarm.lastPosition = s.alarm.lastPosition ∧
    (acknowledgeSlot n s).alarm.lastContaining = s.alarm.lastContaining ∧
    (acknowledgeSlot n s).alarm.slots = s.alarm.slots ∧
    (acknowledgeSlot n s).alarm.firstOut = s.alarm.firstOut ∧
    (acknowledgeSlot n s).alarm.notices = s.alarm.notices := by unfold acknowledgeSlot; (repeat' split) <;> simp

@[simp] theorem alarmAcknowledge_frame (p : List Byte) (s : State) :
    ((alarmAcknowledge p s).1).power = s.power ∧ ((alarmAcknowledge p s).1).link = s.link ∧
    ((alarmAcknowledge p s).1).position = s.position ∧
    ((alarmAcknowledge p s).1).shaper = s.shaper ∧ ((alarmAcknowledge p s).1).swing = s.swing ∧
    ((alarmAcknowledge p s).1).walk = s.walk ∧ ((alarmAcknowledge p s).1).mgmt = s.mgmt ∧
    ((alarmAcknowledge p s).1).store = s.store ∧ ((alarmAcknowledge p s).1).tables = s.tables ∧
    ((alarmAcknowledge p s).1).pending = s.pending ∧
    ((alarmAcknowledge p s).1).line.found = s.line.found ∧
    ((alarmAcknowledge p s).1).line.pointer = s.line.pointer ∧
    ((alarmAcknowledge p s).1).line.scanTimer = s.line.scanTimer ∧
    ((alarmAcknowledge p s).1).line.deferredStart = s.line.deferredStart ∧
    ((alarmAcknowledge p s).1).line.enrollWaiting = s.line.enrollWaiting ∧ ((alarmAcknowledge p s).1).line.finishing = s.line.finishing ∧
    ((alarmAcknowledge p s).1).line.flight = s.line.flight ∧
    ((alarmAcknowledge p s).1).line.records.length = s.line.records.length ∧
    ((alarmAcknowledge p s).1).alarm.time = s.alarm.time ∧
    ((alarmAcknowledge p s).1).alarm.bound = s.alarm.bound ∧
    ((alarmAcknowledge p s).1).alarm.lastPosition = s.alarm.lastPosition ∧
    ((alarmAcknowledge p s).1).alarm.lastContaining = s.alarm.lastContaining ∧
    ((alarmAcknowledge p s).1).alarm.slots = s.alarm.slots ∧
    ((alarmAcknowledge p s).1).alarm.firstOut = s.alarm.firstOut ∧
    ((alarmAcknowledge p s).1).alarm.notices = s.alarm.notices := by
  unfold alarmAcknowledge
  split
  · simp [refuse]
  · exact foldl_keeps (fun x => x.power = s.power ∧ x.link = s.link ∧ x.position = s.position ∧ x.shaper = s.shaper ∧ x.swing = s.swing ∧ x.walk = s.walk ∧ x.mgmt = s.mgmt ∧ x.store = s.store ∧ x.tables = s.tables ∧ x.pending = s.pending ∧ x.line.found = s.line.found ∧ x.line.pointer = s.line.pointer ∧ x.line.scanTimer = s.line.scanTimer ∧ x.line.deferredStart = s.line.deferredStart ∧ x.line.enrollWaiting = s.line.enrollWaiting ∧ x.line.finishing = s.line.finishing ∧ x.line.flight = s.line.flight ∧ x.line.records.length = s.line.records.length ∧ x.alarm.time = s.alarm.time ∧ x.alarm.bound = s.alarm.bound ∧ x.alarm.lastPosition = s.alarm.lastPosition ∧ x.alarm.lastContaining = s.alarm.lastContaining ∧ x.alarm.slots = s.alarm.slots ∧ x.alarm.firstOut = s.alarm.firstOut ∧ x.alarm.notices = s.alarm.notices)
      (fun acc n => acknowledgeSlot n acc) (by intro x d h; simp_all) _ s (by simp)

@[simp] theorem alarmReAnnounce_frame (s : State) :
    ((alarmReAnnounce s).1).power = s.power ∧ ((alarmReAnnounce s).1).link = s.link ∧
    ((alarmReAnnounce s).1).position = s.position ∧ ((alarmReAnnounce s).1).shaper = s.shaper ∧
    ((alarmReAnnounce s).1).swing = s.swing ∧ ((alarmReAnnounce s).1).walk = s.walk ∧
    ((alarmReAnnounce s).1).line = s.line ∧ ((alarmReAnnounce s).1).mgmt = s.mgmt ∧
    ((alarmReAnnounce s).1).store = s.store ∧ ((alarmReAnnounce s).1).tables = s.tables ∧
    ((alarmReAnnounce s).1).pending = s.pending ∧
    ((alarmReAnnounce s).1).alarm.time = s.alarm.time ∧
    ((alarmReAnnounce s).1).alarm.bound = s.alarm.bound ∧
    ((alarmReAnnounce s).1).alarm.lastPosition = s.alarm.lastPosition ∧
    ((alarmReAnnounce s).1).alarm.lastContaining = s.alarm.lastContaining ∧
    ((alarmReAnnounce s).1).alarm.slots = s.alarm.slots ∧
    ((alarmReAnnounce s).1).alarm.firstOut = s.alarm.firstOut ∧
    ((alarmReAnnounce s).1).alarm.list = s.alarm.list ∧
    ((alarmReAnnounce s).1).alarm.log = s.alarm.log ∧
    ((alarmReAnnounce s).1).alarm.nextSeq = s.alarm.nextSeq := by and_intros <;> rfl

@[simp] theorem firstOutClear_frame (s : State) :
    ((firstOutClear s).1).power = s.power ∧ ((firstOutClear s).1).link = s.link ∧
    ((firstOutClear s).1).position = s.position ∧ ((firstOutClear s).1).shaper = s.shaper ∧
    ((firstOutClear s).1).swing = s.swing ∧ ((firstOutClear s).1).walk = s.walk ∧
    ((firstOutClear s).1).line = s.line ∧ ((firstOutClear s).1).mgmt = s.mgmt ∧
    ((firstOutClear s).1).store = s.store ∧ ((firstOutClear s).1).tables = s.tables ∧
    ((firstOutClear s).1).pending = s.pending ∧ ((firstOutClear s).1).alarm.time = s.alarm.time ∧
    ((firstOutClear s).1).alarm.bound = s.alarm.bound ∧
    ((firstOutClear s).1).alarm.lastPosition = s.alarm.lastPosition ∧
    ((firstOutClear s).1).alarm.lastContaining = s.alarm.lastContaining ∧
    ((firstOutClear s).1).alarm.slots = s.alarm.slots ∧
    ((firstOutClear s).1).alarm.notices = s.alarm.notices ∧
    ((firstOutClear s).1).alarm.list = s.alarm.list ∧
    ((firstOutClear s).1).alarm.log = s.alarm.log ∧
    ((firstOutClear s).1).alarm.nextSeq = s.alarm.nextSeq := by unfold firstOutClear; (repeat' split) <;> simp_all [refuse, refuseLimits, unlockMove]

@[simp] theorem logRead_frame (p : List Byte) (s : State) :
    ((logRead p s).1).power = s.power ∧ ((logRead p s).1).link = s.link ∧
    ((logRead p s).1).position = s.position ∧ ((logRead p s).1).shaper = s.shaper ∧
    ((logRead p s).1).swing = s.swing ∧ ((logRead p s).1).walk = s.walk ∧
    ((logRead p s).1).line = s.line ∧ ((logRead p s).1).alarm = s.alarm ∧
    ((logRead p s).1).mgmt = s.mgmt ∧ ((logRead p s).1).store = s.store ∧
    ((logRead p s).1).tables = s.tables ∧ ((logRead p s).1).pending = s.pending := by unfold logRead; dsimp only; (repeat' split) <;> simp_all [refuse, refuseLimits]

@[simp] theorem keySet_frame (p : List Byte) (s : State) :
    ((keySet p s).1).power = s.power ∧ ((keySet p s).1).link = s.link ∧
    ((keySet p s).1).position = s.position ∧ ((keySet p s).1).shaper = s.shaper ∧
    ((keySet p s).1).swing = s.swing ∧ ((keySet p s).1).walk = s.walk ∧
    ((keySet p s).1).line = s.line ∧ ((keySet p s).1).alarm = s.alarm ∧
    ((keySet p s).1).tables = s.tables ∧ ((keySet p s).1).pending = s.pending ∧
    ((keySet p s).1).mgmt.restartPending = s.mgmt.restartPending ∧
    ((keySet p s).1).mgmt.deferredStore = s.mgmt.deferredStore ∧
    ((keySet p s).1).mgmt.outCommit = s.mgmt.outCommit ∧
    ((keySet p s).1).mgmt.outEnroll = s.mgmt.outEnroll ∧
    ((keySet p s).1).mgmt.seqFlag = s.mgmt.seqFlag ∧
    ((keySet p s).1).mgmt.retainedOnce = s.mgmt.retainedOnce ∧
    ((keySet p s).1).mgmt.staging = s.mgmt.staging ∧
    ((keySet p s).1).store.images = s.store.images ∧
    ((keySet p s).1).store.imageStatus = s.store.imageStatus ∧
    ((keySet p s).1).store.limitsCopy = s.store.limitsCopy ∧
    ((keySet p s).1).store.limitsStatus = s.store.limitsStatus := by unfold keySet; (repeat' split) <;> and_intros <;> first | rfl | simp_all

@[simp] theorem keyUnlock_frame (p : List Byte) (s : State) :
    ((keyUnlock p s).1).power = s.power ∧ ((keyUnlock p s).1).link = s.link ∧
    ((keyUnlock p s).1).position = s.position ∧ ((keyUnlock p s).1).shaper = s.shaper ∧
    ((keyUnlock p s).1).swing = s.swing ∧ ((keyUnlock p s).1).walk = s.walk ∧
    ((keyUnlock p s).1).line = s.line ∧ ((keyUnlock p s).1).alarm = s.alarm ∧
    ((keyUnlock p s).1).store = s.store ∧ ((keyUnlock p s).1).tables = s.tables ∧
    ((keyUnlock p s).1).pending = s.pending ∧ ((keyUnlock p s).1).mgmt.key = s.mgmt.key ∧
    ((keyUnlock p s).1).mgmt.restartPending = s.mgmt.restartPending ∧
    ((keyUnlock p s).1).mgmt.deferredStore = s.mgmt.deferredStore ∧
    ((keyUnlock p s).1).mgmt.outCommit = s.mgmt.outCommit ∧
    ((keyUnlock p s).1).mgmt.outEnroll = s.mgmt.outEnroll ∧
    ((keyUnlock p s).1).mgmt.seqFlag = s.mgmt.seqFlag ∧
    ((keyUnlock p s).1).mgmt.retainedOnce = s.mgmt.retainedOnce ∧
    ((keyUnlock p s).1).mgmt.staging = s.mgmt.staging := by and_intros <;> rfl

@[simp] theorem keyClear_frame (s : State) :
    ((keyClear s).1).power = s.power ∧ ((keyClear s).1).link = s.link ∧
    ((keyClear s).1).position = s.position ∧ ((keyClear s).1).shaper = s.shaper ∧
    ((keyClear s).1).swing = s.swing ∧ ((keyClear s).1).walk = s.walk ∧
    ((keyClear s).1).line = s.line ∧ ((keyClear s).1).alarm = s.alarm ∧
    ((keyClear s).1).tables = s.tables ∧ ((keyClear s).1).pending = s.pending ∧
    ((keyClear s).1).mgmt.attempts = s.mgmt.attempts ∧
    ((keyClear s).1).mgmt.restartPending = s.mgmt.restartPending ∧
    ((keyClear s).1).mgmt.deferredStore = s.mgmt.deferredStore ∧
    ((keyClear s).1).mgmt.outCommit = s.mgmt.outCommit ∧
    ((keyClear s).1).mgmt.outEnroll = s.mgmt.outEnroll ∧
    ((keyClear s).1).mgmt.seqFlag = s.mgmt.seqFlag ∧
    ((keyClear s).1).mgmt.retainedOnce = s.mgmt.retainedOnce ∧
    ((keyClear s).1).mgmt.staging = s.mgmt.staging ∧
    ((keyClear s).1).store.images = s.store.images ∧
    ((keyClear s).1).store.imageStatus = s.store.imageStatus ∧
    ((keyClear s).1).store.limitsCopy = s.store.limitsCopy ∧
    ((keyClear s).1).store.limitsStatus = s.store.limitsStatus := by unfold keyClear; (repeat' split) <;> and_intros <;> first | rfl | simp_all

@[simp] theorem guardLock_frame (s : State) :
    ((guardLock s).1).power = s.power ∧ ((guardLock s).1).link = s.link ∧
    ((guardLock s).1).position = s.position ∧ ((guardLock s).1).shaper = s.shaper ∧
    ((guardLock s).1).swing = s.swing ∧ ((guardLock s).1).walk = s.walk ∧
    ((guardLock s).1).line = s.line ∧ ((guardLock s).1).alarm = s.alarm ∧
    ((guardLock s).1).store = s.store ∧ ((guardLock s).1).tables = s.tables ∧
    ((guardLock s).1).pending = s.pending ∧ ((guardLock s).1).mgmt.key = s.mgmt.key ∧
    ((guardLock s).1).mgmt.attempts = s.mgmt.attempts ∧
    ((guardLock s).1).mgmt.restartPending = s.mgmt.restartPending ∧
    ((guardLock s).1).mgmt.deferredStore = s.mgmt.deferredStore ∧
    ((guardLock s).1).mgmt.outCommit = s.mgmt.outCommit ∧
    ((guardLock s).1).mgmt.outEnroll = s.mgmt.outEnroll ∧
    ((guardLock s).1).mgmt.seqFlag = s.mgmt.seqFlag ∧
    ((guardLock s).1).mgmt.retainedOnce = s.mgmt.retainedOnce ∧
    ((guardLock s).1).mgmt.staging = s.mgmt.staging := by and_intros <;> rfl

@[simp] theorem freezeLock_frame (s : State) :
    ((freezeLock s).1).power = s.power ∧ ((freezeLock s).1).link = s.link ∧
    ((freezeLock s).1).position = s.position ∧ ((freezeLock s).1).shaper = s.shaper ∧
    ((freezeLock s).1).swing = s.swing ∧ ((freezeLock s).1).walk = s.walk ∧
    ((freezeLock s).1).line = s.line ∧ ((freezeLock s).1).alarm = s.alarm ∧
    ((freezeLock s).1).store = s.store ∧ ((freezeLock s).1).tables = s.tables ∧
    ((freezeLock s).1).pending = s.pending ∧ ((freezeLock s).1).mgmt.key = s.mgmt.key ∧
    ((freezeLock s).1).mgmt.attempts = s.mgmt.attempts ∧
    ((freezeLock s).1).mgmt.restartPending = s.mgmt.restartPending ∧
    ((freezeLock s).1).mgmt.deferredStore = s.mgmt.deferredStore ∧
    ((freezeLock s).1).mgmt.outCommit = s.mgmt.outCommit ∧
    ((freezeLock s).1).mgmt.outEnroll = s.mgmt.outEnroll ∧
    ((freezeLock s).1).mgmt.seqFlag = s.mgmt.seqFlag ∧
    ((freezeLock s).1).mgmt.retainedOnce = s.mgmt.retainedOnce ∧
    ((freezeLock s).1).mgmt.staging = s.mgmt.staging := by and_intros <;> rfl

@[simp] theorem restartRequest_frame (s : State) :
    ((restartRequest s).1).power = s.power ∧ ((restartRequest s).1).link = s.link ∧
    ((restartRequest s).1).position = s.position ∧ ((restartRequest s).1).shaper = s.shaper ∧
    ((restartRequest s).1).swing = s.swing ∧ ((restartRequest s).1).walk = s.walk ∧
    ((restartRequest s).1).line = s.line ∧ ((restartRequest s).1).alarm = s.alarm ∧
    ((restartRequest s).1).store = s.store ∧ ((restartRequest s).1).tables = s.tables ∧
    ((restartRequest s).1).pending = s.pending ∧ ((restartRequest s).1).mgmt.lock = s.mgmt.lock ∧
    ((restartRequest s).1).mgmt.key = s.mgmt.key ∧
    ((restartRequest s).1).mgmt.attempts = s.mgmt.attempts ∧
    ((restartRequest s).1).mgmt.deferredStore = s.mgmt.deferredStore ∧
    ((restartRequest s).1).mgmt.outCommit = s.mgmt.outCommit ∧
    ((restartRequest s).1).mgmt.outEnroll = s.mgmt.outEnroll ∧
    ((restartRequest s).1).mgmt.seqFlag = s.mgmt.seqFlag ∧
    ((restartRequest s).1).mgmt.retainedOnce = s.mgmt.retainedOnce ∧
    ((restartRequest s).1).mgmt.staging = s.mgmt.staging := by and_intros <;> rfl

end Sys2Proof.Machine
end

