-- ==== Sys2Proof/Laws/Logs.lean ====
section
/-! SUPPORT. What the operations on alarms log, each said once (R154). -/

namespace Sys2Proof.Machine

@[simp] theorem logEntries_length (seq time : BitVec 32) (events : List (LogKind × Nat)) :
    (logEntries seq time events).length = events.length := by
  induction events generalizing seq with
  | nil => rfl
  | cons e rest ih => simp [logEntries, ih]

theorem logEntries_append (seq time : BitVec 32) (a b : List (LogKind × Nat)) :
    logEntries seq time (a ++ b)
      = logEntries seq time a ++ logEntries (seq + BitVec.ofNat 32 a.length) time b := by
  induction a generalizing seq with
  | nil => simp [logEntries]
  | cons e rest ih =>
    have : seq + 1 + BitVec.ofNat 32 rest.length = seq + BitVec.ofNat 32 (rest.length + 1) := by
      rw [BitVec.ofNat_add, BitVec.add_assoc, BitVec.add_comm 1]; rfl
    simp only [List.cons_append, logEntries, ih, List.length_cons, this]

theorem drop_drop_append {α : Type} (a b : List α) (k : Nat) :
    ((a.drop (a.length - k)) ++ b).drop (((a.drop (a.length - k)) ++ b).length - k)
      = (a ++ b).drop ((a ++ b).length - k) := by
  by_cases h : a.length ≤ k
  · simp [Nat.sub_eq_zero_of_le h]
  · have e : a.drop (a.length - k) ++ b = (a ++ b).drop (a.length - k) := by
      rw [List.drop_append_of_le_length (by omega)]
    rw [e, List.drop_drop]
    congr 1
    simp only [List.length_drop, List.length_append]; omega

/-- Where nothing is logged the log stands, and where it stands nothing is logged. -/
theorem logged_nil {s t : State} (h : s.alarm.log.length ≤ 256) (hl : t.alarm.log = s.alarm.log)
    (hn : t.alarm.nextSeq = s.alarm.nextSeq) : Logged [] s t :=
  ⟨by simp [logAfter, logEntries, hl, Nat.sub_eq_zero_of_le h], by simp [hn]⟩

/-- What is logged in two steps is logged in one. -/
theorem Logged.trans {a b : List (LogKind × Nat)} {s t u : State} (h : Logged a s t)
    (h' : Logged b t u) (ht : t.alarm.time = s.alarm.time) : Logged (a ++ b) s u := by
  refine ⟨?_, by rw [h'.2, h.2, BitVec.add_assoc, ← BitVec.ofNat_add, List.length_append]⟩
  rw [h'.1]
  simp only [logAfter, h.1, h.2, ht, logEntries_append, ← List.append_assoc]
  exact drop_drop_append ..

/-- A full log overwrites its oldest entry (R154). -/
theorem logEvent_logged (kind : LogKind) (n : Nat) {s : State} (h : s.alarm.log.length ≤ 256) :
    Logged [(kind, n)] s (logEvent kind n s) := by
  refine ⟨?_, by simp [logEvent]⟩
  simp only [logEvent, logAfter, logEntries, State.withAlarm_alarm, List.length_append,
    List.length_singleton]
  by_cases hl : s.alarm.log.length < logCap
  · have : s.alarm.log.length + 1 - 256 = 0 := by simp only [logCap] at hl; omega
    rw [if_pos hl, this, List.drop_zero]
  · have : s.alarm.log.length + 1 - 256 = 1 := by simp only [logCap] at hl; omega
    rw [if_neg hl, this, List.drop_append_of_le_length (by omega)]

/-- The log and the time alone say what is logged. -/
theorem Logged.congr {a : List (LogKind × Nat)} {s s' t t' : State} (h : Logged a s t)
    (hs : s'.alarm.log = s.alarm.log) (hs2 : s'.alarm.nextSeq = s.alarm.nextSeq)
    (hs3 : s'.alarm.time = s.alarm.time) (ht : t'.alarm.log = t.alarm.log)
    (ht2 : t'.alarm.nextSeq = t.alarm.nextSeq) : Logged a s' t' := by
  simpa only [Logged, logAfter, hs, hs2, hs3, ht, ht2] using h

theorem raiseSlot_logged (n : Nat) (a : Attrs) {s : State} (h : s.alarm.log.length ≤ 256) :
    Logged [(.raise, n)] s (raiseSlot n a s) := by
  have := logEvent_logged .raise n h
  refine this.congr rfl rfl rfl ?_ ?_ <;> simp only [raiseSlot, updateOutput_alarm] <;>
    (repeat' split) <;> simp [queueNotice, captureFirstOut, logEvent, setSlot] <;>
    (repeat' split) <;> simp

theorem removeEntry_logged (n : Nat) (a : Attrs) {s : State} (h : s.alarm.log.length ≤ 256) :
    Logged [(.remove, n)] s (removeEntry n a s) :=
  (logEvent_logged .remove n h).congr rfl rfl rfl (by simp [removeEntry, logEvent])
    (by simp [removeEntry, logEvent])

theorem Logged.length_le {a : List (LogKind × Nat)} {s t : State} (h : Logged a s t) :
    t.alarm.log.length ≤ 256 := by
  rw [h.1]; simp only [logAfter, List.length_drop]; omega

/-- An evaluation logs events of its own slot alone (R142, R144, R145). -/
theorem evaluate_logged (n : Nat) (v : Bool) {s : State} (h : s.alarm.log.length ≤ 256) :
    ∃ events, (∀ x ∈ events, x.2 = n) ∧ Logged events s (evaluate n v s) := by
  have still : ∀ {t : State}, t.alarm.log = s.alarm.log → t.alarm.nextSeq = s.alarm.nextSeq →
      ∃ events : List (LogKind × Nat), (∀ x ∈ events, x.2 = n) ∧ Logged events s t :=
    fun h1 h2 => ⟨[], by simp, logged_nil h h1 h2⟩
  have gone : ∀ a : Attrs, ∀ t : State, t.alarm.log = s.alarm.log → t.alarm.nextSeq = s.alarm.nextSeq →
      t.alarm.time = s.alarm.time →
      Logged ([(.return', n)] ++ [(.remove, n)]) s (removeEntry n a (logEvent .return' n t)) :=
    fun a t h1 h2 h3 => by
      have hr := (logEvent_logged .return' n (s := t) (by rw [h1]; exact h)).congr
        h1.symm h2.symm h3.symm rfl rfl
      exact hr.trans (removeEntry_logged n a hr.length_le) (by simpa [logEvent] using h3)
  simp only [evaluate]
  split
  · exact still rfl rfl
  · rename_i a _
    split
    · rename_i e _
      split
      · refine still ?_ ?_ <;> simp only [reassert] <;> split <;> rfl
      · simp only [returnEntry]
        split
        · split
          · exact ⟨[(.return', n)], by simp, (logEvent_logged .return' n h).congr rfl rfl rfl
              (by simp [setEntryState, logEvent, setSlot]) (by simp [setEntryState, logEvent, setSlot])⟩
          · exact ⟨_, by simp, gone a _ rfl rfl rfl⟩
        · exact ⟨_, by simp, gone a _ rfl rfl rfl⟩
        · exact still rfl rfl
    · split
      · split
        · exact still rfl rfl
        · split
          · exact ⟨[(.raise, n)], by simp,
              (raiseSlot_logged n a (s := setSlot n _ s) h).congr rfl rfl rfl rfl rfl⟩
          · exact still rfl rfl
      · exact still rfl rfl

end Sys2Proof.Machine
end

