-- ==== Sys2Proof/Laws/Queues.lean ====
section
/-! SUPPORT. What joining a queue, starting a transmission, offering a frame and confirming do to the
ports (R7 to R10), each said once. -/

namespace Sys2Proof.Machine

theorem waiting_append (k : FrameKind) (a b : List QFrame) :
    waiting k (a ++ b) = waiting k a + waiting k b := by simp [waiting, List.countP_append]

theorem waiting_sublist {k : FrameKind} {a b : List QFrame} (h : a.Sublist b) :
    waiting k a ≤ waiting k b := h.countP_le

theorem waiting_eq_zero {k : FrameKind} {q : List QFrame}
    (h : q.any (·.kind == k) = false) : waiting k q = 0 := by
  simp only [waiting, List.countP_eq_zero]; simpa using h

theorem waiting_eraseP {k : FrameKind} {q : List QFrame} (h : q.any (·.kind == k) = true) :
    waiting k (q.eraseP (·.kind == k)) + 1 = waiting k q := by
  induction q with
  | nil => simp at h
  | cons x q ih =>
    by_cases hx : x.kind = k
    · simp [waiting, hx]
    · have : q.any (·.kind == k) = true := by simpa [hx] using h
      have := ih this
      simp [waiting, hx] at this ⊢; omega

/-- What a frame that joins leaves of the queue: part of what waited, in order, and perhaps the frame
at the tail. -/
theorem joinQueue_cases (cap : Nat) (f : QFrame) (q : List QFrame) :
    (∃ kept, kept.Sublist q ∧ joinQueue cap f q = kept ++ [f] ∧ (kept.length < cap ∨ kept.length < q.length)
      ∧ (replacesWaiting f.kind = true → waiting f.kind kept + 1 ≤ max 1 (waiting f.kind q)))
      ∨ joinQueue cap f q = q := by
  unfold joinQueue
  split
  · rename_i h
    simp only [Bool.and_eq_true] at h
    left
    refine ⟨_, List.eraseP_sublist, rfl, ?_, ?_⟩
    · right
      obtain ⟨x, hx, hk⟩ := List.any_eq_true.1 h.2
      have := List.length_eraseP_of_mem (p := (fun y : QFrame => y.kind == f.kind)) hx hk
      have := List.length_pos_of_mem hx
      omega
    · intro _
      have := waiting_eraseP h.2
      omega
  · rename_i h
    have h0 : replacesWaiting f.kind = true → waiting f.kind q = 0 := by
      intro hr
      apply waiting_eq_zero
      simpa [hr] using h
    split
    · rename_i hc
      left
      exact ⟨q, List.Sublist.refl _, rfl, .inl hc, fun hr => by have := h0 hr; omega⟩
    · split
      · rename_i h3
        simp only [Bool.and_eq_true] at h3
        left
        refine ⟨_, List.eraseP_sublist, rfl, ?_, ?_⟩
        · right
          obtain ⟨x, hx, hk⟩ := List.any_eq_true.1 h3.2
          have := List.length_eraseP_of_mem (p := (fun y : QFrame => y.kind == .pass)) hx hk
          have := List.length_pos_of_mem hx
          omega
        · intro hr
          have := h0 hr
          have := waiting_sublist (k := f.kind) (List.eraseP_sublist (p := fun x : QFrame => x.kind == .pass) (l := q))
          omega
      · exact .inr rfl

theorem joinQueue_length {cap : Nat} {f : QFrame} {q : List QFrame} (h : q.length ≤ cap) :
    (joinQueue cap f q).length ≤ cap := by
  rcases joinQueue_cases cap f q with ⟨kept, hs, he, hl, -⟩ | he
  · rw [he]; simp; omega
  · rw [he]; exact h

theorem joinQueue_mem {cap : Nat} {f x : QFrame} {q : List QFrame} (h : x ∈ joinQueue cap f q) :
    x = f ∨ x ∈ q := by
  rcases joinQueue_cases cap f q with ⟨kept, hs, he, -, -⟩ | he
  · rw [he] at h
    rcases List.mem_append.1 h with h | h
    · exact .inr (hs.subset h)
    · exact .inl (by simpa using h)
  · rw [he] at h; exact .inr h

theorem joinQueue_waiting_other {cap : Nat} {f : QFrame} {k : FrameKind} {q : List QFrame}
    (h : f.kind ≠ k) : waiting k (joinQueue cap f q) ≤ waiting k q := by
  rcases joinQueue_cases cap f q with ⟨kept, hs, he, -, -⟩ | he
  · rw [he, waiting_append]
    have := waiting_sublist (k := k) hs
    simp [waiting, h] at this ⊢; exact this
  · rw [he]

theorem joinQueue_waiting_le_one {cap : Nat} {f : QFrame} {q : List QFrame}
    (h : waiting f.kind q ≤ 1) (h0 : replacesWaiting f.kind = false → waiting f.kind q = 0) :
    waiting f.kind (joinQueue cap f q) ≤ 1 := by
  rcases joinQueue_cases cap f q with ⟨kept, hs, he, -, hk⟩ | he
  · rw [he, waiting_append]
    have h1 : waiting f.kind [f] = 1 := by simp [waiting]
    have := waiting_sublist (k := f.kind) hs
    cases hr : replacesWaiting f.kind with
    | true => have := hk hr; omega
    | false => have := h0 hr; omega
  · rw [he]; exact h

theorem startNext_queue_sublist (p : PortState) : (startNext p).queue.Sublist p.queue := by
  unfold startNext; split
  · rename_i h; rw [h]; simp
  · exact List.Sublist.refl _

theorem startNext_idle (p : PortState) (h : (startNext p).tx = none) : (startNext p).queue = [] := by
  unfold startNext at h ⊢; split at h
  · simp at h
  · rename_i h2
    · match hp : p.queue with
      | [] => rfl
      | f :: r => exact absurd hp (h2 _ _ h)

/-- The conditions on the drive port. -/
def DrivePortFits (p : PortState) : Prop :=
  (∀ f ∈ p.queue, f.kind = .ref ∨ f.kind = .pass) ∧ p.queue.length ≤ 4 ∧ waiting .ref p.queue ≤ 1
    ∧ (p.tx = none → p.queue = [])

def CabPortFits (p : PortState) : Prop :=
  (∀ f ∈ p.queue, f.kind ≠ .ref) ∧ p.queue.length ≤ 8
    ∧ (∀ k, k ≠ .pass → waiting k p.queue ≤ 1) ∧ (p.tx = none → p.queue = [])

theorem portsInv_iff (s : State) : PortsInv s ↔ DrivePortFits s.link.drivePort ∧ CabPortFits s.link.cabPort
    ∧ (∀ f, s.link.held = some f → f.kind = .mcnf true)
    ∧ (s.power ≠ .on → s.link.drivePort = .silent ∧ s.link.cabPort = .silent ∧ s.link.held = none) := by
  unfold PortsInv DrivePortFits CabPortFits; tauto

theorem DrivePortFits.sub {p : PortState} {q : List QFrame} (h : DrivePortFits p) (hs : q.Sublist p.queue)
    {tx} (ht : tx = none → q = []) : DrivePortFits ⟨tx, q⟩ :=
  ⟨fun f hf => h.1 f (hs.subset hf), hs.length_le.trans h.2.1, (waiting_sublist hs).trans h.2.2.1, ht⟩

theorem CabPortFits.sub {p : PortState} {q : List QFrame} (h : CabPortFits p) (hs : q.Sublist p.queue)
    {tx} (ht : tx = none → q = []) : CabPortFits ⟨tx, q⟩ :=
  ⟨fun f hf => h.1 f (hs.subset hf), hs.length_le.trans h.2.1,
    fun k hk => (waiting_sublist hs).trans (h.2.2.1 k hk), ht⟩

theorem DrivePortFits.offerTo {p : PortState} {f : QFrame} (h : DrivePortFits p)
    (hf : f.kind = .ref ∨ f.kind = .pass) : DrivePortFits (offerTo 4 f p) := by
  have hs := startNext_queue_sublist ⟨p.tx, joinQueue 4 f p.queue⟩
  refine ⟨fun x hx => ?_, hs.length_le.trans (joinQueue_length h.2.1), (waiting_sublist hs).trans ?_,
    startNext_idle _⟩
  · rcases joinQueue_mem (hs.subset hx) with rfl | h'
    · exact hf
    · exact h.1 x h'
  · rcases hf with hf | hf
    · have := joinQueue_waiting_le_one (cap := 4) (f := f) (q := p.queue) (by rw [hf]; exact h.2.2.1)
        (by rw [hf]; simp [replacesWaiting])
      rwa [hf] at this
    · exact (joinQueue_waiting_other (by rw [hf]; simp)).trans h.2.2.1

theorem CabPortFits.offerTo {p : PortState} {f : QFrame} (h : CabPortFits p) (hf : f.kind ≠ .ref)
    (hm : ∀ d, f.kind = .mcnf d → waiting f.kind p.queue = 0) : CabPortFits (offerTo 8 f p) := by
  have hs := startNext_queue_sublist ⟨p.tx, joinQueue 8 f p.queue⟩
  refine ⟨fun x hx => ?_, hs.length_le.trans (joinQueue_length h.2.1),
    fun k hk => (waiting_sublist hs).trans ?_, startNext_idle _⟩
  · rcases joinQueue_mem (hs.subset hx) with rfl | h'
    · exact hf
    · exact h.1 x h'
  · by_cases hk' : f.kind = k
    · subst hk'
      refine joinQueue_waiting_le_one (h.2.2.1 _ hk) ?_
      cases hkind : f.kind with
      | mcnf d => intro _; rw [← hkind]; exact hm d hkind
      | pass => exact absurd hkind hk
      | _ => simp [replacesWaiting]
    · exact (joinQueue_waiting_other hk').trans (h.2.2.1 k hk)

theorem PortState.silent_drive : DrivePortFits .silent := by simp [DrivePortFits, PortState.silent, waiting]
theorem PortState.silent_cab : CabPortFits .silent := by simp [CabPortFits, PortState.silent, waiting]

theorem PortsInv.congr {s t : State} (h : PortsInv s) (h1 : t.power = s.power)
    (h2 : t.link.drivePort = s.link.drivePort) (h3 : t.link.cabPort = s.link.cabPort)
    (h4 : t.link.held = s.link.held) : PortsInv t := by
  rw [portsInv_iff] at h ⊢; rwa [h1, h2, h3, h4]

theorem PortsInv.offerDrive {s : State} {f : QFrame} (h : PortsInv s) (hf : f.kind = .ref ∨ f.kind = .pass) :
    PortsInv (offerDrive f s) := by
  unfold Machine.offerDrive; split
  · rename_i hp
    rw [portsInv_iff] at h ⊢
    refine ⟨h.1.offerTo hf, h.2.1, h.2.2.1, fun hp' => absurd ?_ hp'⟩
    simpa [portsOpen] using hp
  · exact h

theorem PortsInv.offerCab {s : State} {f : QFrame} (h : PortsInv s) (hf : f.kind ≠ .ref)
    (hm : ∀ d, f.kind = .mcnf d → waiting f.kind s.link.cabPort.queue = 0) : PortsInv (offerCab f s) := by
  unfold Machine.offerCab; split
  · rename_i hp
    rw [portsInv_iff] at h ⊢
    refine ⟨h.1, h.2.1.offerTo hf hm, h.2.2.1, fun hp' => absurd ?_ hp'⟩
    simpa [portsOpen] using hp
  · exact h

theorem PortsInv.offerOrHold {s : State} {f : QFrame} (h : PortsInv s) (hf : f.kind = .mcnf true) :
    PortsInv (offerOrHold f s) := by
  unfold Machine.offerOrHold; split
  · rename_i hp
    simp only [Bool.and_eq_true, portsOpen, beq_iff_eq] at hp
    rw [portsInv_iff] at h ⊢
    refine ⟨h.1, h.2.1, ?_, fun hp' => absurd hp.1 hp'⟩
    intro g hg; simp at hg; subst hg; exact hf
  · rename_i hp
    by_cases ho : portsOpen s = true
    · refine h.offerCab (by rw [hf]; simp) fun d _ => ?_
      rw [hf]; apply waiting_eq_zero
      simpa [ho, deferredWaiting] using hp
    · simpa [Machine.offerCab, ho] using h

theorem PortsInv.offerHeld {s : State} (h : PortsInv s) (hw : deferredWaiting s = false) :
    PortsInv (offerHeld s) := by
  unfold Machine.offerHeld; split
  · rename_i f hf
    have hk : f.kind = .mcnf true := ((portsInv_iff s).1 h).2.2.1 f hf
    refine PortsInv.offerCab ?_ (by rw [hk]; simp) fun _ _ => ?_
    · rw [portsInv_iff] at h ⊢
      exact ⟨h.1, h.2.1, by simp, fun hp => ⟨(h.2.2.2 hp).1, (h.2.2.2 hp).2.1, rfl⟩⟩
    · rw [hk]; exact waiting_eq_zero hw
  · exact h

theorem PortsInv.offerDeferred {s : State} {f : QFrame} (h : PortsInv s) (hf : f.kind = .mcnf true) :
    PortsInv (offerDeferred f s) := by
  unfold Machine.offerDeferred; split
  · rename_i hp
    simp only [Bool.and_eq_true, Bool.not_eq_true'] at hp
    exact (h.offerHeld hp.2).offerOrHold hf
  · exact h.offerOrHold hf

theorem PortsInv.confirm {s : State} {d code tag outcome data} (h : PortsInv s)
    (hd : d = false → immediateWaiting s = false) : PortsInv (confirm d code tag outcome data s) := by
  unfold Machine.confirm; simp only
  split
  · split
    · rename_i hdd; subst hdd
      exact PortsInv.offerDeferred (PortsInv.congr h rfl rfl rfl rfl) rfl
    · rename_i hdd; simp at hdd; subst hdd
      refine PortsInv.offerCab (PortsInv.congr h rfl rfl rfl rfl) (by simp) fun _ _ => ?_
      apply waiting_eq_zero
      simpa [immediateWaiting] using hd rfl
  · exact h

/-! ### The frames at a port in order -/

@[simp] theorem startNext_frames (p : PortState) : (startNext p).frames = p.frames := by
  unfold startNext; split <;> simp_all [PortState.frames]
theorem offerTo_frames (cap : Nat) (f : QFrame) (p : PortState) :
    (offerTo cap f p).frames = p.tx.toList ++ joinQueue cap f p.queue := by
  simp [offerTo, startNext_frames]; rfl

/-- An offered REF stands last at the drive port: a full queue without a REF holds a PASS frame to evict
(R8). -/
theorem offerTo_newest_drive {f : QFrame} {p : PortState} (h : DrivePortFits p) (hf : f.kind = .ref) :
    (offerTo 4 f p).newest = some f := by
  unfold PortState.newest; rw [offerTo_frames]
  have : ∃ kept, joinQueue 4 f p.queue = kept ++ [f] := by
    unfold joinQueue
    split
    · exact ⟨_, rfl⟩
    · rename_i h1
      split
      · exact ⟨_, rfl⟩
      · rename_i h2
        split
        · exact ⟨_, rfl⟩
        · rename_i h3
          exfalso
          simp [hf, replacesWaiting, evictsPass] at h1 h3
          match hq : p.queue with
          | [] => simp [hq] at h2
          | x :: r =>
            have := h.1 x (by simp [hq])
            have a := h1 x (by simp [hq])
            have b := h3 x (by simp [hq])
            tauto
  obtain ⟨k, hk⟩ := this
  rw [hk, ← List.append_assoc]; simp

/-- A queue in which only some kinds wait, one frame of each at most, is no longer than their number. -/
theorem waiting_length (q : List QFrame) (ks : List FrameKind) (h : ∀ f ∈ q, f.kind ∈ ks) (hw : ∀ k ∈ ks, waiting k q ≤ 1) :
    q.length ≤ ks.length := by
  induction ks generalizing q with
  | nil => 
    have : q = [] := List.eq_nil_iff_forall_not_mem.2 (fun a ha => by simpa using h a ha)
    simp [this]
  | cons k ks ih =>
    have h1 := ih (q.filter (fun f => !(f.kind == k))) (by
      intro f hf; simp at hf; have := h f hf.1; simp at this; tauto) (by
      intro k' hk'
      exact (waiting_sublist List.filter_sublist).trans (hw k' (by simp [hk'])))
    have h2 := hw k (by simp)
    have : q.length = waiting k q + (q.filter (fun f => !(f.kind == k))).length := by
      simp only [waiting, List.countP_eq_length_filter]
      have := List.length_eq_length_filter_add (l := q) (fun f => f.kind == k)
      exact this
    simp; omega

/-- An offered frame but PASS joins the cab-port queue last: a full queue holds a PASS frame to evict
(R9). -/
theorem joinQueue_last_cab {f : QFrame} {p : PortState} (h : CabPortFits p) (hr : f.kind ≠ .pass) :
    ∃ kept, joinQueue 8 f p.queue = kept ++ [f] := by
  unfold joinQueue
  split
  · exact ⟨_, rfl⟩
  · rename_i h1
    split
    · exact ⟨_, rfl⟩
    · rename_i h2
      split
      · exact ⟨_, rfl⟩
      · rename_i h3
        exfalso
        have hp : ∀ x ∈ p.queue, x.kind ≠ .pass := by
          simp [evictsPass, hr] at h3; exact h3
        have hl := waiting_length p.queue [.stat .hoist, .stat .drag, .stat .swing, .stat .propel, .rpt, .mcnf true, .mcnf false] (by
          intro x hx
          have a := h.1 x hx
          have b := hp x hx
          cases hk : x.kind with
          | ref => exact absurd hk a
          | pass => exact absurd hk b
          | stat d => cases d <;> simp
          | rpt => simp
          | mcnf d => cases d <;> simp) (by
          intro k hk
          exact h.2.2.1 k (by rintro rfl; simp at hk))
        simp at hl; omega

/-- An offered frame but PASS stands last at the cab port (R9). -/
theorem offerTo_newest_cab {f : QFrame} {p : PortState} (h : CabPortFits p) (hr : f.kind ≠ .pass) :
    (offerTo 8 f p).newest = some f := by
  obtain ⟨k, hk⟩ := joinQueue_last_cab h hr
  unfold PortState.newest; rw [offerTo_frames, hk, ← List.append_assoc]; simp

/-! ### A deferred confirmation that falls due -/

theorem deferredWaiting_iff (s : State) :
    deferredWaiting s = true ↔ ∃ f ∈ s.link.cabPort.queue, f.kind = .mcnf true := by
  simp [deferredWaiting]

/-- Everything an offer of a deferred confirmation does to the cab port and the held place, the ports
open (R10). -/
theorem offerDeferred_joined {s : State} {q : QFrame} (h : PortsInv s) (hp : s.power = .on)
    (hq : q.kind = .mcnf true) : DeferredJoined q s (offerDeferred q s) := by
  have ho : portsOpen s = true := by simp [portsOpen, hp]
  have hcab := ((portsInv_iff s).1 h).2.1
  unfold DeferredJoined offerDeferred
  simp only [← deferredWaiting_iff]
  refine ⟨fun hw => by simp [hw, offerOrHold, ho], fun hw hheld => ?_, fun g hw hheld => ?_⟩
  · have hw' : deferredWaiting s = false := by simpa using hw
    simp only [ho, hw', Bool.not_false, Bool.and_self, if_true, offerHeld, hheld, offerOrHold,
      Bool.and_false, Bool.false_eq_true, if_false, offerCab]
    exact ⟨rfl, offerTo_newest_cab hcab (by rw [hq]; simp)⟩
  · have hw' : deferredWaiting s = false := by simpa using hw
    have hg : g.kind = .mcnf true := ((portsInv_iff s).1 h).2.2.1 g hheld
    have e : offerHeld s = s.withLink { s.link with
        held := none, cabPort := offerTo cabQueueCap g s.link.cabPort } := by
      simp [offerHeld, hheld, offerCab, portsOpen, hp]
    simp only [ho, hw', Bool.not_false, Bool.and_self, if_true]
    rw [e]
    refine ⟨fun htx => ?_, fun htx => ?_⟩
    · have e2 : offerTo cabQueueCap g s.link.cabPort = { tx := some g, queue := [] } := by
        simp [offerTo, joinQueue, hcab.2.2.2 htx, startNext, htx, cabQueueCap]
      rw [e2]
      simp [offerOrHold, portsOpen, hp, deferredWaiting, offerCab, offerTo, joinQueue, startNext,
        cabQueueCap, PortState.frames]
    · obtain ⟨kept, hk⟩ := joinQueue_last_cab hcab (f := g) (by rw [hg]; simp)
      have hd : deferredWaiting (s.withLink { s.link with
          held := none, cabPort := offerTo cabQueueCap g s.link.cabPort }) = true := by
        rw [deferredWaiting_iff]
        refine ⟨g, ?_, hg⟩
        obtain ⟨x, hx⟩ := Option.ne_none_iff_exists'.1 htx
        simp [offerTo, startNext, cabQueueCap, hk, hx]
      simp only [offerOrHold, hd, Bool.and_true, portsOpen, State.withLink_power, hp,
        beq_self_eq_true, if_true, State.withLink_link]
      exact ⟨trivial, offerTo_newest_cab hcab (by rw [hg]; simp)⟩

end Sys2Proof.Machine
end

