-- ==== Sys2Proof/Laws/Starts.lean ====
section
/-! SUPPORT. What the items found at a power-on start make of the store (R189). -/

namespace Sys2Proof.Machine

theorem presented_cons {α : Type} (copy x : α) (right : Bool) (named : List (α × Bool)) :
    presented (some copy) ((x, right) :: named) = presented (if right then some x else none) named := by
  cases right <;> simp only [presented, List.all_cons, Bool.false_and, Bool.true_and, List.map_cons,
    List.getLastD_cons] <;> rfl

theorem presented_none {α : Type} (named : List (α × Bool)) : presented none named = none := rfl

theorem PerKind.get_set {α : Type} (p : PerKind α) (k k' : Kind) (x : α) :
    (p.set k' x).get k = if k' = k then x else p.get k := by cases k <;> cases k' <;> rfl

/-- The images after the items found: each kind's is as its copy was left and as the items name it. -/
theorem placeItems_image (found : List FoundItem) (k : Kind) (st : RetainedStore) :
    (found.foldl placeItem st).images.get k = presented (st.images.get k) (imagesFound k found) := by
  induction found generalizing st with
  | nil => cases h : st.images.get k <;> simp [presented, imagesFound, h]
  | cons i l ih =>
    rw [List.foldl_cons, ih]
    cases i with
    | image k' b =>
      by_cases hk : k' = k
      · subst hk
        have e : imagesFound k' (.image k' b :: l) = (b, true) :: imagesFound k' l := by simp [imagesFound]
        rw [e]
        cases h : st.images.get k' with
        | none => simp [placeItem, h, presented_none]
        | some c => simp [placeItem, h, presented_cons, PerKind.get_set]
      · have e : imagesFound k (.image k' b :: l) = imagesFound k l := by simp [imagesFound, hk]
        rw [e]; simp only [placeItem]; split <;> simp [PerKind.get_set, hk]
    | key b r => simp only [placeItem]; split <;> rfl
    | limits b r => simp only [placeItem]; split <;> rfl

/-- The key after the items found. -/
theorem placeItems_key (found : List FoundItem) (st : RetainedStore) :
    (found.foldl placeItem st).keyCopy = presented st.keyCopy (keysFound found) := by
  induction found generalizing st with
  | nil => cases h : st.keyCopy <;> simp [presented, keysFound, h]
  | cons i l ih =>
    rw [List.foldl_cons, ih]
    cases i with
    | key b r =>
      have e : keysFound (.key b r :: l) = (b, r) :: keysFound l := rfl
      rw [e]
      cases h : st.keyCopy with
      | none => simp [placeItem, h, presented_none]
      | some c => simp [placeItem, h, presented_cons]
    | image k b => simp only [placeItem]; split <;> rfl
    | limits b r => simp only [placeItem]; split <;> rfl

/-- The retained set after the items found. -/
theorem placeItems_limits (found : List FoundItem) (st : RetainedStore) :
    (found.foldl placeItem st).limitsCopy = presented st.limitsCopy (limitsFound found) := by
  induction found generalizing st with
  | nil => cases h : st.limitsCopy <;> simp [presented, limitsFound, h]
  | cons i l ih =>
    rw [List.foldl_cons, ih]
    cases i with
    | limits b r =>
      have e : limitsFound (.limits b r :: l) = (b, r) :: limitsFound l := rfl
      rw [e]
      cases h : st.limitsCopy with
      | none => simp [placeItem, h, presented_none]
      | some c => simp [placeItem, h, presented_cons]
    | image k b => simp only [placeItem]; split <;> rfl
    | key b r => simp only [placeItem]; split <;> rfl

end Sys2Proof.Machine
end

