-- ==== Sys2Proof/Laws/Sweeps.lean ====
section
/-! SUPPORT. The lists of the sweeps: what an identity that joins does to them. -/

namespace Sys2Proof.Machine

theorem joinsList_iff (listed : List Identity) (i : Identity) :
    joinsList listed i = true ↔ Joins listed i := by simp [joinsList]

/-- A list to which an identity is added if it joins stays ascending (R117). -/
theorem Ascending.join {listed : List Identity} {i : Identity} (h : Ascending listed)
    (hi : Joins listed i) : Ascending (listed ++ [i]) := by
  simp only [Ascending, List.pairwise_append, List.pairwise_singleton, List.mem_singleton]
  exact ⟨h, trivial, fun j hj _ e => e ▸ hi.2 j hj⟩

/-- The index of an enrolled identity names it in the table. -/
theorem stationIndex_spec {s : State} {i : Identity} {n : Nat} (h : stationIndex s i = some n) :
    ∃ t, stationOf s = some t ∧ t.ids[n]? = some i := by
  unfold stationIndex at h
  split at h
  · rename_i t ht
    obtain ⟨hn, hp, -⟩ := List.findIdx?_eq_some_iff_getElem.1 h
    exact ⟨t, ht, by simpa [List.getElem?_eq_getElem hn] using hp⟩
  · cases h

/-- What an identity that a pass of the conditional sweep yields does: nothing, or its station joins the
found list and its identity the identities found (R124). -/
theorem foundIdentity_cases (i : Identity) (s : State) :
    foundIdentity i s = s
      ∨ ∃ n, Joins (foundIdentities s) i ∧ n < stationCount s
        ∧ foundIdentity i s = s.withLine { s.line with found := s.line.found ++ [n] }
        ∧ foundIdentities (foundIdentity i s) = foundIdentities s ++ [i] := by
  unfold foundIdentity
  split
  · rename_i hj
    split
    · rename_i n hn
      obtain ⟨t, ht, hi⟩ := stationIndex_spec hn
      have hlt : n < t.ids.length := (List.getElem?_eq_some_iff.1 hi).1
      refine .inr ⟨n, (joinsList_iff _ _).1 hj, by simp [stationCount, ht, hlt], rfl, ?_⟩
      have ht' : stationOf (s.withLine { s.line with found := s.line.found ++ [n] }) = some t := ht
      simp only [foundIdentities, ht, ht', State.withLine_line, List.filterMap_append]
      simp [hi]
    · exact .inl rfl
  · exact .inl rfl

/-- A list of distinct stations of a table of 24 has at most 24 entries (R124). -/
theorem found_length_le {s : State} (hc : stationCount s ≤ 24)
    (hn : ∀ n ∈ s.line.found, n < stationCount s) (ha : Ascending (foundIdentities s)) :
    s.line.found.length ≤ 24 := by
  cases ht : stationOf s with
  | none =>
    have : s.line.found = [] := List.eq_nil_iff_forall_not_mem.2 fun n h => by
      simpa [stationCount, ht] using hn n h
    simp [this]
  | some t =>
    simp only [foundIdentities, stationCount, ht] at hn hc ha
    have hd : s.line.found.Nodup := by
      refine List.Pairwise.of_map (S := fun a b : Nat => a ≠ b) id (fun _ _ h => h) ?_
      rw [List.map_id]
      refine (List.pairwise_filterMap.1 ha).imp_of_mem ?_
      rintro a b ha' hb' h rfl
      have := List.getElem?_eq_getElem (hn a ha')
      exact absurd (h _ this _ this) (Nat.lt_irrefl _)
    have hs : s.line.found ⊆ List.range t.ids.length := fun n h => List.mem_range.2 (hn n h)
    have := (hd.subperm hs).length_le
    simp at this; omega

/-- An active STATION table has at most 24 stations (R118, R177). -/
theorem stationCount_le {s : State} (h : ImagesInv s) : stationCount s ≤ 24 := by
  cases hi : s.tables.active.station with
  | none => simp [stationCount, stationOf, hi]
  | some image =>
    have hv := h.1 .station image hi
    simp only [imageValid, validateContent, validateStation, firstFailure, Bool.and_eq_true,
      Option.isNone_iff_eq_none, Option.map_eq_none_iff, List.find?_eq_none] at hv
    have := hv.2 (2, _) (List.mem_cons_of_mem _ (List.mem_cons_self ..))
    simp at this
    simpa [stationCount, stationOf, hi, readStation] using this.1

/-- The lists of the sweeps stay in order where the table, the found list and the enrollment stay. -/
theorem sweepListsInv_congr {s t : State} (h : SweepListsInv s)
    (ht : t.tables.active.station = s.tables.active.station) (hf : t.line.found = s.line.found)
    (he : ∀ e, t.line.flight = .enroll e → s.line.flight = .enroll e ∨ e.list = []) :
    SweepListsInv t := by
  have hs : stationOf t = stationOf s := by simp [stationOf, ht]
  obtain ⟨h1, h2, h3, h4⟩ := h
  refine ⟨by simpa [stationCount, hs, hf] using h1, by simpa [foundIdentities, hs, hf] using h2,
    by simpa [hf] using h3, fun e h => ?_⟩
  rcases he e h with h | h
  · exact h4 e h
  · simp [h, Ascending]

/-- An identity that the conditional sweep yields keeps the lists in order (R124). -/
theorem sweepListsInv_foundIdentity {s : State} (hi : ImagesInv s) (h : SweepListsInv s)
    (i : Identity) : SweepListsInv (foundIdentity i s) := by
  rcases foundIdentity_cases i s with e | ⟨n, hj, hn, e, hl⟩
  · rwa [e]
  · have hin : ∀ m ∈ (foundIdentity i s).line.found, m < stationCount (foundIdentity i s) := by
      intro m hm
      rw [e] at hm ⊢
      rcases List.mem_append.1 hm with hm | hm
      · exact h.1 m hm
      · rw [List.mem_singleton.1 hm]; exact hn
    have ha : Ascending (foundIdentities (foundIdentity i s)) := hl ▸ h.2.1.join hj
    have hc : stationCount (foundIdentity i s) = stationCount s := by rw [e]; rfl
    refine ⟨hin, ha, found_length_le (hc ▸ stationCount_le hi) hin ha, ?_⟩
    rw [e]; exact h.2.2.2

/-- A pass of the conditional sweep keeps the lists in order (R124). -/
theorem sweepListsInv_completeSeekIf {s : State} (hi : ImagesInv s) (h : SweepListsInv s)
    (answer : PassAnswer) (r : Round) (hr : s.line.flight = .round r) :
    SweepListsInv (completeSeekIf answer r s) := by
  have reading : ∀ u : State, SweepListsInv u → (∃ r, u.line.flight = .round r) →
      SweepListsInv (beginReading r u) := by
    rintro u hu ⟨r', hr'⟩
    refine sweepListsInv_congr hu (by simp) (by simp) fun e he => ?_
    simp only [beginReading, beginRotation, beginCompletion, setFlight] at he
    (repeat' split at he) <;> simp_all
  unfold completeSeekIf
  split
  · exact reading s h ⟨r, hr⟩
  · rename_i i marker _
    have hf := sweepListsInv_foundIdentity hi h i
    dsimp only
    split
    · exact reading _ hf ⟨r, by simpa using hr⟩
    · exact sweepListsInv_congr hf (by simp) (by simp) fun e he => by simp [setFlight] at he

/-- A pass of the enrollment sweep keeps the lists in order (R130). -/
theorem sweepListsInv_completeSeek {s : State} (h : SweepListsInv s) (answer : PassAnswer)
    (e : Enrollment) (he : s.line.flight = .enroll e) :
    SweepListsInv (completeSeek answer e s) := by
  have ended : ∀ list more, SweepListsInv (endEnrollment list more s) := fun list more => by
    refine sweepListsInv_congr h ?_ ?_ fun e' h' => ?_
    · unfold endEnrollment; dsimp only; split <;> simp
    · unfold endEnrollment; dsimp only; split <;> simp
    · unfold endEnrollment at h'; dsimp only at h'
      split at h' <;> simp [setFlight] at h'
  unfold completeSeek
  split
  · exact ended _ _
  · rename_i i marker _
    split
    · exact ended _ _
    · rename_i hfull
      dsimp only
      split
      · exact ended _ _
      · refine ⟨h.1, h.2.1, h.2.2.1, fun e' he' => ?_⟩
        simp only [setFlight, State.withLine_line, Flight.enroll.injEq] at he'
        obtain ⟨ha, hl⟩ := h.2.2.2 e he
        subst he'
        dsimp only
        split
        · rename_i hj
          refine ⟨ha.join ((joinsList_iff _ _).1 hj), ?_⟩
          simp only [hj, Bool.true_and, beq_iff_eq, enrollCap] at hfull
          simp only [List.length_append, List.length_singleton]
          omega
        · exact ⟨ha, hl⟩

end Sys2Proof.Machine
end

