-- ==== Sys2Proof/Tests/Slice0.lean ====
section
/-! SUPPORT. Tests on the worked examples of the manual, the smoke test of WellFormed, and a witness for
the hypotheses of each statement. -/

namespace Sys2Proof.Tests

open Sys2Proof.Machine

-- One theorem after another: threads that wait for the kernel would each hold a stack.
set_option Elab.async false

/-! ### Frames, images and states to test with -/

/-- An image: its content and the trailer of R177. -/
def sealed (content : List Byte) : Image :=
  let signed := content ++ [0xC6#8]
  signed ++ [-(byteSum signed)]

def refFrame (walk : Bool) (hoist drag swing propel : Int) : List Byte :=
  buildFrame 0x11 0x7F 0x01
    (flagByte walk ++ u8 9 ++ i16 hoist ++ i16 drag ++ i16 swing ++ i16 propel ++ u8 15)

def statFrame (d : Motion) (position flags : Nat) (current : Int) : List Byte :=
  buildFrame 0x12 0x01 (driveAddress d) (u16 position ++ u8 flags ++ i16 current ++ i16 0 ++ u8 0)

def mreqFrame (code : Nat) (params : List Byte) : List Byte :=
  buildFrame 0x14 0x7E 0x01 (u8 code ++ u8 77 ++ params)

/-- A frame of a class that the part does not know, for a drive. -/
def otherFrame : List Byte := buildFrame 0x33 0x10 0x05 [1, 2, 3]

/-- Selection 1, hold interval 20, drive silence 60, neutral band 20, blind creep 50. -/
def plantImage : Image := sealed (u8 1 ++ u8 20 ++ u16 60 ++ u8 20 ++ u8 50)

def zoneRecord (limit swing : Nat) (park : Bool) : List Byte :=
  u16 limit ++ u16 limit ++ u16 limit ++ u16 limit ++ u16 swing ++ flagByte park

/-- Zone 3 is a walk park zone; every limit is 1000. -/
def zoneImage : Image := sealed ((List.range 16).flatMap fun z => zoneRecord 1000 1000 (z == 3))

/-- The SWING table of the example of 4.7. -/
def swingImage : Image :=
  sealed (u16 1250 ++ u16 40 ++ u8 30 ++ u16 150
    ++ u8 4 ++ u16 0 ++ u16 1000 ++ u16 400 ++ u16 900 ++ u16 800 ++ u16 700 ++ u16 2000 ++ u16 300
    ++ u8 3 ++ u16 500 ++ u16 4000 ++ u8 0 ++ u16 0 ++ u16 28000 ++ u16 32000 ++ u8 2 ++ i16 300
    ++ u16 31000 ++ u16 33000 ++ u8 1 ++ u16 600)

/-- Window 33 000 to 3 000, step timeout 1500, threshold 150, phases at 300, 1200, 2400 and 3300,
propel limit 800, walk swing limit 250; commands and feedbacks at stations 0 and 1. -/
def walkImage : Image :=
  sealed (u16 33000 ++ u16 3000 ++ u16 1500 ++ u16 150 ++ u16 300 ++ u16 1200 ++ u16 2400 ++ u16 3300
    ++ u16 800 ++ u16 250 ++ u8 0 ++ u8 0 ++ u8 0 ++ u8 1 ++ u8 1 ++ u8 0 ++ u8 1 ++ u8 1)

/-- The identity of station number n, with its check byte. -/
def stationId (n : Nat) : Identity :=
  let i : Identity := BitVec.ofNat 48 (n * 256)
  i ||| (identityCheck i).setWidth 48

/-- Three stations, scan period 100. -/
def stationImage : Image :=
  sealed (u16 100 ++ u8 3 ++ identityBytes (stationId 1) ++ identityBytes (stationId 2)
    ++ identityBytes (stationId 3))

/-- One TRIP definition on drive HOIST's flag 2, latched, notifying, delay 5, with output channel A of
station 2; one RESTRICT definition of zone 3 that names every motion, derate 250. -/
def alarmImage : Image :=
  sealed (u8 2
    ++ (u8 2 ++ u8 0 ++ u8 2 ++ u8 0 ++ u16 0 ++ u16 0 ++ u8 4 ++ u8 15 ++ u16 0 ++ u8 1 ++ u8 1
      ++ u8 1 ++ u8 2 ++ u8 0 ++ u16 5)
    ++ (u8 4 ++ u8 3 ++ u8 0 ++ u8 0 ++ u16 0 ++ u16 0 ++ u8 2 ++ u8 15 ++ u16 250 ++ u8 0 ++ u8 0
      ++ u8 0 ++ u8 0 ++ u8 0 ++ u16 0))

/-- Four definitions of class ADVISE: the level of station 0's channel A with polarity 1, the edge of
station 1's channel B, drive HOIST's current above 100 with hysteresis 10, and sector 0. -/
def sourcesImage : Image :=
  let rest : List Byte := u8 1 ++ u8 0 ++ u16 0 ++ u8 0 ++ u8 0 ++ u8 0 ++ u8 0 ++ u8 0 ++ u16 0
  sealed (u8 4 ++ (u8 0 ++ u8 0 ++ u8 0 ++ u8 1 ++ u16 0 ++ u16 0 ++ rest)
    ++ (u8 1 ++ u8 1 ++ u8 1 ++ u8 0 ++ u16 0 ++ u16 0 ++ rest)
    ++ (u8 3 ++ u8 0 ++ u8 0 ++ u8 0 ++ u16 100 ++ u16 10 ++ rest)
    ++ (u8 5 ++ u8 0 ++ u8 0 ++ u8 0 ++ u16 0 ++ u16 0 ++ rest))

def nodeBytes (reach height : Int) (zone : Nat) : List Byte := i16 reach ++ i16 height ++ u8 1 ++ u8 zone

/-- The first fields of a GEOMETRY image: spacings 256, hoist 100..52 000, drag 100..61 000, N 3, the
gains 20, 10, 20, 20 and the creeps 40. -/
def geometryHead : List Byte :=
  u8 8 ++ u8 8 ++ u16 100 ++ u16 52000 ++ u16 100 ++ u16 61000 ++ u8 3
    ++ u16 20 ++ u16 10 ++ u16 20 ++ u16 20 ++ u8 40 ++ u8 40 ++ u8 40 ++ u8 40

/-- A GEOMETRY image whose cell [0][0] has the four corners of the worked case of 2.5, every other node
feasible. The fractions of that case are those of the payouts 136 and 132. -/
def geometryImage : Image :=
  sealed (geometryHead ++ nodeBytes 8410 (-1220) 3 ++ nodeBytes 8650 (-1080) 3
    ++ (List.replicate 62 (nodeBytes 5000 0 7)).flatten
    ++ nodeBytes 8380 (-1310) 3 ++ nodeBytes 8615 (-1170) 3
    ++ (List.replicate 4030 (nodeBytes 5000 0 7)).flatten)

def nativeLimits : Limits := { hoistMin := 100, hoistMax := 52000, dragMin := 100, dragMax := 61000 }

def images : PerKind (Option Image) :=
  { plant := some plantImage, geometry := some geometryImage, zone := some zoneImage
    swing := some swingImage, walk := some walkImage, alarm := some alarmImage
    station := some stationImage }

/-- A station that was read with its feedback as DIG has it: A held energised. -/
def presentRecord : LiveRecord :=
  { freshRecord with
    state := .present, levels := ⟨some true, some false⟩, held := ⟨some true, some false⟩ }

/-- A part in DIG with every table active, its store in step with them, both payouts and the angle known:
the position of 2.5, the corrected angle 34 000. -/
def digging : State :=
  { State.reset with
    link := { State.reset.link with
      cabState := .normal, silenceTimer := some 100, holdTimer := none, lastCycle := some 8
      lastOriginHold := false
      drives := .const { current := some 40, freshness := .fresh, timer := some 60 } }
    position := {
      hoistPayout := { payout := some 136, valid := true }
      dragPayout := { payout := some 132, valid := true }
      status := .resolved, count := 0, reach := 8516, height := -1196, zone := 3, edge := false
      working := some nativeLimits }
    swing := { SwingUnit.start with raw := some 35250, corrected := some 34000 }
    walk := { WalkSequencer.start with
      usable := true, state := .dig, cam := .clear
      delivered := List.replicate 3
        { state := .present, levels := ⟨some true, some false⟩ } }
    line := { StationLine.start with
      records := [
        { presentRecord with desired := ⟨some true, some false⟩ }, presentRecord, presentRecord]
      scanTimer := some 100 }
    alarm := { AlarmUnit.start with bound := [true, true], time := 4294967295 }
    store := { RetainedStore.blank with
      images := images, imageStatus := .const .current }
    tables := { active := images, commitNo := .const 255 } }

/-- The same part with the four sources above, all bound. -/
def sourced (s : State) : State :=
  (s.withTables { s.tables with active := s.tables.active.set .alarm (some sourcesImage) }).withAlarm
    { s.alarm with bound := List.replicate 4 true }

/-! ### The manual's worked examples and tables -/

/-- 2.5: the values of the four corners, at the fractions 136 and 132. -/
theorem test_interpolation_of_the_worked_case :
    interpolate 256 256 136 132 8410 8380 8650 8615 = 8516
      ∧ interpolate 256 256 136 132 (-1220) (-1310) (-1080) (-1170) = -1196 := by decide

/-- 2.5: an attempt in a cell with those corners. -/
theorem test_attempt_of_the_worked_case :
    attempt digging geometryImage
      = some { reach := 8516, height := -1196, zone := 3, edge := false } := by decide +kernel

/-- R30: an exact half goes toward plus infinity. -/
theorem test_half_rounds_up :
    interpolate 64 64 32 0 (-1200) (-1201) 0 0 = -1200
      ∧ interpolate 64 64 40 0 (-1200) (-1201) 0 0 = -1201 := by decide

/-- The table of 3.4: the RAISE term at gain 20, creep 40, and the LOWER term at gain 10. -/
theorem test_approach_terms_of_the_example :
    [4100, 500, 200, 150, 1, 0, -20].map (fun d => approachTerm d 20 40)
        = [820, 100, 40, 40, 40, 0, 0]
      ∧ approachTerm 45000 10 40 = 1000 := by decide

/-- R71: the table of the rule. -/
theorem test_arcs_of_the_table :
    [arcContains 500 4000 500, arcContains 500 4000 3999, arcContains 500 4000 4000,
      arcContains 35000 1000 35500, arcContains 35000 1000 200, arcContains 35000 1000 1000,
      arcContains 35000 1000 34999] = [true, true, false, true, true, false, false] := by decide

/-- R75: the table of the rule. -/
theorem test_load_curve_of_the_table :
    [0, 640, 1001, 1003, 2000].map
        (loadCurve [(0, 1000), (400, 900), (800, 700), (2000, 300)]) = [1000, 780, 633, 632, 300]
      ∧ [100, 300].map (loadCurve [(200, 400), (1500, 900)]) = [400, 438] := by decide

/-- 4.7: the swing limits of row 1, at the corrected angle 35 550 and held load 640. -/
theorem test_swing_limits_of_the_example :
    let s := digging.withSwing { digging.swing with corrected := some 35550, heldLoad := 640 }
    swingLimit s true = 380 ∧ swingLimit s false = 780 := by decide +kernel

/-- 6.2: a sweep over three stations; the markers are 9, 20 and none. -/
theorem test_sweep_of_the_example :
    let x := stationId 5
    let y := x ||| 512
    let z := x ||| 1048576
    let reads (sweep : Sweep) := runPass sweep (passAnswer sweep [z, x, y])
    reads firstSweep = some (x, some 9) ∧ reads ⟨some 9, x⟩ = some (y, some 20)
      ∧ reads ⟨some 20, y⟩ = some (z, none) := by decide +kernel

/-- R177: the images of the tests are images their kinds can have. -/
theorem test_images_are_valid :
    imageValid .plant plantImage = true ∧ imageValid .zone zoneImage = true
      ∧ imageValid .swing swingImage = true ∧ imageValid .walk walkImage = true
      ∧ imageValid .alarm alarmImage = true ∧ imageValid .station stationImage = true := by
  decide +kernel

theorem test_geometry_image_is_valid : imageValid .geometry geometryImage = true := by decide +kernel

/-- The check of "123456789" under the generator R2 describes; the value is known outside the manual
(log entry 8). -/
theorem test_check_of_digits :
    checkSequence [0x31, 0x32, 0x33, 0x34, 0x35, 0x36, 0x37, 0x38, 0x39] = 0x906E := by decide +kernel

/-- R190: reset is a power-on start with an empty store (log entry 1). -/
theorem test_reset_is_a_power_on_start :
    powerOn [] (State.dark .blank []) = State.reset := by decide +kernel

/-- R10: with one confirmation held and none waiting, a newly due one leaves after it. -/
theorem test_held_confirmation_leaves_first :
    let q (n : Byte) : QFrame := { kind := .mcnf true, bytes := [n] }
    let s := digging.withLink { digging.link with held := some (q 1) }
    (offerDeferred (q 2) s).link.cabPort.frames = [q 1, q 2]
      ∧ (offerDeferred (q 2) s).link.held = none := by decide +kernel

/-- R42, R170, R189: what the operand of a power-on start names where the store was left with no copy is
not found. -/
theorem test_no_copy_is_found_where_none_was_left :
    let found : List FoundItem :=
      [.key (List.replicate 16 7) true, .limits nativeLimits true, .image .plant plantImage]
    presentedStore .blank found = .blank := by decide +kernel

/-- R114: the identity goes low byte first after PICK, and nothing follows an unanswered roll call. -/
theorem test_pick_sends_the_identity_low_byte_first :
    let transaction : Transaction := .picked 0x0000AB000102 (.readClearing 0)
    sentInTransaction true [] transaction
        = [.rollCall, .pick, .byte 0x02, .byte 0x01, .byte 0x00, .byte 0xAB, .byte 0x00, .byte 0x00,
          .readClearing]
      ∧ sentInTransaction false [] transaction = [.rollCall] := by decide

/-! ### The smoke test of WellFormed: for each check, a term that passes and one that it refuses -/

theorem test_wellFormed_frames :
    let ref := refFrame true 1 2 3 4
    let stat := statFrame .drag 7300 1 0
    let mreq := mreqFrame 0x01 []
    [Instr.frameDiscarded .cab (ref.set 5 99), .frameDiscarded .drive ref, .refTakenFromCab ref,
        .statTaken stat, .passTraffic .cab otherFrame, .passTraffic .drive otherFrame,
        .mreqDiscarded mreq].map Instr.wellFormed = List.replicate 7 true
      ∧ [Instr.frameDiscarded .cab ref, .frameDiscarded .drive stat, .refTakenFromCab stat,
        .statTaken ref, .passTraffic .cab ref, .passTraffic .drive stat, .mreqDiscarded ref].map
          Instr.wellFormed = List.replicate 7 false := by decide +kernel

/-- A request row takes the MREQ of its own code alone. -/
theorem test_wellFormed_requests :
    let rows : List (List Byte → Instr) :=
      [.identify, .tableState, .tableRead, .tableBegin, .tableBlock, .tableEnd, .tableCommit,
        .limitsRead, .limitsSet, .stationStatus, .stationOutput, .stationEnroll, .alarmListRead,
        .alarmAcknowledge, .alarmReAnnounce, .firstOutRead, .firstOutClear, .logRead, .keySet,
        .keyUnlock, .keyClear, .guard, .freeze, .restart]
    (rows.zipIdx 1).map (fun (row, code) => (row (mreqFrame code [])).wellFormed)
        = List.replicate 24 true
      ∧ (rows.zipIdx 2).map (fun (row, code) => (row (mreqFrame code [])).wellFormed)
        = List.replicate 24 false
      ∧ (Instr.undefinedRequestCode (mreqFrame 0x19 [])).wellFormed = true
      ∧ (Instr.undefinedRequestCode (mreqFrame 0x18 [])).wellFormed = false := by decide +kernel

theorem test_wellFormed_slot :
    (Instr.delayTimerExpiry 63).wellFormed = true ∧ (Instr.delayTimerExpiry 64).wellFormed = false := by
  decide

/-- The table gives no row bits, so no word spells a command (log entry 34). -/
theorem test_no_word_spells_a_command (nbits w : Nat) :
    decodeTableWord nbits w = none ∧ ∀ s : State, s.withFetchWord nbits w = s :=
  ⟨rfl, fun _ => rfl⟩

/-- The arrival of a frame is the command the tables of R3 and R4 and its request code give. -/
theorem test_arrivals :
    arrivalCommand .cab (refFrame true 1 2 3 4) = .refTakenFromCab (refFrame true 1 2 3 4)
      ∧ arrivalCommand .drive (statFrame .propel 1 1 0) = .statTaken (statFrame .propel 1 1 0)
      ∧ arrivalCommand .cab (mreqFrame 0x0F []) = .alarmReAnnounce (mreqFrame 0x0F [])
      ∧ arrivalCommand .drive (mreqFrame 0x0F []) = .frameDiscarded .drive (mreqFrame 0x0F [])
      ∧ arrivalCommand .cab otherFrame = .passTraffic .cab otherFrame := by decide +kernel

/-! ### Witnesses: a concrete state and operands that meet the hypotheses of each statement -/

/-- What waits, is in transmission or is held at a part with open ports is as R7 to R10 have it where
nothing waits. -/
theorem quiet_ports {s : State} (h1 : s.power = .on) (h2 : s.link.drivePort.queue = [])
    (h3 : s.link.cabPort.queue = []) (h4 : s.link.held = none) : PortsInv s := by
  simp [PortsInv, h1, h2, h3, h4, waiting]

theorem digging_ports : PortsInv digging := quiet_ports rfl rfl rfl rfl

/-- The same where one deferred confirmation waits behind a frame in transmission, and one may be held. -/
theorem deferred_ports {s : State} {d : QFrame} (h1 : s.power = .on) (h2 : s.link.drivePort.queue = [])
    (h3 : s.link.cabPort.queue = [d]) (hd : d.kind = .mcnf true) (ht : s.link.cabPort.tx ≠ none)
    (h4 : ∀ f, s.link.held = some f → f.kind = .mcnf true) : PortsInv s := by
  refine ⟨?_, ?_, ?_, ?_, ?_, ?_, ?_, ?_, h4, fun h => absurd h1 h⟩ <;> simp_all [waiting]
  intro k _; split <;> omega

theorem witness_StepRunsFrontCommand :
    (digging.withPending [.timeCounterTick, .supplyLoss]).pending = .timeCounterTick :: [.supplyLoss]
      ∧ digging.pending = [] := ⟨rfl, rfl⟩

/-- A frame too short for its length field, one too long a payload, one wrong check byte. -/
theorem witness_DamagedFrameChangesNothing :
    (refFrame true 1 2 3 4).dropLast.length ≠ 6 + frameLength (refFrame true 1 2 3 4).dropLast
      ∧ ¬ frameLength (buildFrame 0x33 0x10 0x05 (List.replicate 241 0)) ≤ 240
      ∧ (let f := (refFrame true 1 2 3 4).set 16 0
        frameLength f ≤ 240 ∧ f.length = 6 + frameLength f
          ∧ f.drop (4 + frameLength f) ≠ checkBytes (f.take (4 + frameLength f))) := by
  decide +kernel

/-- A frame for each row: REF, MREQ of the least length, PASS, STAT, and one of no row. -/
theorem witness_ArrivalsFollowTheTables :
    accepted (refFrame false 0 0 0 0) = true ∧ frameClass (refFrame false 0 0 0 0) = 0x11
      ∧ u8At (framePayload (refFrame false 0 0 0 0)) 0 = 0
      ∧ accepted (mreqFrame 1 []) = true ∧ frameLength (mreqFrame 1 []) = 2
      ∧ accepted otherFrame = true ∧ frameClass otherFrame = 0x33 ∧ frameDest otherFrame ≠ 0x7E
      ∧ accepted (statFrame .propel 0 0 0) = true
      ∧ frameSource (statFrame .propel 0 0 0) = driveAddress .propel
      ∧ (let f := buildFrame 0x33 0x7E 0x05 []
        accepted f = true ∧ frameDest f = 0x7E) := by decide +kernel

/-- The first and the last byte of a frame. -/
theorem witness_AlteredByteIsDiscarded :
    let f := refFrame true 1 2 3 4
    accepted f = true ∧ 0 < f.length ∧ byteAt f 0 ≠ 0x12
      ∧ 16 < f.length ∧ byteAt f 16 ≠ byteAt f 16 + 1 := by decide +kernel

/-- The ends of the ranges. -/
theorem witness_BuiltFieldsReadBack :
    (65535 : Nat) < 65536 ∧ (0 : Nat) < 65536 ∧ (-32768 : Int) ≤ -32768 ∧ (-32768 : Int) ≤ 32767
      ∧ (32767 : Int) ≤ 32767 ∧ (List.replicate 240 (7 : Byte)).length ≤ 240 := by decide +kernel

theorem witness_PortsInvKept :
    PortsInv digging ∧ ∃ t, exec (.passTraffic .cab otherFrame) digging = .next t :=
  ⟨digging_ports, _, rfl⟩

theorem digging_timers : TimersInv digging := by
  intro _
  refine ⟨?_, ?_, ?_, ?_, ?_, ?_, ?_⟩ <;> (try intro m; cases m) <;> decide

theorem witness_HoldAndTimersKept :
    PortsInv digging ∧ HoldInv digging ∧ TimersInv digging
      ∧ ∃ t, exec .cabSilenceTimerExpiry digging = .next t :=
  ⟨digging_ports, fun h => absurd rfl h, digging_timers, _, rfl⟩

/-- The same part in a transfer out. -/
def transferring : State :=
  digging.withWalk { digging.walk with
    state := .transferOut, sub := .openingDig, transferTimer := some 1500 }

theorem transferring_timers : TimersInv transferring := by
  intro _
  refine ⟨?_, ?_, ?_, ?_, ?_, ?_, ?_⟩ <;> (try intro m; cases m) <;> decide

/-- The same part in HOLD. -/
def holding : State :=
  digging.withLink { digging.link with
    cabState := .hold, silenceTimer := none, holdTimer := some 20, lastOriginHold := true }

/-- In HOLD, with a report that carries a notice waiting in the cab port. -/
theorem witness_RefTakenByTheLink :
    let payload : List Byte := List.replicate 37 0 ++ [1, 12, 4, 1]
    let report : QFrame := { kind := .rpt, bytes := buildFrame 0x13 0x01 0x7E payload }
    let s := holding.withLink { holding.link with
      cabPort := { tx := some report, queue := [report] } }
    holding.power = .on ∧ PortsInv holding
      ∧ classifyCab (refFrame false 20 (-20) 1001 (-1)) = .ref ∧ holding.link.cabState = .hold
      ∧ (s.link.cabPort.queue.find? (·.kind == .rpt)).map (fun w => (u8At (framePayload w.bytes) 37,
        u8At (framePayload w.bytes) 38)) = some (1, 12) :=
  ⟨rfl, quiet_ports rfl rfl rfl rfl, by decide +kernel, rfl, by decide +kernel⟩

/-- All five conditions of a release hold for HOIST; its gate is closed in the other part. -/
theorem witness_ForwardedFrameIsShaped :
    let f := refFrame true 2000 (-2000) 21 (-5)
    let s := digging.withShaper { digging.shaper with gates := .const .passing }
    digging.power = .on ∧ PortsInv digging ∧ classifyCab f = .ref
      ∧ digging.shaper.gates.get .hoist = .gated
      ∧ s.power = .on ∧ PortsInv s ∧ s.shaper.gates.get .hoist = .passing
      ∧ (readRef f).brakes.get .hoist = true ∧ listedNaming s .stop .hoist = []
      ∧ classListed s .trip = false ∧ walkPermits s .hoist = true :=
  ⟨rfl, digging_ports, by decide +kernel, by decide, rfl, quiet_ports rfl rfl rfl rfl, by decide,
    by decide +kernel, by decide, by decide, by decide +kernel⟩

/-- A TRIP, a STOP and a RESTRICT that name every motion: slot 12, slot 0 and slot 13. -/
def alarmed : State :=
  digging.withAlarm { digging.alarm with
    list := [⟨12, .raisedUnack, 5⟩, ⟨0, .raisedAck, 6⟩, ⟨13, .returnedUnack, 7⟩] }

/-- HOIST within the band at its edge, DRAG just outside it with its gate GATED; entries of class TRIP and
STOP listed; PROPEL not permitted in DIG. -/
theorem witness_MotionRestsUntilNeutral :
    let f := refFrame false 20 (-21) 0 0
    alarmed.power = .on ∧ classifyCab f = .ref ∧ alarmed.shaper.gates.get .drag = .gated
      ∧ ((clampRefs (readRef f).refs).get .hoist).natAbs = (plantOf alarmed).neutralBand
      ∧ ((clampRefs (readRef f).refs).get .drag).natAbs = (plantOf alarmed).neutralBand + 1
      ∧ classListed alarmed .trip = true ∧ listedNaming alarmed .stop .hoist ≠ []
      ∧ walkPermits alarmed .propel = false := by decide +kernel

/-- The same part with the SWING and the PROPEL drive silent. -/
def twoSilent : State :=
  digging.withLink { digging.link with
    drives := { digging.link.drives with
      swing := { current := some 40, freshness := .silent, timer := none }
      propel := { current := some 40, freshness := .silent, timer := none } } }

/-- A silent drive; a DRIVE_FLAG and a DRIVE_VALUE definition of HOIST, the current on its threshold and on
the end of its hysteresis. -/
theorem witness_StatRefreshesItsDrive :
    twoSilent.power = .on ∧ PortsInv twoSilent
      ∧ classifyDrive (statFrame .swing 35999 1 (-40)) = .stat .swing
      ∧ (twoSilent.link.drives.get .swing).freshness = .silent
      ∧ (definitionsOf digging)[0]?.map (·.source) = some (.driveFlag .hoist 2)
      ∧ digging.alarm.bound.getD 0 false = true ∧ digging.alarm.slots.length = 64
      ∧ classifyDrive (statFrame .hoist 136 1 101) = .stat .hoist
      ∧ classifyDrive (statFrame .drag 136 1 90) = .stat .drag
      ∧ (definitionsOf (sourced digging))[2]?.map (·.source)
        = some (.driveValue .hoist false false 100 10)
      ∧ (sourced digging).alarm.bound.getD 2 false = true ∧ PortsInv (sourced digging) :=
  ⟨rfl, quiet_ports rfl rfl rfl rfl, by decide +kernel, rfl, by decide +kernel, rfl, rfl,
    by decide +kernel, by decide +kernel, by decide +kernel, rfl, quiet_ports rfl rfl rfl rfl⟩

theorem witness_DriveFallsSilent :
    digging.power ≠ .off ∧ (digging.link.drives.get .swing).freshness = .fresh
      ∧ (digging.link.drives.get .swing).timer.isSome = true
      ∧ (digging.link.drives.get .propel).freshness = .fresh
      ∧ (digging.link.drives.get .propel).timer.isSome = true
      ∧ (digging.link.drives.get .hoist).timer.isSome = true
      ∧ digging.alarm.slots.length = 64
      ∧ digging.position.working = some nativeLimits ∧ usablePayout digging .drag = some 132
      ∧ (definitionsOf (sourced digging))[3]?.map (·.source) = some (.sector 0)
      ∧ (sourced digging).alarm.bound.getD 3 false = true := by decide +kernel

theorem witness_HoldFramesStandForTheCab :
    (digging.power = .on ∧ digging.link.cabState = .normal
        ∧ digging.link.silenceTimer.isSome = true ∧ digging.alarm.slots.length = 64
        ∧ digging.alarm.firstOut = none ∧ entryOf digging 0 = none
        ∧ (slotOf digging 0).delay = none)
      ∧ (holding.power = .on ∧ holding.link.holdTimer.isSome = true)
      ∧ PortsInv digging ∧ PortsInv holding
      ∧ (digging.withPower .dip).power = .dip ∧ (holding.withPower .dip).power = .dip :=
  ⟨by decide +kernel, by decide +kernel, digging_ports, quiet_ports rfl rfl rfl rfl, rfl, rfl⟩

/-- The first-out record of an entry to HOLD holds the references sent before it (log entry 47). -/
theorem test_first_out_of_hold :
    let t := enterHold (digging.withShaper { digging.shaper with lastRefs := ⟨1, 2, 3, 4⟩ })
    t.alarm.firstOut.map (fun x => (x.slot, x.refs)) = some (0, ⟨1, 2, 3, 4⟩)
      ∧ t.shaper.lastRefs = ⟨0, 0, 0, 0⟩ := by decide +kernel

def passing : QFrame := { kind := .pass, bytes := otherFrame }

/-- Both queues one frame short of their capacities, and both full. -/
def crowded (drive cab : Nat) : State :=
  digging.withLink { digging.link with
    drivePort := { tx := some passing, queue := List.replicate drive passing }
    cabPort := { tx := some passing, queue := List.replicate cab passing } }

theorem witness_PassTrafficCrossesOver :
    (crowded 3 7).power = .on ∧ classifyCab otherFrame = .pass ∧ classifyDrive otherFrame = .pass
      ∧ (crowded 3 7).link.drivePort.queue.length = 3 ∧ (crowded 4 8).link.drivePort.queue.length = 4
      ∧ (crowded 3 7).link.cabPort.queue.length = 7 ∧ (crowded 4 8).link.cabPort.queue.length = 8 := by
  decide +kernel

/-- A deferred confirmation held. -/
def holdingConfirmation : State :=
  digging.withLink { digging.link with
    cabPort := { tx := some passing, queue := [passing] }
    held := some { kind := .mcnf true, bytes := buildMcnf 0x0C 77 0 0 [0, 0] } }

theorem witness_FramesLeaveInOrder :
    (crowded 0 8).link.drivePort.tx.isSome = true ∧ (crowded 0 8).link.cabPort.tx.isSome = true
      ∧ holdingConfirmation.power = .on ∧ holdingConfirmation.link.held.isSome = true
      ∧ (∀ x ∈ holdingConfirmation.link.cabPort.queue, x.kind ≠ .mcnf true)
      ∧ PortsInv holdingConfirmation := by
  refine ⟨rfl, rfl, rfl, rfl, by decide, ?_⟩
  refine ⟨by decide, by decide, by decide, by decide, by decide, ?_, by decide, by decide, ?_, ?_⟩
  · intro k hk; simp [holdingConfirmation, waiting, passing, Ne.symm hk]
  · intro f hf; simp [holdingConfirmation] at hf; subst hf; rfl
  · intro h; exact absurd rfl h

/-- The worked case of 2.5; then a point on the upper edge of its cell. -/
theorem witness_InterpolationIsNearest :
    0 < 256 ∧ 2 ∣ 256 * 256 ∧ 136 ≤ 256 ∧ 132 ≤ 256 ∧ 256 ≤ 256
      ∧ (∀ v ∈ [(8410 : Int), 8380, 8650, 8615], 8380 ≤ v ∧ v ≤ 8650) := by decide

/-- With a GEOMETRY table, a bound ZONE source and a HEIGHT sector; and without a GEOMETRY table. -/
theorem witness_PayoutStatMovesPosition :
    digging.power = .on ∧ classifyDrive (statFrame .hoist 136 1 (-2001)) = .stat .hoist
      ∧ classifyDrive (statFrame .drag 65535 0 0) = .stat .drag
      ∧ digging.tables.active.geometry = some geometryImage
      ∧ digging.alarm.slots.length = 64
      ∧ (definitionsOf digging)[1]?.map (·.source) = some (.zone 3)
      ∧ digging.alarm.bound.getD 1 false = true
      ∧ (sectorsOf digging)[1]?.map (·.cls) = some .height
      ∧ (digging.withTables { digging.tables with active := .const none }).tables.active.geometry = none :=
  ⟨rfl, by decide +kernel, by decide +kernel, rfl, rfl, by decide +kernel, rfl, by decide +kernel, rfl⟩

theorem witness_ResolvedOnlyWhereSurveyed : (attempt digging geometryImage).isSome = true := by
  decide +kernel

theorem digging_images : ImagesInv digging := by
  obtain ⟨h1, h3, h4, h5, h6, h7⟩ := test_images_are_valid
  refine ⟨fun k image h => ?_, trivial⟩
  cases k <;> cases h
  · exact h1
  · exact test_geometry_image_is_valid
  · exact h3
  · exact h4
  · exact h5
  · exact h6
  · exact h7

/-- The working limits are the native limits, both ends of the range at once. -/
theorem witness_LimitsInvKept :
    ImagesInv digging ∧ LimitsInv digging ∧ ∃ t, exec (.limitsSet (mreqFrame 0x09 [])) digging = .next t := by
  refine ⟨digging_images, ?_, _, rfl⟩
  have hg : geometryOf digging = some (readGeometry geometryImage) := rfl
  have hw : digging.position.working = some nativeLimits := rfl
  have hn : (readGeometry geometryImage).native = nativeLimits := by decide +kernel
  simp only [LimitsInv, hg, hw, hn]
  unfold PairWithin
  decide

/-- A LIMITS SET at the native limits, or with a min equal to its max, retained or not. -/
def limitsFrame (hoistMin hoistMax : Nat) (retain : Nat) : List Byte :=
  mreqFrame 0x09 (u16 hoistMin ++ u16 hoistMax ++ u16 100 ++ u16 61000 ++ u8 retain)

/-- The part after an accepted LIMITS READ. -/
def limitsKnown : State := digging.withMgmt { digging.mgmt with seqFlag := true }

theorem witness_LimitsSetTakesEffect :
    let f := limitsFrame 100 52000 1
    let p := requestParams f
    taken 0x09 f limitsKnown = true ∧ limitsKnown.mgmt.lock = .open ∧ p.length = 9
      ∧ limitsKnown.mgmt.seqFlag = true ∧ geometryOf limitsKnown = some (readGeometry geometryImage)
      ∧ u8At p 8 = 1 ∧ (readGeometry geometryImage).native.hoistMin = u16At p 0
      ∧ u16At p 0 < u16At p 2 ∧ u16At p 2 = (readGeometry geometryImage).native.hoistMax
      ∧ (readGeometry geometryImage).native.dragMin = u16At p 4
      ∧ u16At p 4 < u16At p 6 ∧ u16At p 6 = (readGeometry geometryImage).native.dragMax
      ∧ limitsKnown.mgmt.retainedOnce = false ∧ limitsKnown.store.inFlight = none
      ∧ limitsKnown.alarm.slots.length = 64 := by decide +kernel

theorem witness_LimitsSetRefusedInOrder :
    let f := limitsFrame 100 52000 1
    (taken 0x09 f digging = true ∧ digging.mgmt.lock = .open ∧ (requestParams f).length = 9
        ∧ u8At (requestParams f) 8 = 1 ∧ digging.mgmt.seqFlag = false)
      ∧ (taken 0x09 (limitsFrame 100 52000 2) digging = true
        ∧ u8At (requestParams (limitsFrame 100 52000 2)) 8 = 2)
      ∧ (let s := limitsKnown.withTables { digging.tables with active := .const none }
        taken 0x09 f s = true ∧ s.mgmt.seqFlag = true ∧ geometryOf s = none)
      ∧ (let p := requestParams (limitsFrame 99 52000 0)
        taken 0x09 (limitsFrame 99 52000 0) limitsKnown = true ∧ u16At p 0 = 99)
      ∧ (let s := limitsKnown.withMgmt { limitsKnown.mgmt with retainedOnce := true }
        taken 0x09 f s = true ∧ s.mgmt.retainedOnce = true)
      ∧ (let s := limitsKnown.withStore { limitsKnown.store with inFlight := some (.key none) }
        taken 0x09 f s = true ∧ s.mgmt.retainedOnce = false ∧ s.store.inFlight.isSome = true) := by
  decide +kernel

theorem witness_ApproachTermFollowsDistance :
    (0 : Int) ≤ 0 ∧ (0 : Int) < 1 ∧ (1000 : Nat) ≤ 1000 ∧ (-20 : Int) ≤ 880 := by decide

/-- In STEPPING; with a RESTRICT entry that names every motion; without a SWING table; with the angle at
the start of sector 0 and just before it. -/
theorem witness_LimitsNeverExceedTerms :
    let f := refFrame true 100 100 100 100
    let stepping := alarmed.withWalk { alarmed.walk with state := .stepping }
    let at' (a : Nat) := digging.withSwing { digging.swing with corrected := some a }
    (digging.power = .on ∧ classifyCab f = .ref)
      ∧ (stepping.walk.state = .stepping ∧ (walkOf stepping).isSome = true
        ∧ listedNaming stepping .restrict .propel ≠ [])
      ∧ swingOf (digging.withTables { digging.tables with active := .const none }) = none
      ∧ ((at' 500).swing.corrected = some 500 ∧ (blockingSectors (at' 500)).length = 2)
      ∧ (at' 499).swing.corrected = some 499 ∧ (at' 4000).swing.corrected = some 4000 := by
  decide +kernel

/-- The last raw angle that is an angle, and the first that is none; a bound SECTOR source. -/
theorem witness_SwingStatSetsAngle :
    digging.power = .on ∧ classifyDrive (statFrame .swing 35999 1 0) = .stat .swing
      ∧ u16At (framePayload (statFrame .swing 35999 1 0)) 0 < 36000
      ∧ classifyDrive (statFrame .swing 36000 1 0) = .stat .swing
      ∧ ¬ u16At (framePayload (statFrame .swing 36000 1 0)) 0 < 36000
      ∧ digging.alarm.slots.length = 64
      ∧ (definitionsOf (sourced digging))[3]?.map (·.source) = some (.sector 0)
      ∧ (sourced digging).alarm.bound.getD 3 false = true
      ∧ imageValid .alarm sourcesImage = true := by decide +kernel

/-- x at the first point, at the last, and at each end of a segment. -/
theorem witness_LoadCurveFollowsItsPoints :
    let points : List (Nat × Nat) := [(0, 1000), (400, 900), (800, 700), (2000, 300)]
    points.Pairwise (fun p q => p.1 < q.1) ∧ (∀ p ∈ points, p.2 ≤ 1000)
      ∧ points = (0, 1000) :: points.tail ∧ points.getLast? = some (2000, 300)
      ∧ points = [(0, 1000)] ++ (400, 900) :: (800, 700) :: [(2000, 300)]
      ∧ 400 ≤ 400 ∧ 799 < 800 := by decide

theorem digging_commands : CommandsInv digging := by
  have hw : usableWalk digging = some (readWalk walkImage) := rfl
  refine ⟨by decide +kernel, by decide +kernel, fun w h => ?_⟩
  rw [hw] at h
  cases h
  show CommandsFit digging (readWalk walkImage)
  have : desiredOf digging (readWalk walkImage).digCommand = some true
      ∧ desiredOf digging (readWalk walkImage).walkCommand = some false := by decide +kernel
  exact this

theorem witness_CommandsInvKept :
    ImagesInv digging ∧ CommandsInv digging ∧ usableWalk digging = some (readWalk walkImage)
      ∧ ∃ t, exec .roundCompletion digging = .next t :=
  ⟨digging_images, digging_commands, rfl, _, rfl⟩

theorem witness_TransferTimeoutIsFault :
    transferring.power ≠ .off ∧ transferring.walk.transferTimer.isSome = true
      ∧ transferring.alarm.slots.length = 64
      ∧ transferring.line.records.length = stationCount transferring
      ∧ walkUsable transferring = true ∧ (usableWalk transferring).isSome = true := by decide +kernel

/-- The currents at their threshold. -/
def quietDrives : State :=
  digging.withLink { digging.link with
    drives := .const { current := some (-150), freshness := .fresh, timer := some 60 } }

/-- TRANSFER_FAULT with both feedbacks open and both commands settled de-energised. -/
def faulted : State :=
  (quietDrives.withWalk { quietDrives.walk with
    state := .transferFault
    delivered := List.replicate 3 { state := .present, levels := ⟨some false, some false⟩ } }).withLine
    { quietDrives.line with
      records := List.replicate 3 { presentRecord with held := ⟨some false, some false⟩ } }

theorem every_condition {s : State} {p : RefPayload} {w : WalkTable}
    (h2 : WalkCondition s p w 2) (h3 : WalkCondition s p w 3) (h4 : WalkCondition s p w 4)
    (h5 : WalkCondition s p w 5) (h6 : WalkCondition s p w 6) (h8 : WalkCondition s p w 8) :
    ∀ n, n ≠ 7 → WalkCondition s p w n := by
  intro n hn
  match n with
  | 0 | 1 => trivial
  | 2 => exact h2
  | 3 => exact h3
  | 4 => exact h4
  | 5 => exact h5
  | 6 => exact h6
  | 7 => exact absurd rfl hn
  | 8 => exact h8
  | _ + 9 => trivial

/-- A REF with all references at the edge of the band meets every condition but 7. -/
theorem conditions_met {s : State} (h : s = quietDrives ∨ s = faulted) :
    ∀ n, n ≠ 7 → WalkCondition s (readRef (refFrame true 20 (-20) 20 0)) (readWalk walkImage) n := by
  rcases h with rfl | rfl <;> refine every_condition ?_ ?_ ?_ ?_ ?_ ?_
  all_goals first
    | exact ⟨by decide +kernel, by decide +kernel⟩
    | exact ⟨34000, rfl, by decide +kernel⟩
    | exact fun m hm => by rcases hm with rfl | rfl <;> exact ⟨rfl, -150, rfl, by decide +kernel⟩
    | (intro b hb
       have : b ∈ walkBindings (readWalk walkImage) := hb
       have h4 : walkBindings (readWalk walkImage)
         = [⟨0, .a⟩, ⟨0, .b⟩, ⟨1, .a⟩, ⟨1, .b⟩] := by decide +kernel
       rw [h4] at this
       simp only [List.mem_cons, List.not_mem_nil, or_false] at this
       rcases this with rfl | rfl | rfl | rfl <;> exact ⟨_, rfl, rfl⟩)

/-- A part in HOLD with slot 0 listed in a state. -/
def silenced (x : EntryState) : State :=
  (quietDrives.withLink { quietDrives.link with
    cabState := .hold, silenceTimer := none, holdTimer := some 4 }).withAlarm
    { quietDrives.alarm with list := [⟨0, x, 3⟩] }

/-- A REF that ends HOLD finds slot 0 gone where it was acknowledged, and RETURNED_UNACK, a listed STOP,
otherwise (R13, R145, R97). -/
theorem test_ref_ends_hold :
    let f := refFrame true 20 (-20) 20 0
    let after (x : EntryState) := (takeRef (readRef f) (silenced x)).walk
    (after .raisedAck).state = .transferOut ∧ (after .raisedUnack).refusal = 2
      ∧ (after .raisedUnack).state = .dig := by decide +kernel

/-- A part in HOLD in each state of the entry of slot 0, in DIG and in TRANSFER_FAULT. -/
theorem witness_DigLeftOnAllConditionsOnly_hold :
    let s := silenced .raisedAck
    let w := readWalk walkImage
    (s.power = .on ∧ s.walk.state = .dig ∧ s.link.cabState = .hold
        ∧ (s.alarm.list.map (·.slot)).Nodup ∧ usableWalk s = some w ∧ listHeard s = []
        ∧ classListed (heard s) .stop = false ∧ classListed (heard s) .trip = false)
      ∧ (listHeard (silenced .raisedUnack) = [⟨0, .returnedUnack, 3⟩]
        ∧ classListed (heard (silenced .raisedUnack)) .stop = true)
      ∧ (let t := s.withWalk faulted.walk
        t.walk.state = .transferFault ∧ ∀ e ∈ listHeard t, e.slot ≠ 8)
      ∧ heard quietDrives = quietDrives ∧ heard faulted = faulted := by
  refine ⟨by decide +kernel, by decide +kernel, by decide +kernel, rfl, rfl⟩

/-- All eight conditions hold, at the edge of the band and of the threshold; one reference beyond it fails
condition 3 first; no usable table; the exit of TRANSFER_FAULT open and shut. -/
theorem witness_DigLeftOnAllConditionsOnly :
    let f := refFrame true 20 (-20) 20 0
    let w := readWalk walkImage
    (quietDrives.power = .on ∧ classifyCab f = .ref ∧ quietDrives.walk.state = .dig
        ∧ quietDrives.link.cabState ≠ .hold ∧ (readRef f).walkMode = true
        ∧ usableWalk quietDrives = some w ∧ ∀ n, WalkCondition quietDrives (readRef f) w n)
      ∧ (classListed quietDrives .stop = false ∧ classListed quietDrives .trip = false
        ∧ ¬ (readRef (refFrame true 21 0 0 0)).refs.hoist.natAbs ≤ (plantOf quietDrives).neutralBand)
      ∧ (readRef (refFrame false 0 0 0 0)).walkMode = false
      ∧ usableWalk (quietDrives.withWalk { quietDrives.walk with usable := false }) = none
      ∧ (faulted.power = .on ∧ faulted.walk.state = .transferFault ∧ usableWalk faulted = some w
        ∧ (∀ e ∈ faulted.alarm.list, e.slot ≠ 8)
        ∧ feedback faulted w.digFeedback = .opened ∧ feedback faulted w.walkFeedback = .opened
        ∧ SettledTo faulted w.digCommand false ∧ SettledTo faulted w.walkCommand false
        ∧ ∀ n, n ≠ 7 → WalkCondition faulted (readRef f) w n) := by
  refine ⟨⟨rfl, by decide +kernel, rfl, by decide, by decide +kernel, rfl, fun n => ?_⟩,
    by decide +kernel, by decide +kernel, rfl,
    ⟨rfl, rfl, rfl, by decide, by decide +kernel, by decide +kernel, ?_, ?_, conditions_met (.inr rfl)⟩⟩
  · by_cases h : n = 7
    · subst h; exact ⟨by decide +kernel, by decide +kernel⟩
    · exact conditions_met (.inl rfl) n h
  · exact ⟨_, (by decide +kernel : recordOf faulted (readWalk walkImage).digCommand.station = some
      { presentRecord with held := ⟨some false, some false⟩ }), rfl, rfl, by decide +kernel⟩
  · exact ⟨_, (by decide +kernel : recordOf faulted (readWalk walkImage).walkCommand.station = some
      { presentRecord with held := ⟨some false, some false⟩ }), rfl, rfl, by decide +kernel⟩

theorem witness_PropelStatTurnsCam :
    let s := digging.withWalk { digging.walk with state := .shoeHold, cam := .setting }
    s.power = .on ∧ classifyDrive (statFrame .propel 3300 1 0) = .stat .propel
      ∧ classifyDrive (statFrame .propel 299 1 0) = .stat .propel
      ∧ classifyDrive (statFrame .propel 3600 1 0) = .stat .propel
      ∧ s.walk.cam = .setting ∧ s.walk.state = .shoeHold := by decide +kernel

/-- The states one by one; a transfer out whose walk command is settled de-energised; WALK_IDLE with the
lever just above the band, the angle in the window, the phase CLEAR and not. -/
theorem witness_SteppingFollowsTheLever :
    let in' (state : SeqState) := digging.withWalk { digging.walk with state := state }
    let out := transferring.withLine { transferring.line with
      records := List.replicate 3 { presentRecord with held := ⟨some false, some false⟩ } }
    let w := readWalk walkImage
    (digging.power = .on ∧ classifyCab (refFrame true 0 0 0 21) = .ref
        ∧ classifyCab (refFrame false 0 0 0 20) = .ref
        ∧ (in' .stepping).walk.cam = .clear ∧ usableWalk (in' .walkIdle) = some w
        ∧ ((plantOf digging).neutralBand : Int) < (readRef (refFrame true 0 0 0 21)).refs.propel
        ∧ ((34000 : Int) - w.windowStart) % 36000 < ((w.windowEnd : Int) - w.windowStart) % 36000
        ∧ digging.swing.corrected = some 34000)
      ∧ (out.walk.state = .transferOut ∧ usableWalk out = some w ∧ out.walk.sub = .openingDig
        ∧ settled out w.walkCommand false = true ∧ settled transferring w.walkCommand true = false)
      ∧ (readRef (refFrame false 0 0 0 20)).walkMode = false := by decide +kernel

theorem witness_SweepYieldsAscending :
    [stationId 3, stationId 1, stationId 2].length ≤ 3 ∧ ([] : List Identity).length ≤ 0 := by decide

/-- A reply of one byte with its check. -/
def oneByte (b : Byte) : PickedAnswer := .reply ([b] ++ checkBytes [b])

/-- A round in a stage with its transactions. -/
def inRound (stage : Stage) (jobs : List Job) : State :=
  digging.withLine { digging.line with
    flight := .round { stage := stage, jobs := jobs, sweep := firstSweep, readOk := [] } }

/-- The same with station 1 missed twice: the next miss makes it MISSING. -/
def nearlyMissing (jobs : List Job) : State :=
  let s := inRound .reading jobs
  s.withLine { s.line with
    records := s.line.records.set 1 { presentRecord with misses := 2 } }

/-- The transactions of a round before: one of each kind is on the line, with the round in its sweep. -/
def leftOver (x : Transaction) : State :=
  let s := inRound .sweeping []
  s.withLine { s.line with finishing := some x }

/-- A transaction of each kind, for its own command and for another. -/
theorem witness_OutcomeNotRecorded :
    let read := Transaction.picked (stationId 1) (.readClearing 0)
    let write := Transaction.picked (stationId 1) (.writeOutputs 0 ⟨true, false⟩)
    let condition := Transaction.picked (stationId 1) (.writeCondition 0)
    [read, write, condition, .seekIf firstSweep].all (fun x =>
        (leftOver x).power != .off && (leftOver x).line.finishing == some x) = true
      ∧ FinishingInv (leftOver read) ∧ ∃ t, exec .timeCounterTick (leftOver read) = .next t := by
  refine ⟨by decide +kernel, ?_, _, rfl⟩
  rintro x ⟨⟩
  exact ⟨fun _ h => (by cases h), _, rfl, .inr rfl, rfl⟩

/-- R132: a STATION commit during a READ CLEARING leaves that read to finish while the new round waits for
the line; its reply is recorded nowhere, and the next completion is the new round's. -/
theorem test_commit_leaves_the_transaction_to_finish :
    let s := commitStation stationImage (inRound .reading [.readClearing 1, .readClearing 2])
    let read := Transaction.picked (stationId 2) (.readClearing 1)
    let t := readClearingDone (.reply ([0x40] ++ checkBytes [0x40])) s
    s.line.finishing = some read ∧ lineTransaction s = some read
      ∧ (writeOutputsDone .noReply s).line = s.line
      ∧ t.line = { s.line with finishing := none }
      ∧ (recordOf t 1).map (·.state) = some .unseen
      ∧ lineTransaction t ≠ some read ∧ (lineTransaction t).isSome = true := by decide +kernel

/-- A reply with the power-up flag, one without, and a wrong one that is charged as a third miss; the last
read of the found stations, where two are left out, and where all were found. -/
theorem witness_ReadClearingIsRecorded :
    let s := nearlyMissing [.readClearing 1, .readClearing 2]
    let last (found : List Nat) (pointer : Nat) : State :=
      let s := nearlyMissing [.readClearing 1]
      s.withLine { s.line with found := found, pointer := pointer }
    s.power ≠ .off ∧ s.line.finishing = none
      ∧ s.line.flight = .round
        { stage := .reading, jobs := .readClearing 1 :: [.readClearing 2], sweep := firstSweep,
          readOk := [] }
      ∧ recordOf s 1 = some { presentRecord with misses := 2 }
      ∧ (0x40 : Byte).getLsbD 6 = true ∧ (0x3F : Byte).getLsbD 6 = false
      ∧ replyByte (oneByte 0x40) = some 0x40 ∧ replyByte .noReply = none
      ∧ s.alarm.slots.length = 64 ∧ (slotOf s 9).condition = stationMissing s
      ∧ (stationOf s).map (fun t => t.ids[1]?) = some (some (stationId 2))
      ∧ (last [1] 3).line.flight = .round
        { stage := .reading, jobs := [.readClearing 1], sweep := firstSweep, readOk := [] }
      ∧ (stationCount (last [1] 3) = 3 ∧ (last [1] 3).line.pointer = 3
        ∧ 0 ∉ (last [1] 3).line.found)
      ∧ ∀ k, k < stationCount (last [1, 0, 2] 0) → k ∈ (last [1, 0, 2] 0).line.found := by
  decide +kernel

/-- The write of a station with more to come, the last write, and the last condition. -/
theorem witness_WritesAreEchoedOrOwed :
    let lastWrite := inRound .writing [.writeOutputs 1 ⟨true, false⟩]
    let lastCondition := inRound .rotating [.writeCondition 2]
    let s := inRound .writing [.writeOutputs 1 ⟨true, false⟩, .writeCondition 2]
    let s' := inRound .writing [.writeCondition 2, .readClearing 0]
    s.power ≠ .off ∧ s.line.finishing = none
      ∧ s.line.flight = .round
        { stage := .writing, jobs := .writeOutputs 1 ⟨true, false⟩ :: [.writeCondition 2],
          sweep := firstSweep, readOk := [] }
      ∧ recordOf s 1 = some presentRecord
      ∧ (0x04 : Byte).getLsbD 2 = true ∧ (0x04 : Byte).getLsbD 3 = false
      ∧ replyByte (oneByte 0x04) = some 0x04
      ∧ s'.line.flight = .round
        { stage := .writing, jobs := .writeCondition 2 :: [.readClearing 0], sweep := firstSweep,
          readOk := [] }
      ∧ recordOf s' 2 = some presentRecord
      ∧ lastWrite.line.flight = .round
        { stage := .writing, jobs := .writeOutputs 1 ⟨true, false⟩ :: [], sweep := firstSweep,
          readOk := [] }
      ∧ lastCondition.line.flight = .round
        { stage := .rotating, jobs := .writeCondition 2 :: [], sweep := firstSweep, readOk := [] }
      ∧ (stationOf s).map (fun t => t.ids[2]?) = some (some (stationId 3)) := by decide +kernel

/-- An idle line; a line with a round in flight; an idle line with an enrollment sweep owed; a deferred start
on an idle line. -/
theorem witness_ScanTimerStartsRounds :
    let busy := inRound .sweeping []
    let deferred := digging.withLine { digging.line with deferredStart := true }
    (digging.power ≠ .off ∧ digging.line.scanTimer.isSome = true ∧ digging.line.flight = .idle
        ∧ digging.line.enrollWaiting = false)
      ∧ (busy.line.scanTimer.isSome = true ∧ busy.line.flight ≠ .idle)
      ∧ (let owed := digging.withLine { digging.line with enrollWaiting := true }
        owed.power ≠ .off ∧ owed.line.scanTimer.isSome = true ∧ owed.line.flight = .idle
          ∧ owed.line.enrollWaiting = true)
      ∧ (deferred.power ≠ .off ∧ deferred.line.deferredStart = true
        ∧ deferred.line.flight = .idle ∧ deferred.line.enrollWaiting = false) := by decide +kernel

/-- A round in its sweep with a found list. -/
def sweeping (found : List Nat) : State :=
  let s := inRound .sweeping []
  s.withLine { s.line with found := found }

/-- R124: of the stations 1 and 2 the second joins a found list that holds the first, and is passed over
where the list holds it already or holds a higher one. -/
theorem test_found_list_ascends :
    (foundIdentity (stationId 2) (sweeping [0])).line.found = [0, 1]
      ∧ (foundIdentity (stationId 2) (sweeping [0, 1])).line.found = [0, 1]
      ∧ (foundIdentity (stationId 2) (sweeping [2])).line.found = [2] := by decide +kernel

/-- The found list of a sweep in progress, and one command that keeps it. -/
theorem witness_SweepYieldsAscending_kept :
    ImagesInv (sweeping [0, 1]) ∧ SweepListsInv (sweeping [0, 1])
      ∧ ∃ t, exec .timeCounterTick (sweeping [0, 1]) = .next t :=
  ⟨⟨digging_images.1, digging_images.2⟩,
    ⟨by decide +kernel, by unfold Ascending; decide +kernel, by decide,
      fun _ h => by cases h⟩, _, rfl⟩

/-- A pass that yields an identity and a marker, one that yields the last identity, one that yields
none; an identity that joins the found list, and two that do not. -/
theorem witness_SeekIfPassFindsStations :
    let s := inRound .sweeping []
    (Joins (foundIdentities (sweeping [0])) (stationId 2)
        ∧ ¬ Joins (foundIdentities (sweeping [0, 1])) (stationId 2)
        ∧ ¬ Joins (foundIdentities (sweeping [2])) (stationId 2))
      ∧ s.power ≠ .off ∧ s.line.finishing = none
      ∧ s.line.flight = .round
        { stage := .sweeping, jobs := [], sweep := firstSweep, readOk := [] }
      ∧ (∃ m, runPass firstSweep (passAnswer firstSweep [stationId 1, stationId 2])
          = some (stationId 1, some m))
      ∧ runPass firstSweep (passAnswer firstSweep [stationId 3]) = some (stationId 3, none)
      ∧ runPass firstSweep .noPulse = none :=
  ⟨by simp only [← joinsList_iff]; decide +kernel, by decide, rfl, rfl, ⟨9, by decide +kernel⟩,
    by decide +kernel, rfl⟩

/-- An enrollment sweep in flight with a list. -/
def enrolling (list : List Identity) : State :=
  (digging.withLine { digging.line with flight := .enroll { sweep := firstSweep, list := list } }).withMgmt
    { digging.mgmt with outEnroll := some { code := 0x0C, tag := 77 } }

/-- A deferred confirmation. -/
def confirmation (n : Byte) : QFrame := { kind := .mcnf true, bytes := buildMcnf 0x0C n 0 0 [0, 0] }

/-- The cab port with a confirmation waiting and with one held, as given, behind a frame in
transmission. -/
def withConfirmations (waiting held : Option QFrame) (s : State) : State :=
  s.withLink { s.link with
    cabPort := { tx := some passing, queue := waiting.toList }, held := held }

theorem held_ports : PortsInv (withConfirmations none (some (confirmation 2)) (enrolling [])) := by
  refine ⟨by decide, by decide, by decide, by decide, by decide, ?_, by decide, by decide, ?_, ?_⟩
  · intro k _; exact Nat.zero_le 1
  · rintro f ⟨⟩; rfl
  · intro h; exact absurd rfl h

/-- A free line and one with a round; a waiting sweep; a sweep with 31 and with 32 identities. -/
theorem witness_EnrollmentListsTheLine :
    (taken 0x0C (mreqFrame 0x0C []) digging = true ∧ digging.mgmt.lock = .open
        ∧ requestParams (mreqFrame 0x0C []) = [] ∧ digging.walk.state = .dig
        ∧ enrollBusy digging = false ∧ digging.line.flight = .idle)
      ∧ (taken 0x0C (mreqFrame 0x0C []) (inRound .reading []) = true
        ∧ enrollBusy (inRound .reading []) = false)
      ∧ (let s := digging.withLine { digging.line with enrollWaiting := true }
        s.power ≠ .off ∧ s.line.enrollWaiting = true ∧ s.line.flight = .idle)
      ∧ (let s := enrolling (List.replicate 32 (stationId 1))
        s.power = .on ∧ PortsInv s ∧ (List.replicate 32 (stationId 1)).length = 32
          ∧ s.line.flight
            = .enroll { sweep := firstSweep, list := List.replicate 32 (stationId 1) })
      ∧ (Joins (List.replicate 32 (stationId 1)) (stationId 2)
        ∧ ¬ Joins (List.replicate 32 (stationId 1)) (stationId 1)
        ∧ identityOk (stationId 1 + 1) = false)
      ∧ (let s := withConfirmations (some (confirmation 1)) (some (confirmation 2)) (enrolling [])
        s.power ≠ .off ∧ PortsInv s ∧ s.line.finishing = none
          ∧ s.line.flight = .enroll { sweep := firstSweep, list := [] }
          ∧ runPass firstSweep .noPulse = none ∧ s.mgmt.outEnroll = some { code := 0x0C, tag := 77 }
          ∧ ∃ f ∈ s.link.cabPort.queue, f.kind = .mcnf true)
      ∧ (let s := withConfirmations none (some (confirmation 2)) (enrolling [])
        PortsInv s ∧ s.link.held = some (confirmation 2) ∧ s.link.cabPort.tx ≠ none)
      ∧ ((enrolling []).withPower .dip).power = .dip :=
  ⟨by decide +kernel, by decide +kernel, by decide, ⟨rfl, quiet_ports rfl rfl rfl rfl, rfl, rfl⟩,
    by simp only [← joinsList_iff]; decide +kernel,
    ⟨by decide, deferred_ports rfl rfl rfl rfl (by decide) (by rintro f ⟨⟩; rfl), rfl, rfl, rfl, rfl,
      confirmation 1, List.mem_singleton.2 rfl, rfl⟩,
    ⟨held_ports, rfl, by decide⟩, rfl⟩

/-- STATION ENROLL outside DIG, while a sweep waits, and while one runs. -/
theorem witness_EnrollmentListsTheLine_refusals :
    let f := mreqFrame 0x0C []
    let waits := digging.withLine { digging.line with enrollWaiting := true }
    taken 0x0C f transferring = true ∧ transferring.mgmt.lock = .open
      ∧ transferring.walk.state ≠ .dig
      ∧ taken 0x0C f waits = true ∧ waits.walk.state = .dig ∧ waits.line.enrollWaiting = true
      ∧ taken 0x0C f (enrolling []) = true
      ∧ (enrolling []).line.flight = .enroll { sweep := firstSweep, list := [] } := by decide +kernel

/-- A round due to complete, with the records and the sequencer as given. -/
def completing (record : LiveRecord) (walk : WalkSequencer) (readOk : List Nat) : State :=
  (digging.withLine { digging.line with
    records := List.replicate 3 record
    flight := .round { stage := .completing, jobs := [], sweep := firstSweep, readOk := readOk } }).withWalk
    walk

/-- Both feedbacks closed in DIG; in STARTUP: no usable table, a station UNSEEN, the commands and feedbacks
of DIG, a command station MISSING; a transfer out that can go on; TRANSFER_FAULT with both feedbacks open
and with one open; a command found unsettled; station sources read and not read; a completion that only
asserts a listed entry again. -/
theorem witness_RoundCompletionIsHandedOn :
    let w := readWalk walkImage
    let both := completing { presentRecord with levels := ⟨some true, some true⟩ } digging.walk []
    let off := completing
      { presentRecord with levels := ⟨some false, some false⟩, held := ⟨some false, some false⟩ }
    let start := { WalkSequencer.start with usable := true }
    (both.power ≠ .off ∧ both.line.flight = .round
          { stage := .completing, jobs := [], sweep := firstSweep, readOk := [] }
        ∧ both.walk.state ≠ .startup ∧ usableWalk both = some w ∧ both.alarm.slots.length = 64
        ∧ feedback (walkRound both) w.digFeedback = .closed
        ∧ feedback (walkRound both) w.walkFeedback = .closed)
      ∧ (usableWalk (completing presentRecord .start []) = none
        ∧ WalkSequencer.start.state = .startup)
      ∧ (bindingUnseen (completing freshRecord start []) w = true
        ∧ bindingUnseen (completing presentRecord start []) w = false
        ∧ commandMissing (completing presentRecord start []) w = false
        ∧ commandHeld (completing presentRecord start []) w.digCommand = some true
        ∧ commandHeld (completing presentRecord start []) w.walkCommand = some false
        ∧ feedback (walkRound (completing presentRecord start [])) w.digFeedback = .closed
        ∧ feedback (walkRound (completing presentRecord start [])) w.walkFeedback = .opened
        ∧ commandMissing (completing { presentRecord with state := .missing } start []) w = true)
      ∧ ((off transferring.walk []).walk.state = .transferOut
        ∧ feedback (walkRound (off transferring.walk [])) w.digFeedback = .opened
        ∧ feedback (walkRound (off transferring.walk [])) w.walkFeedback = .opened
        ∧ bothSettledOff (off transferring.walk []) w = true)
      ∧ ((off faulted.walk []).walk.state = .transferFault
        ∧ feedback (walkRound (off faulted.walk [])) w.walkFeedback = .opened)
      ∧ ((completing presentRecord faulted.walk []).walk.state = .transferFault
        ∧ feedback (walkRound (completing presentRecord faulted.walk [])) w.digFeedback = .closed)
      ∧ settled (off digging.walk []) w.digCommand false = true
      ∧ (let s := sourced (completing presentRecord digging.walk [0])
        (definitionsOf s)[0]?.map (·.source) = some (.stationLevel ⟨0, .a⟩ true)
          ∧ (definitionsOf s)[1]?.map (·.source) = some (.stationEdge ⟨1, .b⟩)
          ∧ s.alarm.bound.getD 0 false = true ∧ recordOf s 0 = some presentRecord
          ∧ presentRecord.levels.get .a = some true ∧ 1 ∉ [0])
      ∧ (let s := sourced (completing presentRecord digging.walk [0])
        let s := s.withAlarm { s.alarm with list := [⟨12, .returnedUnack, 1⟩] }
        (roundDone s).alarm.list = [⟨12, .raisedUnack, 1⟩] ∧ (recordOf s 2).isSome = true) := by
  decide +kernel

/-- Station 2 holds its output A energised, which no listed entry's definition asks for: it is set again, and
the list does not change (R148). -/
theorem test_owned_output_is_set_again :
    let s := completing presentRecord digging.walk []
    alarmOwns s ⟨2, .a⟩ = true ∧ walkOwns s ⟨2, .a⟩ = false ∧ recordOf s 2 = some presentRecord
      ∧ presentRecord.held.get .a = some (!computedValue s ⟨2, .a⟩)
      ∧ (∀ w, usableWalk s = some w → w.digCommand.station ≠ 2 ∧ w.walkCommand.station ≠ 2)
      ∧ (roundDone s).alarm.list = s.alarm.list
      ∧ recordOf (roundDone s) 2
        = some { presentRecord with desired := ⟨some false, none⟩, outputPending := true } := by
  refine ⟨by decide +kernel, by decide +kernel, rfl, by decide +kernel, ?_, by decide +kernel,
    by decide +kernel⟩
  intro w hw
  have h : usableWalk (completing presentRecord digging.walk []) = some (readWalk walkImage) := rfl
  rw [h] at hw; cases hw; decide +kernel

/-- Channel A of station 1 in both lists, channel B in the clear list twice: the last station and both
channels free of owners. -/
theorem witness_StationOutputSetsNamedChannels :
    let f := mreqFrame 0x0B ([1, 3] ++ [1, 0] ++ [1, 0, 1, 1, 2, 1])
    let p := requestParams f
    taken 0x0B f digging = true ∧ digging.mgmt.lock = .open
      ∧ p.length = 2 + 2 * u8At p 0 + 2 * u8At p 1 ∧ u8At p 0 ≤ 48 ∧ u8At p 1 ≤ 48
      ∧ (stationOf digging).isSome = true ∧ digging.line.records.length = stationCount digging
      ∧ (∀ c ∈ setPairs p ++ clearPairs p, c.1 < stationCount digging ∧ c.2 ≤ 1)
      ∧ (∀ c ∈ setPairs p ++ clearPairs p, walkOwns digging ⟨c.1, channelOf c.2⟩ = false
        ∧ alarmOwns digging ⟨c.1, channelOf c.2⟩ = false) := by decide +kernel

/-- STATION OUTPUT without a STATION table, for station 3 of three, and for a channel of the walk
sequencer and one of the alarm unit. -/
theorem witness_StationOutputSetsNamedChannels_refusals :
    let one (n c : Byte) := mreqFrame 0x0B [1, 0, n, c]
    let bare := digging.withTables { digging.tables with
      active := digging.tables.active.set .station none }
    taken 0x0B (one 1 0) bare = true ∧ stationOf bare = none
      ∧ taken 0x0B (one 3 1) digging = true ∧ stationCount digging = 3
      ∧ setPairs (requestParams (one 3 1)) = [(3, 1)]
      ∧ taken 0x0B (one 0 0) digging = true ∧ walkOwns digging ⟨0, channelOf 0⟩ = true
      ∧ taken 0x0B (one 2 0) digging = true ∧ alarmOwns digging ⟨2, channelOf 0⟩ = true := by
  decide +kernel

set_option maxRecDepth 100000 in
/-- STATION OUTPUT of 49 pairs. -/
theorem witness_StationOutputSetsNamedChannels_count :
    let many := mreqFrame 0x0B ([49, 0] ++ List.replicate 98 0)
    taken 0x0B many digging = true ∧ (requestParams many).length = 100
      ∧ u8At (requestParams many) 0 = 49 := by decide +kernel

/-- A slot of each state of R142: 12 PENDING, 10 RAISED_UNACK, 11 RETURNED_UNACK. -/
def listed : State :=
  digging.withAlarm { digging.alarm with
    slots := (digging.alarm.slots.set 12 { condition := true, delay := some 5 }).set 10
      { condition := true, delay := none }
    list := [⟨10, .raisedUnack, 1⟩, ⟨11, .returnedUnack, 2⟩]
    log := List.replicate 254 { seq := 0, kind := .raise, slot := 10, time := 1 } }

theorem listed_alarms : AlarmInv listed := by
  refine ⟨by decide, by decide, by decide, by decide, by decide +kernel, ?_⟩
  have : ∀ n, n < 64 →
      (match entryOf listed n with
      | none => (slotOf listed n).condition = (slotOf listed n).delay.isSome
      | some e => (slotOf listed n).delay = none
          ∧ ((slotOf listed n).condition = true ↔ e.state ≠ .returnedUnack)) := by
    have h : ((List.range 64).all fun n => match entryOf listed n with
      | none => (slotOf listed n).condition == (slotOf listed n).delay.isSome
      | some e => (slotOf listed n).delay == none
          && ((slotOf listed n).condition == (e.state != .returnedUnack))) = true := by
      decide +kernel
    intro n hn
    have := List.all_eq_true.1 h n (List.mem_range.2 hn)
    revert this
    cases entryOf listed n with
    | none => simp
    | some e =>
      simp only [Bool.and_eq_true, beq_iff_eq]
      rintro ⟨h1, h2⟩
      exact ⟨h1, by rw [h2]; simp⟩
  intro n hn
  have := this n hn
  revert this
  cases entryOf listed n <;> exact id

theorem witness_AlarmInvKept :
    ImagesInv listed ∧ AlarmInv listed ∧ ∃ t, exec (.delayTimerExpiry 12) listed = .next t :=
  ⟨digging_images, listed_alarms, _, rfl⟩

/-- A state with a full log. -/
def full (s : State) : State :=
  s.withAlarm { s.alarm with
    log := { seq := 9, kind := .ack, slot := 1, time := 1 }
      :: List.replicate 255 { seq := 10, kind := .raise, slot := 10, time := 1 } }

/-- R154: in a full log a new entry stands last and the oldest is gone. -/
theorem test_full_log_overwrites_the_oldest :
    let log := (logEvent .remove 12 (full digging)).alarm.log
    log.length = 256 ∧ (log.head?.map (·.seq)) = some 10
      ∧ (log.getLast?.map fun e => (e.kind, e.slot)) = some (.remove, 12) := by decide +kernel

/-- A full log of each part that logs: an expiry, an acknowledgement, a commit, a restart. -/
theorem witness_full_log :
    (full listed).alarm.log.length = 256 ∧ (slotOf (full listed) 12).delay.isSome = true
      ∧ ((full listed).alarm.list.map (·.slot)).Nodup
      ∧ taken 0x0E (mreqFrame 0x0E [10]) (full listed) = true
      ∧ taken 0x0E (mreqFrame 0x0E [255]) (full listed) = true
      ∧ (entryOf (full listed) 10).map (·.state) = some .raisedUnack := by decide +kernel

/-- The PENDING slot's definition is a TRIP with an output that nothing energises. An evaluation finds slot
12 PENDING, slot 13 IDLE without a delay, slot 10 listed and not latched, slot 11 RETURNED_UNACK, slot 0
RAISED_UNACK and latched. -/
theorem witness_DelayExpiryRaises :
    let b : Binding := { station := 2, channel := .a }
    let s := listed.withAlarm { listed.alarm with list := listed.alarm.list ++ [⟨0, .raisedUnack, 3⟩] }
    listed.power ≠ .off ∧ (attrsOf listed 12).isSome = true
      ∧ (attrsOf listed 12).map (·.cls) = some .trip
      ∧ (attrsOf listed 12).map (·.output) = some (some b)
      ∧ (slotOf listed 12).delay.isSome = true ∧ listed.alarm.log.length ≤ 256
      ∧ computedValue listed b = false ∧ walkOwns listed b = false
      ∧ (recordOf listed 2).isSome = true ∧ listed.alarm.firstOut = none
      ∧ listed.alarm.notices.length < 8
      ∧ (s.alarm.list.map (·.slot)).Nodup ∧ s.alarm.slots.length = 64 ∧ s.alarm.log.length ≤ 256
      ∧ entryOf s 12 = none ∧ (attrsOf s 12).map (·.delay) = some 5
      ∧ entryOf s 13 = none ∧ (slotOf s 13).delay = none ∧ (attrsOf s 13).map (·.delay) = some 0
      ∧ (entryOf s 10).map (·.state) = some .raisedUnack
      ∧ (attrsOf s 10).map (·.latched) = some false
      ∧ (entryOf s 11).map (·.state) = some .returnedUnack
      ∧ (entryOf s 0).map (·.state) = some .raisedUnack
      ∧ (attrsOf s 0).map (·.latched) = some true := by decide +kernel

/-- The counter at its last value; the same part after a power-on start. -/
theorem witness_TimeCounterTicks :
    digging.power ≠ .off ∧ digging.alarm.time.toNat = 4294967295
      ∧ (∃ t, exec (.powerOnStart []) digging = .next t)
      ∧ ∃ t, exec .restartTakesEffect digging = .next t := ⟨by decide, by decide, ⟨_, rfl⟩, _, rfl⟩

/-- A slot in each entry state, one without an entry, a number that is no slot, and ALL. -/
theorem witness_AcknowledgeActsByState :
    let f (n : Nat) := mreqFrame 0x0E [BitVec.ofNat 8 n]
    let s := listed.withAlarm { listed.alarm with list := listed.alarm.list ++ [⟨0, .raisedAck, 3⟩] }
    taken 0x0E (f 10) s = true ∧ requestParams (f 10) = [BitVec.ofNat 8 10]
      ∧ taken 0x0E (f 255) s = true ∧ requestParams (f 255) = [255]
      ∧ taken 0x0E (f 64) s = true ∧ requestParams (f 64) = [BitVec.ofNat 8 64]
      ∧ (s.alarm.list.map (·.slot)).Nodup ∧ s.alarm.log.length ≤ 256
      ∧ (entryOf s 10).map (·.state) = some .raisedUnack
      ∧ (entryOf s 11).map (·.state) = some .returnedUnack
      ∧ (entryOf s 0).map (·.state) = some .raisedAck ∧ entryOf s 63 = none := by decide +kernel

/-- A record that names a listed slot, and one that does not. -/
theorem witness_ReannounceAndFirstOutClear :
    let record (n : Nat) : FirstOut :=
      { slot := n, time := 1, status := .none, reach := 0, height := 0, zone := 0, angle := none
        seqState := .dig, sub := .none, refs := ⟨0, 0, 0, 0⟩ }
    let named := listed.withAlarm { listed.alarm with firstOut := some (record 10) }
    let free := listed.withAlarm { listed.alarm with firstOut := some (record 9) }
    taken 0x0F (mreqFrame 0x0F []) listed = true ∧ requestParams (mreqFrame 0x0F []) = []
      ∧ taken 0x11 (mreqFrame 0x11 []) named = true ∧ firstOutListed named = true
      ∧ taken 0x11 (mreqFrame 0x11 []) free = true ∧ firstOutListed free = false := by decide +kernel

/-- An immediate confirmation waits; a restart is pending. -/
theorem witness_UntakenRequestChangesNothing :
    let s := digging.withLink { digging.link with
      cabPort := { tx := some passing, queue := [{ kind := .mcnf false, bytes := [] }] } }
    classifyCab (mreqFrame 0x17 []) = .mreq ∧ immediateWaiting s = true
      ∧ (digging.withMgmt { digging.mgmt with restartPending := true }).mgmt.restartPending = true := by
  decide +kernel

/-- An undefined code at each end, and a request one byte short and one too long. -/
theorem witness_MalformedRequestIsRefused :
    digging.power = .on ∧ immediateWaiting digging = false
      ∧ digging.mgmt.restartPending = false
      ∧ classifyCab (mreqFrame 0 []) = .mreq ∧ requestCode (mreqFrame 0 []) = 0
      ∧ requestCode (mreqFrame 25 []) = 25
      ∧ requestCode (mreqFrame 0x13 (List.replicate 15 0)) = 0x13
      ∧ (requestParams (mreqFrame 0x13 (List.replicate 15 0))).length ≠ 16
      ∧ (requestParams (mreqFrame 0x05 [0, 0])).length < 3
      ∧ (requestParams (mreqFrame 0x05 [0, 0, 1])).length
        ≠ 3 + u8At (requestParams (mreqFrame 0x05 [0, 0, 1])) 2
      ∧ (requestParams (mreqFrame 0x0B [0])).length < 2
      ∧ (requestParams (mreqFrame 0x0B [1, 0, 0])).length
        ≠ 2 + 2 * u8At (requestParams (mreqFrame 0x0B [1, 0, 0])) 0 := by decide +kernel

/-- A part in a lock state, with a key. -/
def locked (lock : Lock) (attempts : Nat) : State :=
  digging.withMgmt { digging.mgmt with
    lock := lock, attempts := attempts, key := some (List.replicate 16 7) }

theorem witness_LockedRequestIsRefused :
    let block := mreqFrame 0x05 [0, 0, 1, 9]
    let clear := mreqFrame 0x15 []
    (locked .locked 5).power = .on ∧ classifyCab block = .mreq
      ∧ immediateWaiting (locked .locked 5) = false
      ∧ (locked .locked 5).mgmt.restartPending = false ∧ (locked .locked 5).mgmt.lock = .locked
      ∧ requestCode block = 0x05
      ∧ (requestParams block).length = 3 + u8At (requestParams block) 2
      ∧ classifyCab clear = .mreq ∧ requestCode clear = 0x15 ∧ (requestParams clear).length = 0
      ∧ (locked .frozen 5).mgmt.lock = .frozen := by decide +kernel

/-- The right key and a wrong one, the last attempt and none left. -/
theorem witness_LockMovesByRequest :
    let right := mreqFrame 0x14 (List.replicate 16 7)
    taken 0x14 right (locked .locked 1) = true ∧ (requestParams right).length = 16
      ∧ (locked .locked 1).mgmt.key = some (requestParams right)
      ∧ (locked .locked 1).mgmt.key ≠ some (requestParams (mreqFrame 0x14 (List.replicate 16 8)))
      ∧ taken 0x14 right (locked .locked 0) = true ∧ taken 0x14 right (locked .frozen 1) = true
      ∧ taken 0x16 (mreqFrame 0x16 []) (locked .unlocked 5) = true
      ∧ requestParams (mreqFrame 0x16 []) = []
      ∧ taken 0x17 (mreqFrame 0x17 []) (locked .unlocked 5) = true
      ∧ requestParams (mreqFrame 0x17 []) = []
      ∧ taken 0x18 (mreqFrame 0x18 []) (locked .unlocked 5) = true
      ∧ requestParams (mreqFrame 0x18 []) = [] := by decide +kernel

theorem witness_KeyIsSetAndCleared :
    let set := mreqFrame 0x13 (List.replicate 16 0)
    let writing' := (locked .unlocked 5).withStore { digging.store with
      inFlight := some (.limits nativeLimits) }
    taken 0x13 set digging = true ∧ (requestParams set).length = 16 ∧ digging.mgmt.lock = .open
      ∧ digging.store.inFlight = none
      ∧ taken 0x13 set writing' = true ∧ writing'.store.inFlight.isSome = true
      ∧ taken 0x15 (mreqFrame 0x15 []) (locked .unlocked 5) = true
      ∧ requestParams (mreqFrame 0x15 []) = []
      ∧ taken 0x15 (mreqFrame 0x15 []) (locked .locked 5) = true := by decide +kernel

theorem witness_ReadsAreAcceptedInEveryState :
    [0x01, 0x02, 0x08, 0x10].map (fun c => taken c (mreqFrame c []) (locked .frozen 0))
        = List.replicate 4 true
      ∧ [0x01, 0x02, 0x08, 0x10].map (fun c => requestParams (mreqFrame c []))
        = List.replicate 4 [] := by decide +kernel

/-- The whole PLANT image, the last station, the last position, and the largest counts. -/
theorem witness_RangedReadsAreAccepted :
    let read := requestParams (mreqFrame 0x03 [1, 0, 0, 8])
    let status := requestParams (mreqFrame 0x0A [2, 8])
    taken 0x03 (mreqFrame 0x03 [1, 0, 0, 8]) digging = true ∧ read.length = 4
      ∧ u8At read 0 = kindCode .plant ∧ digging.tables.active.get .plant = some plantImage
      ∧ u16At read 1 + u8At read 3 = plantImage.length
      ∧ taken 0x0A (mreqFrame 0x0A [2, 8]) digging = true ∧ status.length = 2
      ∧ (stationOf digging).map (·.ids.length) = some 3 ∧ u8At status 0 = 2 ∧ u8At status 1 = 8
      ∧ taken 0x0D (mreqFrame 0x0D [63, 24]) digging = true
      ∧ requestParams (mreqFrame 0x0D [63, 24]) = [63, 24]
      ∧ taken 0x12 (mreqFrame 0x12 [255, 20]) digging = true
      ∧ requestParams (mreqFrame 0x12 [255, 20]) = [255, 20] := by decide +kernel

/-- A byte beyond the PLANT image, kind codes 0 and 8, a kind without a table, station 3 of three, a count of
9, position 64, a count of 21. -/
theorem witness_RangedReadsAreAccepted_refusals :
    let read (k : Byte) := mreqFrame 0x03 [k, 0, 0, 9]
    let status (n c : Byte) := mreqFrame 0x0A [n, c]
    let bare := digging.withTables { digging.tables with active := .const none }
    (∀ k ∈ [(0 : Byte), 1, 8], taken 0x03 (read k) digging = true)
      ∧ plantImage.length < u16At (requestParams (read 1)) 1 + u8At (requestParams (read 1)) 3
      ∧ taken 0x03 (read 1) bare = true ∧ bare.tables.active.get .plant = none
      ∧ taken 0x0A (status 3 1) digging = true ∧ stationCount digging = 3
      ∧ taken 0x0A (status 0 9) digging = true ∧ taken 0x0A (status 0 1) bare = true
      ∧ stationOf bare = none
      ∧ taken 0x0D (mreqFrame 0x0D [64, 1]) digging = true
      ∧ taken 0x12 (mreqFrame 0x12 [0, 21]) digging = true
      ∧ requestParams (mreqFrame 0x12 [0, 21]) = [0, 21] := by decide +kernel

/-- A part with something in its staging buffer. -/
def staging (x : Staging) : State := digging.withMgmt { digging.mgmt with staging := x }

/-- A BEGIN at the kind's only length; a BLOCK that just fits and one that just does not; an END on an
image that passes, on one with a field out of range, and on one with a wrong trailer. -/
theorem witness_StagingGrowsIntoAnImage :
    let begin' := mreqFrame 0x04 [1, 8, 0]
    let block (n : Byte) := mreqFrame 0x05 ([7, 0, n] ++ List.replicate n.toNat 0)
    let half := staging (.open .plant 8 (List.replicate 7 0))
    let bad := sealed (u8 4 ++ u8 20 ++ u16 60 ++ u8 20 ++ u8 50)
    digging.mgmt.lock = .open
      ∧ taken 0x04 begin' digging = true ∧ (requestParams begin').length = 3
      ∧ u8At (requestParams begin') 0 = kindCode .plant
      ∧ u16At (requestParams begin') 1 = (kindLengths .plant).1
      ∧ taken 0x05 (block 1) half = true ∧ taken 0x05 (block 2) half = true
      ∧ (requestParams (block 2)).length = 3 + u8At (requestParams (block 2)) 2
      ∧ u16At (requestParams (block 1)) 0 = 7
      ∧ taken 0x06 (mreqFrame 0x06 []) (staging (.open .plant plantImage.length plantImage)) = true
      ∧ requestParams (mreqFrame 0x06 []) = []
      ∧ trailerOk plantImage = true ∧ validateContent .plant plantImage = none
      ∧ trailerOk bad = true ∧ validateContent .plant bad = some 0
      ∧ trailerOk (plantImage.set 0 2) = false := by decide +kernel

/-- A BEGIN of kind 8 and one of a wrong length; a BLOCK at another offset; one and an END
with nothing OPEN; an END one byte short. -/
theorem witness_StagingGrowsIntoAnImage_refusals :
    let half := staging (.open .plant 8 (List.replicate 7 0))
    let block := mreqFrame 0x05 [6, 0, 0]
    taken 0x04 (mreqFrame 0x04 [8, 8, 0]) half = true
      ∧ taken 0x04 (mreqFrame 0x04 [1, 9, 0]) half = true ∧ (kindLengths .plant).2 = 8
      ∧ taken 0x05 block half = true ∧ u16At (requestParams block) 0 ≠ 7
      ∧ taken 0x05 block digging = true ∧ digging.mgmt.staging = .empty
      ∧ taken 0x06 (mreqFrame 0x06 []) half = true
      ∧ taken 0x06 (mreqFrame 0x06 []) digging = true := by decide +kernel

set_option maxRecDepth 100000 in
/-- A BLOCK of 225 bytes. -/
theorem witness_StagingGrowsIntoAnImage_long :
    let long := mreqFrame 0x05 ([7, 0, 225] ++ List.replicate 225 0)
    taken 0x05 long digging = true
      ∧ (requestParams long).length = 3 + u8At (requestParams long) 2 := by decide +kernel

theorem staged_images {k : Kind} {image : Image} (h : imageValid k image = true) :
    ImagesInv (staging (.staged k image)) := ⟨digging_images.1, h⟩

/-- Each kind whose owner acts at its commit can be staged. -/
theorem witness_CommitMakesImageActive_kinds :
    ImagesInv (staging (.staged .geometry geometryImage)) ∧ ImagesInv (staging (.staged .swing swingImage))
      ∧ ImagesInv (staging (.staged .walk walkImage)) ∧ ImagesInv (staging (.staged .alarm sourcesImage))
      ∧ ImagesInv (staging (.staged .station stationImage))
      ∧ ImagesInv (staging (.staged .plant plantImage)) :=
  ⟨staged_images test_geometry_image_is_valid, staged_images test_images_are_valid.2.2.1,
    staged_images test_images_are_valid.2.2.2.1, staged_images (by decide +kernel),
    staged_images test_images_are_valid.2.2.2.2.2, staged_images test_images_are_valid.1⟩

/-- A STATION image with RETAIN_NOW, and a PLANT image without; the definitions that its owners read. -/
theorem witness_CommitMakesImageActive :
    let retain := mreqFrame 0x07 [7, 1]
    let plain := mreqFrame 0x07 [1, 0]
    taken 0x07 retain (staging (.staged .station stationImage)) = true
      ∧ (requestParams retain).length = 2 ∧ u8At (requestParams retain) 0 = kindCode .station
      ∧ u8At (requestParams retain) 1 = 1
      ∧ (staging (.staged .station stationImage)).walk.state = .dig
      ∧ enrollBusy (staging (.staged .station stationImage)) = false
      ∧ taken 0x07 plain (staging (.staged .plant plantImage)) = true
      ∧ u8At (requestParams plain) 1 = 0 ∧ digging.mgmt.lock = .open
      ∧ digging.store.inFlight = none ∧ digging.alarm.slots.length = 64
      ∧ digging.line.records.length = stationCount digging
      ∧ (definitionsOf digging).map (fun d => (d.source, d.attrs.output))
        = [(.driveFlag .hoist 2, some ⟨2, .a⟩), (.zone 3, none)]
      ∧ (full digging).alarm.log.length ≤ 256
      ∧ (isBound digging { source := .sector 16, attrs := plainAttrs }) = false := by decide +kernel

/-- A SWING commit over four sources, the last of them SECTOR: the angle in sector 0 of the new table and in
none, the log full. -/
theorem witness_CommitMakesImageActive_sectors :
    let plain := mreqFrame 0x07 [4, 0]
    let s := full (sourced (staging (.staged .swing swingImage)))
    taken 0x07 plain s = true ∧ u8At (requestParams plain) 0 = kindCode .swing
      ∧ s.mgmt.staging = .staged .swing swingImage ∧ s.store.inFlight = none
      ∧ s.alarm.slots.length = 64 ∧ s.alarm.log.length = 256
      ∧ (definitionsOf s)[3]?.map (fun d => (d.source, d.attrs.delay)) = some (.sector 0, 0)
      ∧ (readSwing swingImage).sectors[0]?.map (fun sec => (sec.contains 500, sec.contains 499))
        = some (true, false) := by decide +kernel

/-- R83, R158: at a SWING commit that takes the raw angle 1750 into sector 0, slot 7 rises and the SECTOR
source of slot 15 raises anew; from a raw angle of 1749 neither does. -/
theorem test_swing_commit_restarts_sectors :
    let s (raw : Nat) : State :=
      let s := sourced (staging (.staged .swing swingImage))
      (s.withSwing { s.swing with raw := some raw }).withAlarm
        { s.alarm with list := [⟨15, .raisedAck, 1⟩] }
    let t (raw : Nat) := commitSwing swingImage (s raw)
    (t 1750).alarm.list.map (fun e => (e.slot, e.state))
        = [(7, .raisedUnack), (15, .raisedUnack)]
      ∧ (slotOf (t 1750) 15).condition = true ∧ (t 1749).alarm.list = []
      ∧ (t 1750).alarm.log.map (fun e => (e.kind, e.slot))
        = [(.raise, 7), (.remove, 15), (.raise, 15)] := by decide +kernel

/-- Two definitions of HOIST's flags with the outputs A and B of station 2. -/
def outputsImage : Image :=
  let definition (channel : Nat) : List Byte :=
    u8 2 ++ u8 0 ++ u8 2 ++ u8 0 ++ u16 0 ++ u16 0 ++ u8 1 ++ u8 0 ++ u16 0 ++ u8 0 ++ u8 0
      ++ u8 1 ++ u8 2 ++ u8 channel ++ u16 0
  sealed (u8 2 ++ definition 0 ++ definition 1)

/-- The WALK image with its commands at station 2. -/
def walkAtTwoImage : Image :=
  sealed (walkImage.take 20 ++ u8 2 ++ u8 0 ++ u8 2 ++ u8 1 ++ u8 1 ++ u8 0 ++ u8 1 ++ u8 1)

/-- A part with those definitions listed, the later slot first, and that WALK image staged. -/
def outputsListed : State :=
  let s := staging (.staged .walk walkAtTwoImage)
  (s.withTables { s.tables with active := s.tables.active.set .alarm (some outputsImage) }).withAlarm
    { s.alarm with list := [⟨13, .raisedUnack, 1⟩, ⟨12, .raisedAck, 2⟩] }

/-- R138: a WALK commit that takes the channels of both definitions removes their entries, in slot order (log
entry 44), and raises slot 10 for the unbound definitions; no gate closes (R89). -/
theorem test_walk_commit_releases_outputs :
    let t := commitTable .walk walkAtTwoImage outputsListed
    t.alarm.log.map (fun e => (e.kind, e.slot)) = [(.remove, 12), (.remove, 13), (.raise, 10)]
      ∧ t.alarm.list.map (·.slot) = [10] ∧ t.alarm.bound = [false, false]
      ∧ t.shaper = outputsListed.shaper
      ∧ desiredOf t ⟨2, .a⟩ = some true ∧ desiredOf t ⟨2, .b⟩ = some false := by decide +kernel

theorem witness_CommitMakesImageActive_walk :
    let plain := mreqFrame 0x07 [5, 0]
    taken 0x07 plain outputsListed = true ∧ u8At (requestParams plain) 0 = kindCode .walk
      ∧ ImagesInv outputsListed ∧ outputsListed.walk.state = .dig
      ∧ outputsListed.alarm.log.length ≤ 256 :=
  ⟨by decide +kernel, by decide +kernel,
    ⟨fun k image h => by
      cases k
      case alarm => cases h; decide +kernel
      all_goals exact digging_images.1 _ image h,
      (by decide +kernel : imageValid .walk walkAtTwoImage = true)⟩, rfl, by decide⟩

/-- A RETAIN_NOW byte of 2, a commit of another kind than the one staged, a WALK commit outside DIG, and a
commit while a write is in flight. -/
theorem witness_CommitMakesImageActive_refusals :
    let s := staging (.staged .walk walkImage)
    let away := s.withWalk transferring.walk
    let busy := s.withStore { s.store with inFlight := some (.key none) }
    let f (k r : Byte) := mreqFrame 0x07 [k, r]
    taken 0x07 (f 5 2) s = true ∧ u8At (requestParams (f 5 2)) 1 = 2
      ∧ taken 0x07 (f 4 0) s = true ∧ u8At (requestParams (f 4 0)) 0 ≠ kindCode .walk
      ∧ taken 0x07 (f 5 0) away = true ∧ u8At (requestParams (f 5 0)) 0 = kindCode .walk
      ∧ away.walk.state ≠ .dig ∧ away.mgmt.staging = .staged .walk walkImage
      ∧ taken 0x07 (f 5 1) busy = true ∧ busy.store.inFlight.isSome = true := by decide +kernel

theorem digging_lock : LockInv digging := by
  refine ⟨by decide, fun _ => rfl, ?_, ?_, ?_, by decide⟩ <;> intro h <;> try exact absurd h (by decide)
  intro h'; exact absurd h' (by simp [digging, State.reset, Management.start])

theorem witness_ImagesAndLockKept :
    ImagesInv digging ∧ LockInv digging
      ∧ ∃ t, exec (.keySet (mreqFrame 0x13 (List.replicate 16 0))) digging = .next t :=
  ⟨digging_images, digging_lock, _, rfl⟩

theorem digging_store : StoreInv digging := by
  intro _
  have hf : digging.store.inFlight = none := rfl
  refine ⟨?_, ?_, ?_, ?_, ?_, ?_, ?_, ?_, ?_, ?_⟩
  · intro k; cases k <;> exact ⟨fun _ => rfl, fun _ => rfl⟩
  · exact ⟨fun h => (by cases h), fun h => (by cases h)⟩
  · exact ⟨fun h => (by cases h), fun h => (by cases h)⟩
  · intro k; rw [hf]; cases k <;> exact ⟨fun h => (by cases h), fun ⟨_, h⟩ => (by cases h)⟩
  · rw [hf]; exact ⟨fun h => (by cases h), fun ⟨_, h⟩ => (by cases h)⟩
  · rw [hf]; exact ⟨fun h => (by cases h), fun ⟨_, h⟩ => (by cases h)⟩
  · intro k b h; exact h
  · intro k b h; rw [hf] at h; cases h
  · intro v h; cases h
  · intro v h; rw [hf] at h; cases h

theorem witness_StoreInvKept :
    StoreInv digging ∧ ∃ t, exec .briefSupplyDipStart digging = .next t :=
  ⟨digging_store, _, rfl⟩

/-- A write of an image with an outstanding request, with no other confirmation in the port, with one
waiting, with one waiting and one held; and a write of the key. -/
theorem witness_WriteCompletionIsReported :
    let image := digging.withStore { digging.store with inFlight := some (.image .plant plantImage) }
    let key := digging.withStore { digging.store with inFlight := some (.key none) }
    let owed := image.withMgmt { image.mgmt with outCommit := some { code := 7, tag := 77 } }
    let both := withConfirmations (some (confirmation 1)) (some (confirmation 2)) owed
    owed.power = .on ∧ PortsInv owed ∧ owed.store.inFlight = some (.image .plant plantImage)
      ∧ owed.mgmt.outCommit = some { code := 7, tag := 77 } ∧ owed.alarm.slots.length = 64
      ∧ key.power = .on ∧ PortsInv key ∧ key.store.inFlight = some (.key none)
      ∧ key.mgmt.outCommit = none
      ∧ PortsInv (withConfirmations (some (confirmation 1)) none owed) ∧ PortsInv both
      ∧ both.mgmt.outCommit = some { code := 7, tag := 77 }
      ∧ ∃ f ∈ both.link.cabPort.queue, f.kind = .mcnf true :=
  ⟨rfl, quiet_ports rfl rfl rfl rfl, rfl, rfl, rfl, rfl, quiet_ports rfl rfl rfl rfl, rfl, rfl,
    deferred_ports rfl rfl rfl rfl (by decide) (by rintro f ⟨⟩),
    deferred_ports rfl rfl rfl rfl (by decide) (by rintro f ⟨⟩; rfl), rfl,
    confirmation 1, List.mem_singleton.2 rfl, rfl⟩

theorem witness_RestartTakesEffect :
    let s := (digging.withMgmt { digging.mgmt with restartPending := true }).withLink
      { digging.link with cabPort := { tx := some passing, queue := [] } }
    s.power = .on ∧ s.mgmt.restartPending = true ∧ PortsInv s
      ∧ (∀ q ∈ s.link.cabPort.frames, isRestartConfirmation q = false)
      ∧ s.alarm.slots.length = 64 ∧ (full s).alarm.log.length ≤ 256 :=
  ⟨rfl, rfl, quiet_ports rfl rfl rfl rfl, by decide +kernel, rfl, by decide +kernel⟩

/-- A write of each item in flight; a dip with and without a pending restart. -/
theorem witness_DipsAndSupplyLoss :
    let during (w : Write) := digging.withStore { digging.store with inFlight := some w }
    let dip := digging.withPower .dip
    let pending := dip.withMgmt { dip.mgmt with restartPending := true }
    digging.power = .on ∧ digging.alarm.slots.length = 64 ∧ digging.store.inFlight = none
      ∧ (during (.image .plant plantImage)).power = .on
      ∧ (during (.image .plant plantImage)).store.inFlight = some (.image .plant plantImage)
      ∧ (during (.key none)).store.inFlight = some (.key none)
      ∧ (during (.limits nativeLimits)).store.inFlight = some (.limits nativeLimits)
      ∧ dip.power = .dip ∧ dip.mgmt.restartPending = false
      ∧ pending.power = .dip ∧ pending.mgmt.restartPending = true
      ∧ pending.alarm.slots.length = 64 :=
  ⟨rfl, rfl, rfl, rfl, rfl, rfl, rfl, rfl, rfl, rfl, rfl, rfl⟩

/-- A store that holds a valid GEOMETRY image, with and without a retained set. -/
theorem witness_PowerOnSettlesTheBlocks :
    digging.store.images.get .geometry = some geometryImage
      ∧ imageValid .geometry geometryImage = true ∧ digging.store.limitsCopy = none
      ∧ retainedSetValid { hoistMin := 0, hoistMax := 65534, dragMin := 0, dragMax := 1 } = true :=
  ⟨rfl, test_geometry_image_is_valid, rfl, by decide⟩

/-- R18, R26, R32, R111, R159: a start of a part that was at work, its tables whole in the store, keeps none of
its readings, its entries or its log. -/
theorem test_power_on_forgets_the_work :
    let t := powerOn [] listed
    (t.link.drives.get .hoist) = { current := none, freshness := .unseen, timer := none }
      ∧ t.position = { PositionUnit.start with working := some nativeLimits }
      ∧ t.walk = { WalkSequencer.start with usable := true }
      ∧ t.alarm = { AlarmUnit.start with bound := [true, true] } := by decide +kernel

/-- A ZONE image damaged in the store, found at the start of a part in a dip: the kind is ABSENT and slot 10 is
true (R189, R135). A key whose check is wrong is none; an item left without a copy stays none. -/
theorem test_damaged_item_is_refused :
    let store := { RetainedStore.blank with images := (PerKind.const none).set .zone (some zoneImage) }
    let found := [FoundItem.image .zone (zoneImage.set 0 1), .image .plant plantImage]
    let t := powerOn found ({ State.reset with store := store }.withPower .dip)
    presented (some zoneImage) (imagesFound .zone found) = some (zoneImage.set 0 1)
      ∧ imageValid .zone (zoneImage.set 0 1) = false ∧ t.tables.active = .const none
      ∧ (slotOf t 10).condition = true
      ∧ presented (some (List.replicate 16 (0 : Byte)))
        (keysFound [.key (List.replicate 16 1) false]) = none := by decide +kernel

end Sys2Proof.Tests
end

section
/-! SUPPORT. Frames of the motion link: acceptance (R1), the tables of the ports (R3, R4), the check (R2)
and the fields of several bytes (R193). -/

namespace Sys2Proof.Machine

/-! ### Acceptance and the tables of the ports (R1, R3, R4) -/

/-- R1 as the three tests it names. -/
theorem accepted_iff (f : List Byte) : accepted f = true ↔ frameLength f ≤ 240
    ∧ f.length = 6 + frameLength f
    ∧ f.drop (4 + frameLength f) = checkBytes (f.take (4 + frameLength f)) := by
  simp [accepted, and_assoc]

theorem classifyCab_of_not_accepted {f : List Byte} (h : ¬ accepted f = true) :
    classifyCab f = .discarded := by simp [classifyCab, h]

theorem classifyDrive_of_not_accepted {f : List Byte} (h : ¬ accepted f = true) :
    classifyDrive f = .discarded := by simp [classifyDrive, h]

theorem arrivalCommand_of_not_accepted {f : List Byte} (h : ¬ accepted f = true) (port : Port) :
    arrivalCommand port f = .frameDiscarded port f := by
  cases port with
  | cab => simp [arrivalCommand, classifyCab_of_not_accepted h]
  | drive => simp [arrivalCommand, classifyDrive_of_not_accepted h]

/-- Settles O4: the three tests are what acceptance is, and a frame that fails is discarded. -/
theorem damagedFrameChangesNothing : Obligations.DamagedFrameChangesNothing := by
  intro port f s
  refine ⟨accepted_iff f, fun hn => ⟨arrivalCommand_of_not_accepted ?_ port, rfl⟩⟩
  rwa [accepted_iff]

theorem driveOfAddress_iff (a : Byte) (m : Motion) :
    driveOfAddress a = some m ↔ a = driveAddress m := by
  unfold driveOfAddress
  constructor
  · intro h
    (repeat' split at h) <;> cases h <;> assumption
  · rintro rfl
    cases m <;> decide

/-- The classes of R3 and R4 that are never PASS traffic. -/
def knownClasses : List Byte := [classRef, classStat, classRpt, classMreq, classMcnf]

/-- The row REF of R3. -/
theorem classifyCab_eq_ref {f : List Byte} (h : accepted f = true) : classifyCab f = .ref ↔
    frameClass f = classRef ∧ frameSource f = addrCab ∧ frameDest f = addrAllDrives
      ∧ frameLength f = 11 ∧ u8At (framePayload f) 0 ≤ 1 := by
  simp only [classifyCab, h]
  by_cases hc : frameClass f = classRef <;> simp [hc]
  (repeat' split) <;> simp

/-- The row MREQ of R3. -/
theorem classifyCab_eq_mreq {f : List Byte} (h : accepted f = true) : classifyCab f = .mreq ↔
    frameClass f = classMreq ∧ frameSource f = addrCab ∧ frameDest f = addrPart
      ∧ 2 ≤ frameLength f := by
  simp only [classifyCab, h]
  by_cases hc : frameClass f = classMreq
  · simp [hc, classMreq, classRef, Nat.succ_le_iff]
  · simp [hc]
    (repeat' split) <;> simp

/-- The row PASS of R3. -/
theorem classifyCab_eq_pass {f : List Byte} (h : accepted f = true) :
    classifyCab f = .pass ↔ frameClass f ∉ knownClasses ∧ frameDest f ≠ addrPart := by
  simp only [classifyCab, h, knownClasses, List.mem_cons, List.not_mem_nil, or_false, not_or]
  (repeat' split) <;> simp_all
  tauto

/-- The row STAT of R4. -/
theorem classifyDrive_eq_stat {f : List Byte} (h : accepted f = true) (m : Motion) :
    classifyDrive f = .stat m ↔ frameClass f = classStat ∧ frameSource f = driveAddress m
      ∧ frameDest f = addrCab ∧ frameLength f = 8 := by
  rw [← driveOfAddress_iff]
  simp only [classifyDrive, h]
  by_cases hc : frameClass f = classStat
  · cases hd : driveOfAddress (frameSource f) with
    | none => simp [hc]
    | some d => by_cases hl : frameDest f = addrCab ∧ frameLength f = 8 <;> simp [hc, hl]
  · simp [hc]
    (repeat' split) <;> simp

/-- The row PASS of R4. -/
theorem classifyDrive_eq_pass {f : List Byte} (h : accepted f = true) :
    classifyDrive f = .pass ↔ frameClass f ∉ knownClasses ∧ frameDest f ≠ addrPart := by
  simp only [classifyDrive, h, knownClasses, List.mem_cons, List.not_mem_nil, or_false, not_or]
  (repeat' split) <;> simp_all
  tauto

/-- Settles O5: each row of R3 and R4 is one answer of the classification. -/
theorem arrivalsFollowTheTables : Obligations.ArrivalsFollowTheTables := by
  intro f h others ref mreq stat pass
  have hone : u8At (framePayload f) 0 ≤ 1
      ↔ u8At (framePayload f) 0 = 0 ∨ u8At (framePayload f) 0 = 1 := by omega
  have href : classifyCab f = .ref ↔ ref := by rw [classifyCab_eq_ref h, hone]; rfl
  have hmreq : classifyCab f = .mreq ↔ mreq := classifyCab_eq_mreq h
  have hpass : classifyCab f = .pass ↔ pass := classifyCab_eq_pass h
  have hpass' : classifyDrive f = .pass ↔ pass := classifyDrive_eq_pass h
  have hstat : ∀ m, classifyDrive f = .stat m ↔ stat ∧ frameSource f = driveAddress m := by
    intro m
    rw [classifyDrive_eq_stat h]
    exact ⟨fun ⟨hc, hs, hd, hl⟩ => ⟨⟨hc, ⟨m, hs⟩, hd, hl⟩, hs⟩,
      fun ⟨⟨hc, _, hd, hl⟩, hs⟩ => ⟨hc, hs, hd, hl⟩⟩
  refine ⟨fun hr => ?_, fun hm => ?_, fun hp => ?_, fun hr hm hp => ?_, fun hs => ?_, hstat,
    fun hp => ?_, fun hs hp => ?_, fun _ _ => rfl⟩
  · simp [arrivalCommand, href.2 hr]
  · simp [arrivalCommand, hmreq.2 hm]
  · simp [arrivalCommand, hpass.2 hp]
  · rw [← href] at hr
    rw [← hmreq] at hm
    rw [← hpass] at hp
    cases hk : classifyCab f <;> simp_all [arrivalCommand]
  · obtain ⟨m, hm⟩ := hs.2.1
    simp [arrivalCommand, (hstat m).2 ⟨hs, hm⟩]
  · simp [arrivalCommand, hpass'.2 hp]
  · rw [← hpass'] at hp
    cases hk : classifyDrive f with
    | stat m => exact absurd ((hstat m).1 hk).1 hs
    | pass => exact absurd hk hp
    | discarded => simp [arrivalCommand, hk]

/-! ### Fields of several bytes (R193) -/

theorem byteAt_append (pre l : List Byte) (k : Nat) :
    byteAt (pre ++ l) (pre.length + k) = byteAt l k := by
  simp [byteAt, List.getD_eq_getElem?_getD, List.getElem?_append_right]

theorem u8At_append (pre l : List Byte) (k : Nat) :
    u8At (pre ++ l) (pre.length + k) = u8At l k := by rw [u8At, byteAt_append]; rfl

theorem u16At_append (pre l : List Byte) (k : Nat) :
    u16At (pre ++ l) (pre.length + k) = u16At l k := by
  rw [u16At, Nat.add_assoc, u8At_append, u8At_append]; rfl

/-- A two-byte field reads back modulo its width. -/
theorem u16At_u16 (n : Nat) (post : List Byte) : u16At (u16 n ++ post) 0 = n % 65536 := by
  have h0 : u8At (u16 n ++ post) 0 = n % 256 := by simp [u8At, byteAt, u16]
  have h1 : u8At (u16 n ++ post) 1 = n / 256 % 256 := by simp [u8At, byteAt, u16]
  rw [u16At, h0, h1]
  omega

theorem u16_injective {m n : Nat} (hm : m < 65536) (hn : n < 65536) (h : u16 m = u16 n) :
    m = n := by
  have := u16At_u16 m []
  rw [h, u16At_u16] at this
  omega

/-- A signed field reads back over its whole range. -/
theorem i16At_i16 (pre post : List Byte) {z : Int} (h1 : -32768 ≤ z) (h2 : z ≤ 32767) :
    i16At (pre ++ i16 z ++ post) pre.length = z := by
  have hr : u16At (pre ++ i16 z ++ post) pre.length = (z % 65536).toNat % 65536 := by
    rw [List.append_assoc]
    exact (u16At_append pre _ 0).trans (u16At_u16 _ _)
  unfold i16At signed16
  rw [hr]
  split <;> omega

/-- The six bytes of an identity read back. -/
theorem identityAt_identityBytes (pre post : List Byte) (i : Identity) :
    identityAt (pre ++ identityBytes i ++ post) pre.length = i := by
  have h0 := u16At_append pre (identityBytes i ++ post) 0
  have h2 := u16At_append pre (identityBytes i ++ post) 2
  have h4 := u16At_append pre (identityBytes i ++ post) 4
  have e0 : u16At (identityBytes i ++ post) 0 = i.toNat % 65536 := by
    simp only [identityBytes, List.append_assoc]
    exact u16At_u16 _ _
  have e2 : u16At (identityBytes i ++ post) 2 = i.toNat / 65536 % 65536 := by
    simp only [identityBytes, List.append_assoc]
    exact (u16At_append (u16 i.toNat) _ 0).trans (u16At_u16 _ _)
  have e4 : u16At (identityBytes i ++ post) 4 = i.toNat / 4294967296 % 65536 := by
    rw [identityBytes, List.append_assoc]
    exact (u16At_append (u16 i.toNat ++ u16 (i.toNat / 65536)) _ 0).trans (u16At_u16 _ _)
  rw [List.append_assoc, identityAt, show pre.length = pre.length + 0 from rfl, h0, h2, h4, e0, e2, e4]
  apply BitVec.eq_of_toNat_eq
  have := i.isLt
  rw [BitVec.toNat_ofNat]
  omega

/-! ### Built frames (R2, 10.2) -/

theorem checkBytes_length (l : List Byte) : (checkBytes l).length = 2 := rfl

/-- The bytes of a built frame: header, payload, check. -/
theorem buildFrame_eq (cls dest source : Byte) (payload : List Byte) :
    buildFrame cls dest source payload
      = [cls, dest, source, BitVec.ofNat 8 payload.length] ++ payload
        ++ checkBytes ([cls, dest, source, BitVec.ofNat 8 payload.length] ++ payload) := rfl

theorem frameLength_buildFrame (cls dest source : Byte) {payload : List Byte}
    (h : payload.length ≤ 240) : frameLength (buildFrame cls dest source payload) = payload.length := by
  simp [buildFrame_eq, frameLength, u8At, byteAt]
  omega

theorem framePayload_buildFrame (cls dest source : Byte) {payload : List Byte}
    (h : payload.length ≤ 240) : framePayload (buildFrame cls dest source payload) = payload := by
  rw [framePayload, frameLength_buildFrame _ _ _ h]
  simp [buildFrame_eq]

theorem accepted_buildFrame (cls dest source : Byte) {payload : List Byte}
    (h : payload.length ≤ 240) : accepted (buildFrame cls dest source payload) = true := by
  have hb : ([cls, dest, source, BitVec.ofNat 8 payload.length] ++ payload).length
      = 4 + payload.length := by simp; omega
  rw [accepted_iff, frameLength_buildFrame _ _ _ h, buildFrame_eq, ← hb]
  refine ⟨h, ?_, ?_⟩
  · rw [List.length_append, checkBytes_length, hb]; omega
  · rw [List.drop_left, List.take_left]

/-- Settles O7: fields read back where they stand, and built frames pass R1 with their contents. -/
theorem builtFieldsReadBack : Obligations.BuiltFieldsReadBack := by
  refine ⟨fun pre post => ⟨fun n hn => ⟨?_, ?_⟩, fun z h1 h2 => i16At_i16 pre post h1 h2,
    fun i => identityAt_identityBytes pre post i⟩, fun cls dest source payload h =>
      ⟨accepted_buildFrame _ _ _ h, rfl, rfl, rfl, framePayload_buildFrame _ _ _ h⟩⟩
  · simp only [u16, List.cons.injEq, and_true]
    apply BitVec.eq_of_toNat_eq
    simp
  · rw [List.append_assoc]
    exact (u16At_append pre _ 0).trans ((u16At_u16 n post).trans (Nat.mod_eq_of_lt hn))

/-! ### The check register (R2; log entry 8) -/

theorem crcBit_eq (r : BitVec 16) (b : Bool) :
    crcBit r b = (r >>> 1) ^^^ (if r.getLsbD 0 != b then 0x8408#16 else 0#16) := by
  unfold crcBit
  cases r.getLsbD 0 != b <;> simp

/-- The generator is linear: a value added to the register comes out shifted, its lowest bit fed as the
input. -/
theorem crcBit_xor (r v : BitVec 16) :
    crcBit (r ^^^ v) false = crcBit r (v.getLsbD 0) ^^^ (v >>> 1) := by
  rw [crcBit_eq, crcBit_eq, BitVec.ushiftRight_xor_distrib, BitVec.getLsbD_xor, Bool.bne_false,
    BitVec.xor_assoc, BitVec.xor_assoc, BitVec.xor_comm (v >>> 1)]

/-- The bit that leaves the register is read back from its highest coefficient. -/
theorem crcBit_top (r : BitVec 16) (b : Bool) : (crcBit r b).getLsbD 15 = (r.getLsbD 0 != b) := by
  rw [crcBit_eq]
  cases r.getLsbD 0 != b <;> simp

/-- A step loses nothing of the register. -/
theorem crcBit_injective (b : Bool) : Function.Injective (crcBit · b) := by
  intro r r' h
  simp only at h
  have h0 : r.getLsbD 0 = r'.getLsbD 0 := by
    have ht := congrArg (·.getLsbD 15) h
    simp only [crcBit_top] at ht
    simpa using congrArg (· ^^ b) ht
  have hs : r >>> 1 = r' >>> 1 := by
    rw [crcBit_eq, crcBit_eq, h0] at h
    exact (BitVec.xor_left_inj _).1 h
  apply BitVec.eq_of_getLsbD_eq
  intro i hi
  cases i with
  | zero => exact h0
  | succ i =>
    have := congrArg (·.getLsbD i) hs
    simpa [Nat.add_comm] using this

/-- Bits fed one after another act as if they had been added to the register before. -/
theorem crcBits_xor (r v : BitVec 16) (n : Nat) :
    (List.range n).foldl (fun acc _ => crcBit acc false) (r ^^^ v)
      = (List.range n).foldl (fun acc k => crcBit acc (v.getLsbD k)) r ^^^ (v >>> n) := by
  induction n with
  | zero => simp
  | succ n ih =>
    simp only [List.range_succ, List.foldl_append, List.foldl_cons, List.foldl_nil, ih]
    rw [crcBit_xor, BitVec.getLsbD_ushiftRight, Nat.add_zero, ← BitVec.shiftRight_add]

/-- A byte enters the generator as if added to the register. -/
theorem crcByte_eq (r : BitVec 16) (x : Byte) : crcByte r x
    = (List.range 8).foldl (fun acc _ => crcBit acc false) (r ^^^ x.setWidth 16) := by
  have hz : x.setWidth 16 >>> 8 = 0#16 := by
    apply BitVec.eq_of_getLsbD_eq
    intro i hi
    simp
  rw [crcBits_xor, hz, BitVec.xor_zero]
  refine List.foldl_ext _ _ _ fun acc k hk => ?_
  have : k < 8 := List.mem_range.1 hk
  simp [show k < 16 by omega]

theorem crcByte_injective_of_steps :
    Function.Injective fun r => (List.range 8).foldl (fun acc _ => crcBit acc false) r := by
  refine List.rec (motive := fun l : List Nat =>
    Function.Injective fun r => l.foldl (fun acc _ => crcBit acc false) r) ?_ ?_ (List.range 8)
  · exact fun _ _ h => h
  · exact fun _ l ih _ _ h => crcBit_injective false (ih h)

/-- A byte of the sequence loses nothing of the register before it. -/
theorem crcByte_register {r r' : BitVec 16} {x : Byte} (h : crcByte r x = crcByte r' x) : r = r' := by
  rw [crcByte_eq, crcByte_eq] at h
  exact (BitVec.xor_left_inj _).1 (crcByte_injective_of_steps h)

/-- Another byte makes another register. -/
theorem crcByte_input {r : BitVec 16} {x y : Byte} (h : crcByte r x = crcByte r y) : x = y := by
  rw [crcByte_eq, crcByte_eq] at h
  have hw : x.setWidth 16 = y.setWidth 16 :=
    (BitVec.xor_right_inj _).1 (crcByte_injective_of_steps h)
  simpa using congrArg (BitVec.setWidth 8) hw

theorem foldl_crcByte_injective (l : List Byte) {r r' : BitVec 16}
    (h : l.foldl crcByte r = l.foldl crcByte r') : r = r' := by
  induction l generalizing r r' with
  | nil => exact h
  | cons x l ih => exact crcByte_register (ih h)

/-- The generator finds every change of one byte of a sequence. -/
theorem foldl_crcByte_set {l : List Byte} {i : Nat} {b : Byte} (hi : i < l.length)
    (hb : byteAt l i ≠ b) (r : BitVec 16) : (l.set i b).foldl crcByte r ≠ l.foldl crcByte r := by
  induction l generalizing i r with
  | nil => simp at hi
  | cons x l ih =>
    cases i with
    | zero => exact fun h => hb (crcByte_input (foldl_crcByte_injective l h)).symm
    | succ i => exact ih (Nat.lt_of_succ_lt_succ hi) hb _

/-- So does the check as it is sent (R2). -/
theorem checkBytes_set {l : List Byte} {i : Nat} {b : Byte} (hi : i < l.length)
    (hb : byteAt l i ≠ b) : checkBytes (l.set i b) ≠ checkBytes l := by
  intro h
  have hn := u16_injective (checkSequence _).isLt (checkSequence _).isLt h
  exact foldl_crcByte_set hi hb 0xFFFF#16 (BitVec.not_inj.1 (BitVec.eq_of_toNat_eq hn))

theorem byteAt_set_self {l : List Byte} {i : Nat} (b : Byte) (h : i < l.length) :
    byteAt (l.set i b) i = b := by simp [byteAt, List.getD_eq_getElem?_getD, h]

/-- Settles O6. A changed length byte no longer fits the number of bytes; a changed byte of header or
payload changes the check; a changed check is no longer the one of the bytes before it. -/
theorem alteredByteIsDiscarded : Obligations.AlteredByteIsDiscarded := by
  intro f i b h hi hb
  obtain ⟨-, hl, hc⟩ := (accepted_iff f).1 h
  rw [← Bool.not_eq_true]
  intro h'
  obtain ⟨-, hl', hc'⟩ := (accepted_iff (f.set i b)).1 h'
  rw [List.length_set] at hl'
  have hlen : frameLength (f.set i b) = frameLength f := by omega
  have hbytes : byteAt (f.set i b) 3 = byteAt f 3 := BitVec.eq_of_toNat_eq hlen
  have hi3 : i ≠ 3 := by
    rintro rfl
    rw [byteAt_set_self b hi] at hbytes
    exact hb hbytes.symm
  rw [hlen] at hc'
  by_cases hbody : i < 4 + frameLength f
  · rw [List.drop_set_of_lt hbody, hc, List.take_set] at hc'
    refine checkBytes_set (l := f.take (4 + frameLength f)) ?_ ?_ hc'.symm
    · simp; omega
    · simpa [byteAt, List.getD_eq_getElem?_getD, List.getElem?_take, hbody] using hb
  · have ht := List.take_set_of_le (a := b) (l := f) (Nat.le_of_not_lt hbody)
    rw [ht, ← hc] at hc'
    have hsame : f.set i b = f := by
      rw [← List.take_append_drop (4 + frameLength f) (f.set i b), ht, hc', List.take_append_drop]
    rw [← byteAt_set_self b hi, hsame] at hb
    exact hb rfl

end Sys2Proof.Machine
end

section
/-! SUPPORT. Every command keeps the queue rules of the two ports (R7 to R10, R191). -/

namespace Sys2Proof.Machine

/-! ### The commands that are requests -/

/-- The code, the rules and the frame of a command that is a management request (R161). -/
def requestOf : Instr → Option (Nat × Rules × List Byte)
  | .identify f => some (0x01, identifyRules, f)
  | .tableState f => some (0x02, tableStateRules, f)
  | .tableRead f => some (0x03, tableReadRules, f)
  | .tableBegin f => some (0x04, tableBeginRules, f)
  | .tableBlock f => some (0x05, tableBlockRules, f)
  | .tableEnd f => some (0x06, tableEndRules, f)
  | .tableCommit f => some (0x07, tableCommitRules, f)
  | .limitsRead f => some (0x08, limitsReadRules, f)
  | .limitsSet f => some (0x09, limitsSetRules, f)
  | .stationStatus f => some (0x0A, stationStatusRules, f)
  | .stationOutput f => some (0x0B, stationOutputRules, f)
  | .stationEnroll f => some (0x0C, stationEnrollRules, f)
  | .alarmListRead f => some (0x0D, alarmListReadRules, f)
  | .alarmAcknowledge f => some (0x0E, alarmAcknowledgeRules, f)
  | .alarmReAnnounce f => some (0x0F, alarmReAnnounceRules, f)
  | .firstOutRead f => some (0x10, firstOutReadRules, f)
  | .firstOutClear f => some (0x11, firstOutClearRules, f)
  | .logRead f => some (0x12, logReadRules, f)
  | .keySet f => some (0x13, keySetRules, f)
  | .keyUnlock f => some (0x14, keyUnlockRules, f)
  | .keyClear f => some (0x15, keyClearRules, f)
  | .guard f => some (0x16, guardRules, f)
  | .freeze f => some (0x17, freezeRules, f)
  | .restart f => some (0x18, restartRules, f)
  | .undefinedRequestCode f => some (requestCode f, undefinedRules, f)
  | _ => none

/-- A request goes the one path of R161; an MREQ of a defined code is not the row of R163, and changes
nothing there. -/
theorem exec_requestOf {c : Instr} {s t : State} {q : Nat × Rules × List Byte}
    (hq : requestOf c = some q) (he : exec c s = .next t) :
    t = takeRequest q.1 q.2.1 q.2.2 s ∨ t = s := by
  cases c
  case undefinedRequestCode f =>
    cases hq
    cases he
    split
    · exact .inr rfl
    · exact .inl rfl
  all_goals cases hq
  all_goals (cases he; exact .inl rfl)

/-- No owner of a request reaches the supply or the link. -/
theorem requestOf_link {c : Instr} {q : Nat × Rules × List Byte} (hq : requestOf c = some q)
    (tag : Byte) (p : List Byte) (s : State) :
    (q.2.1.run tag p s).1.power = s.power ∧ (q.2.1.run tag p s).1.link = s.link := by
  cases c
  all_goals cases hq
  case tableCommit => exact ⟨(tableCommit_frame tag p s).1, (tableCommit_frame tag p s).2.1⟩
  all_goals
    simp [identifyRules, tableStateRules, tableReadRules, tableBeginRules, tableBlockRules,
      tableEndRules, limitsReadRules, limitsSetRules, stationStatusRules, stationOutputRules,
      stationEnrollRules, alarmListReadRules, alarmAcknowledgeRules, alarmReAnnounceRules,
      firstOutReadRules, firstOutClearRules, logReadRules, keySetRules, keyUnlockRules,
      keyClearRules, guardRules, freezeRules, restartRules, undefinedRules, readAnswer, refuse]

/-- What holds of the state, and of the answer where the state admits the event, holds after the
command: one that the state does not allow changes nothing (log entry 2). -/
theorem keeps_of_guard {P : State → Prop} {b : Prop} [Decidable b] {s x t : State} (hs : P s)
    (hx : b → P x)
    (he : (Host.Outcome.next (if b then x else s) : Host.Outcome State Fault Refusal) = .next t) :
    P t := by
  cases he
  split
  · exact hx ‹_›
  · exact hs

/-! ### Operations that offer frames -/

/-- An operation that reaches neither the supply nor the link keeps the ports as they are. -/
theorem PortsInv.of_link {s t : State} (h : PortsInv s) (hp : t.power = s.power)
    (hl : t.link = s.link) : PortsInv t :=
  h.congr hp (by rw [hl]) (by rw [hl]) (by rw [hl])

/-- With supply present and no dip, the last clause of the ports' rules asks nothing. -/
theorem portsInv_of_on {s : State} (hp : s.power = .on) (hd : DrivePortFits s.link.drivePort)
    (hc : CabPortFits s.link.cabPort) (hh : ∀ f, s.link.held = some f → f.kind = .mcnf true) :
    PortsInv s :=
  (portsInv_iff s).2 ⟨hd, hc, hh, fun hn => absurd hp hn⟩

/-- Ports without a frame meet the rules whatever the supply is (R191). -/
theorem portsInv_of_silent {s : State} (hd : s.link.drivePort = .silent)
    (hc : s.link.cabPort = .silent) (hh : s.link.held = none) : PortsInv s :=
  (portsInv_iff s).2 ⟨hd ▸ PortState.silent_drive, hc ▸ PortState.silent_cab, by simp [hh],
    fun _ => ⟨hd, hc, hh⟩⟩

/-- What an offer does to the drive port: nothing without supply and in a dip (R7, R8, R191). -/
theorem offerDrive_drivePort (f : QFrame) (s : State) : (offerDrive f s).link.drivePort
    = if s.power = .on then offerTo 4 f s.link.drivePort else s.link.drivePort := by
  by_cases hp : s.power = .on <;> simp [offerDrive, portsOpen, hp, driveQueueCap]

/-- What an offer does to the cab port (R7, R9, R191). -/
theorem offerCab_cabPort (f : QFrame) (s : State) : (offerCab f s).link.cabPort
    = if s.power = .on then offerTo 8 f s.link.cabPort else s.link.cabPort := by
  by_cases hp : s.power = .on <;> simp [offerCab, portsOpen, hp, cabQueueCap]

/-- The hold frame of a state (R16). -/
def holdFrame (s : State) : QFrame :=
  { kind := .ref, bytes := holdFrameBytes (holdMode s) (s.link.lastCycle.getD 0) }

/-- What originating a hold frame does to the drive port: the frame is offered there (R12). -/
theorem originateHold_drivePort (s : State) : (originateHold s).link.drivePort
    = if s.power = .on then offerTo 4 (holdFrame s) s.link.drivePort else s.link.drivePort := by
  unfold originateHold
  simp only [State.withLink_link, offerDrive_drivePort]
  rfl

theorem PortsInv.originateHold {s : State} (h : PortsInv s) : PortsInv (originateHold s) :=
  (h.offerDrive (f := holdFrame s) (.inl rfl)).congr (by simp)
    (by rw [originateHold_drivePort, offerDrive_drivePort]) (by simp) (by simp)

theorem PortsInv.startHoldTimer {s : State} (h : PortsInv s) : PortsInv (startHoldTimer s) :=
  h.congr rfl rfl rfl rfl

theorem PortsInv.forward {s : State} (h : PortsInv s) (p : RefPayload) (x : Shaped) :
    PortsInv (forward p x s) :=
  (h.offerDrive (f := forwardedRef p x) (.inl rfl)).congr rfl rfl rfl rfl

theorem PortsInv.sendReport {s : State} (h : PortsInv s) (cycle : Nat) (hold : Bool) :
    PortsInv (sendReport cycle hold s) :=
  PortsInv.offerCab (h.of_link (by simp) (by simp)) (by simp) (by simp)

theorem PortsInv.enterWaiting {s : State} (h : PortsInv s) : PortsInv (enterWaiting s) :=
  PortsInv.startHoldTimer (PortsInv.originateHold (h.congr rfl rfl rfl rfl))

/-! ### The commands of the link -/

theorem PortsInv.completeAt {s : State} (h : PortsInv s) (port : Port)
    (ht : transmitting port s = true) : PortsInv (completeAt port s) := by
  obtain ⟨hd, hc, hh, hoff⟩ := (portsInv_iff s).1 h
  have hon : s.power = .on := by
    by_contra hn
    obtain ⟨hd, hc, -⟩ := hoff hn
    cases port <;> simp [transmitting, hd, hc, PortState.silent] at ht
  cases port with
  | cab =>
    exact portsInv_of_on hon hd
      (hc.sub (startNext_queue_sublist ⟨none, s.link.cabPort.queue⟩) (startNext_idle _)) hh
  | drive =>
    exact portsInv_of_on hon
      (hd.sub (startNext_queue_sublist ⟨none, s.link.drivePort.queue⟩) (startNext_idle _)) hc hh

theorem PortsInv.passOn {s : State} (h : PortsInv s) (port : Port) (f : List Byte) :
    PortsInv (passOn port f s) := by
  cases port with
  | cab => exact h.offerDrive (.inr rfl)
  | drive => exact h.offerCab (by simp) (by simp)

theorem PortsInv.takeRef {s : State} (h : PortsInv s) (p : RefPayload) : PortsInv (takeRef p s) :=
  PortsInv.sendReport (PortsInv.forward (h.congr (by simp) (by simp) (by simp) (by simp)) _ _) _ _

theorem PortsInv.takeStat {s : State} (h : PortsInv s) (m : Motion) (f : List Byte) :
    PortsInv (takeStat m f s) := by
  refine PortsInv.offerCab (h.congr ?_ ?_ ?_ ?_) (by simp) (by simp) <;> split <;> simp

theorem PortsInv.enterHold {s : State} (h : PortsInv s) : PortsInv (enterHold s) :=
  PortsInv.startHoldTimer (PortsInv.originateHold (h.congr (by simp) (by simp) (by simp) (by simp)))

/-! ### Deferred confirmations -/

theorem PortsInv.endEnrollment {s : State} (h : PortsInv s) (l : List Identity) (more : Bool) :
    PortsInv (endEnrollment l more s) := by
  unfold Machine.endEnrollment
  dsimp only
  split
  · exact h.congr rfl rfl rfl rfl
  · refine PortsInv.congr (PortsInv.confirm (d := true) ?_ (by simp)) rfl rfl rfl rfl
    exact h.congr rfl rfl rfl rfl

theorem PortsInv.completeSeek {s : State} (h : PortsInv s) (x : PassAnswer) (e : Enrollment) :
    PortsInv (completeSeek x e s) := by
  unfold Machine.completeSeek
  split
  · exact h.endEnrollment _ _
  · split
    · exact h.endEnrollment _ _
    · dsimp only
      split
      · exact h.endEnrollment _ _
      · exact h.congr rfl rfl rfl rfl

theorem PortsInv.seekDone {s : State} (h : PortsInv s) (x : PassAnswer) :
    PortsInv (seekDone x s) := by
  unfold Machine.seekDone completion seekRecorded
  split
  · split
    · exact h.completeSeek _ _
    · exact h
    · exact h
  · split
    · exact h.congr rfl rfl rfl rfl
    · exact h

theorem PortsInv.reportWrite {s : State} (h : PortsInv s) (w : Write) (ok : Bool) :
    PortsInv (reportWrite w ok s) := by
  unfold Machine.reportWrite
  split
  · exact PortsInv.congr (PortsInv.confirm (d := true) h (by simp)) rfl rfl rfl rfl
  · split
    · exact h
    · exact h.congr rfl rfl rfl rfl

theorem PortsInv.finishWrite {s : State} (h : PortsInv s) (ok : Bool) :
    PortsInv (finishWrite ok s) := by
  unfold Machine.finishWrite
  split
  · exact h
  · rename_i w _
    have hs : PortsInv (settleItem w ok s) := h.of_link (by simp) (by simp)
    exact (hs.reportWrite w ok).of_link (by simp) (by simp)

/-! ### Requests -/

theorem checkRequest_link {r : Rules} {s : State} (f : List Byte)
    (hr : ∀ tag p, (r.run tag p s).1.power = s.power ∧ (r.run tag p s).1.link = s.link) :
    (checkRequest r f s).1.power = s.power ∧ (checkRequest r f s).1.link = s.link := by
  unfold checkRequest
  (repeat' split) <;> simp [hr]

/-- The owner of a request leaves the supply and the link alone; the confirmation it answers with at
once finds no other immediate one waiting (R10, R161). -/
theorem PortsInv.takeRequest {s : State} (h : PortsInv s) (code : Nat) (r : Rules) (f : List Byte)
    (hr : ∀ tag p, (r.run tag p s).1.power = s.power ∧ (r.run tag p s).1.link = s.link) :
    PortsInv (takeRequest code r f s) := by
  have hown := checkRequest_link f hr
  unfold Machine.takeRequest
  split
  case isFalse => exact h
  case isTrue ht =>
    have hw : immediateWaiting s = false := by
      simp only [taken, Bool.and_eq_true, Bool.not_eq_true'] at ht
      exact ht.1.2
    unfold answerRequest
    split
    · refine PortsInv.confirm (h.congr ?_ ?_ ?_ ?_) fun _ => ?_
      all_goals simp_all [immediateWaiting]
    · exact h.of_link hown.1 hown.2

/-! ### Starts and the supply -/

theorem PortsInv.beginLine {s : State} (h : PortsInv s) : PortsInv (beginLine s) :=
  h.of_link (by simp) (by simp)

/-- The part at a restart as it enters WAITING: every block has its start state (R175). -/
def restartedBlocks (s : State) : State :=
  restartConditions (handPosition (restartAlarm ((((((s.withLink (restartLink s.link)).withMgmt
    (restartMgmt s.mgmt)).withShaper .start).withPosition (restartPosition s.position)).withSwing
    .start).withWalk (restartWalk s.walk))))

theorem restartEffect_eq (s : State) :
    restartEffect s = beginLine (enterWaiting (restartedBlocks s)) := rfl

@[simp] theorem restartedBlocks_frame (s : State) :
    (restartedBlocks s).power = s.power ∧ (restartedBlocks s).link = restartLink s.link
      ∧ (restartedBlocks s).walk = restartWalk s.walk ∧ (restartedBlocks s).tables = s.tables := by
  simp [restartedBlocks]

/-- The part at a power-on start as it enters WAITING (R190). -/
def startedBlocks (found : List FoundItem) (s : State) : State :=
  handPosition ((settleStart (presentedStore s.store found) s.pending).withPower .on)

theorem powerOn_eq (found : List FoundItem) (s : State) :
    powerOn found s = beginLine (enterWaiting (startedBlocks found s)) := rfl

@[simp] theorem startedBlocks_frame (found : List FoundItem) (s : State) :
    (startedBlocks found s).power = .on ∧ (startedBlocks found s).link = .start
      ∧ (startedBlocks found s).walk.state = .startup ∧ (startedBlocks found s).walk.sub = .none
      ∧ (startedBlocks found s).walk.transferTimer = none := by
  simp [startedBlocks, settleStart, State.dark, WalkSequencer.start]

theorem portsInv_restartedBlocks {s : State} (hp : s.power = .on) : PortsInv (restartedBlocks s) := by
  apply portsInv_of_on
  all_goals simp [hp, restartLink, DrivePortFits, CabPortFits, waiting]

theorem portsInv_startedBlocks (found : List FoundItem) (s : State) :
    PortsInv (startedBlocks found s) := by
  apply portsInv_of_silent
  all_goals simp [Link.start, PortState.silent]

theorem portsInv_restartEffect {s : State} (hp : s.power = .on) : PortsInv (restartEffect s) :=
  (portsInv_restartedBlocks hp).enterWaiting.beginLine

theorem portsInv_powerOn (found : List FoundItem) (s : State) : PortsInv (powerOn found s) :=
  (portsInv_startedBlocks found s).enterWaiting.beginLine

theorem portsInv_dipStart (s : State) : PortsInv (dipStart s) :=
  PortsInv.finishWrite (portsInv_of_silent rfl rfl rfl) false

theorem PortsInv.dipEnd {s : State} (h : PortsInv s) : PortsInv (dipEnd s) := by
  have hon : PortsInv (s.withPower .on) := by
    obtain ⟨hd, hc, hh, -⟩ := (portsInv_iff s).1 h
    exact portsInv_of_on rfl hd hc hh
  unfold Machine.dipEnd
  dsimp only
  split
  · exact portsInv_restartEffect rfl
  · exact hon

/-! ### Every command -/

theorem portsInv_exec {c : Instr} {s t : State} (h : PortsInv s) (he : exec c s = .next t) :
    PortsInv t := by
  rcases hq : requestOf c with _ | q
  case some =>
    rcases exec_requestOf hq he with rfl | rfl
    · exact h.takeRequest _ _ _ fun tag p => requestOf_link hq tag p s
    · exact h
  cases c with
  | frameDiscarded port f => cases he; exact h
  | refTakenFromCab f => exact keeps_of_guard h (fun _ => h.takeRef _) he
  | statTaken f =>
    refine keeps_of_guard h (fun _ => ?_) he
    split
    · exact h.takeStat _ _
    · exact h
    · exact h
  | passTraffic port f => exact keeps_of_guard h (fun _ => h.passOn _ _) he
  | mreqDiscarded f => cases he; exact h
  | transmissionCompletion port => exact keeps_of_guard h (fun ht => h.completeAt _ ht) he
  | deferredConfirmationOffered =>
    refine keeps_of_guard h (fun hw => h.offerHeld ?_) he
    simp only [Bool.and_eq_true, Bool.not_eq_true'] at hw
    exact hw.2
  | cabSilenceTimerExpiry => exact keeps_of_guard h (fun _ => h.enterHold) he
  | holdTimerExpiry => exact keeps_of_guard h (fun _ => h.originateHold.startHoldTimer) he
  | driveSilenceTimerExpiry m =>
    exact keeps_of_guard h (fun _ => h.congr (by simp) (by simp) (by simp) (by simp)) he
  | transferTimerExpiry => exact keeps_of_guard h (fun _ => h.of_link (by simp) (by simp)) he
  | scanTimerExpiry => exact keeps_of_guard h (fun _ => h.of_link (by simp) (by simp)) he
  | deferredRoundStart => exact keeps_of_guard h (fun _ => h.of_link (by simp) (by simp)) he
  | enrollmentSweepStart => exact keeps_of_guard h (fun _ => h.of_link (by simp) (by simp)) he
  | writeOutputs x => exact keeps_of_guard h (fun _ => h.of_link (by simp) (by simp)) he
  | writeCondition x => exact keeps_of_guard h (fun _ => h.of_link (by simp) (by simp)) he
  | readClearing x => exact keeps_of_guard h (fun _ => h.of_link (by simp) (by simp)) he
  | seekIfPass x => exact keeps_of_guard h (fun _ => h.of_link (by simp) (by simp)) he
  | seekPass x => exact keeps_of_guard h (fun _ => h.seekDone x) he
  | roundCompletion => exact keeps_of_guard h (fun _ => h.of_link (by simp) (by simp)) he
  | delayTimerExpiry n => exact keeps_of_guard h (fun _ => h.of_link (by simp) (by simp)) he
  | timeCounterTick => exact keeps_of_guard h (fun _ => h.of_link (by simp) (by simp)) he
  | retainedWriteCompletion ok => exact keeps_of_guard h (fun _ => h.finishWrite ok) he
  | restartTakesEffect =>
    refine keeps_of_guard h (fun hd => portsInv_restartEffect ?_) he
    simp only [restartDue, portsOpen, Bool.and_eq_true, beq_iff_eq] at hd
    exact hd.1.1
  | powerOnStart found => cases he; exact portsInv_powerOn found s
  | briefSupplyDipStart => exact keeps_of_guard h (fun _ => portsInv_dipStart s) he
  | briefSupplyDipEnd => exact keeps_of_guard h (fun _ => h.dipEnd) he
  | supplyLoss => cases he; exact portsInv_of_silent rfl rfl rfl
  | _ => simp [requestOf] at hq

/-- Settles O8: every command keeps the queue rules of the two ports. -/
theorem portsInvKept : Obligations.PortsInvKept := fun _ _ _ => portsInv_exec

end Sys2Proof.Machine
end

section
/-! SUPPORT. What the ports send: PASS traffic, transmissions, the held confirmation, hold frames (R3, R4,
R7, R10, R12, R14 to R16). -/

namespace Sys2Proof.Machine

/-! ### Offers, whole -/

/-- An offer to the drive port reaches that port alone. -/
theorem offerDrive_eq (f : QFrame) (s : State) : offerDrive f s
    = s.withLink { s.link with drivePort := (offerDrive f s).link.drivePort } := by
  unfold offerDrive
  split <;> rfl

/-- An offer to the cab port reaches that port alone. -/
theorem offerCab_eq (f : QFrame) (s : State) : offerCab f s
    = s.withLink { s.link with cabPort := (offerCab f s).link.cabPort } := by
  unfold offerCab
  split <;> rfl

/-- PASS traffic replaces nothing and evicts nothing (R8, R9). -/
theorem joinQueue_pass (cap : Nat) {f : QFrame} (hf : f.kind = .pass) (q : List QFrame) :
    joinQueue cap f q = if q.length < cap then q ++ [f] else q := by
  simp [joinQueue, hf, replacesWaiting, evictsPass]

theorem offerTo_pass_frames (cap : Nat) {f : QFrame} (hf : f.kind = .pass) (p : PortState) :
    (offerTo cap f p).frames = if p.queue.length < cap then p.frames ++ [f] else p.frames := by
  rw [offerTo_frames, joinQueue_pass cap hf]
  split <;> simp [PortState.frames]

/-- Settles O16: PASS traffic is an offer to the other port. -/
theorem passTrafficCrossesOver : Obligations.PassTrafficCrossesOver := by
  intro f s hp
  refine ⟨fun hf => ⟨offerDrive ⟨.pass, f⟩ s, ?_, offerDrive_eq _ s, ?_⟩,
    fun hf => ⟨offerCab ⟨.pass, f⟩ s, ?_, offerCab_eq _ s, ?_⟩⟩
  · simp [exec, execPassTraffic, portsOpen, hp, isPass, hf, passOn]
  · rw [offerDrive_drivePort, if_pos hp, offerTo_pass_frames 4 rfl]
  · simp [exec, execPassTraffic, portsOpen, hp, isPass, hf, passOn]
  · rw [offerCab_cabPort, if_pos hp, offerTo_pass_frames 8 rfl]

/-! ### Transmissions and the held confirmation (R7, R10) -/

/-- A completed transmission takes the first frame of the port away. -/
theorem completeTx_frames {p : PortState} (h : p.tx.isSome = true) :
    (completeTx p).frames = p.frames.tail := by
  obtain ⟨f, hf⟩ := Option.isSome_iff_exists.1 h
  rw [completeTx, startNext_frames]
  simp [PortState.frames, hf]

theorem offerHeld_eq {s : State} {q : QFrame} (hq : s.link.held = some q) : offerHeld s
    = s.withLink { s.link with held := none, cabPort := (offerHeld s).link.cabPort } := by
  simp only [offerHeld, hq]
  rw [offerCab_eq]
  rfl

/-- Settles O17: frames leave in their order, and the held confirmation joins last. -/
theorem framesLeaveInOrder : Obligations.FramesLeaveInOrder := by
  refine ⟨fun s h => ⟨completeAt .drive s, ?_, rfl, completeTx_frames h, startNext_idle _⟩,
    fun s h => ⟨completeAt .cab s, ?_, rfl, completeTx_frames h, startNext_idle _⟩,
    fun s q hp hi hq hw => ⟨offerHeld s, ?_, offerHeld_eq hq, ?_⟩⟩
  · simp [exec, execTransmissionCompletion, transmitting, h]
  · simp [exec, execTransmissionCompletion, transmitting, h]
  · have : deferredWaiting s = false := by simpa [deferredWaiting] using hw
    simp [exec, execDeferredConfirmationOffered, portsOpen, hp, this]
  · obtain ⟨-, hcab, hheld, -⟩ := (portsInv_iff s).1 hi
    have hk : q.kind ≠ .pass := by simp [hheld q hq]
    simp only [offerHeld, hq]
    rw [offerCab_cabPort, if_pos (by simpa using hp)]
    exact offerTo_newest_cab hcab hk

/-! ### Hold frames (R12, R14, R15, R16) -/

/-- The bytes of a hold frame (R16, 10.2). -/
theorem holdFrame_eq (s : State) : holdFrame s =
    { kind := .ref
      bytes := buildFrame 0x11 0x7F 0x7E
        ([if s.walk.state = .dig ∨ s.walk.state = .startup then 0 else 1,
          BitVec.ofNat 8 (s.link.lastCycle.getD 0)] ++ List.replicate 9 0 ++ [1]) } := by
  unfold holdFrame holdMode
  cases s.walk.state <;> rfl

theorem holdFrame_congr {s t : State} (hw : t.walk = s.walk)
    (hc : t.link.lastCycle = s.link.lastCycle) : holdFrame t = holdFrame s := by
  simp [holdFrame, holdMode, hw, hc]

/-- A hold frame stands last at the drive port, while the ports pass frames. -/
theorem originateHold_newest {s : State} (hp : s.power = .on) (h : PortsInv s) :
    (originateHold s).link.drivePort.newest = some (holdFrame s) := by
  rw [originateHold_drivePort, if_pos hp]
  exact offerTo_newest_drive ((portsInv_iff s).1 h).1 rfl

/-- In a dip nothing joins the drive port (R191). -/
theorem originateHold_dip {s : State} (hp : s.power = .dip) :
    (originateHold s).link.drivePort = s.link.drivePort := by
  rw [originateHold_drivePort, if_neg (by simp [hp])]

/-- Originating a hold frame reaches the drive port, the origin and the last references alone. -/
theorem originateHold_eq (s : State) : originateHold s
    = (s.withLink { s.link with
        lastOriginHold := true, drivePort := (originateHold s).link.drivePort }).withShaper
      { s.shaper with lastRefs := .const 0 } := by
  simp only [originateHold]
  rw [offerDrive_eq]
  rfl

theorem plantOf_congr {s t : State} (h : t.tables = s.tables) : plantOf t = plantOf s := by
  simp [plantOf, h]

/-- The state in which the hold frame of an entry to HOLD is built (R14). -/
def holdBegun (s : State) : State :=
  closeGates allMotions (evaluate 0 true (s.withLink { s.link with
    cabState := .hold, silenceTimer := none }))

theorem enterHold_eq (s : State) : enterHold s = startHoldTimer (originateHold (holdBegun s)) := rfl

@[simp] theorem holdBegun_frame (s : State) :
    (holdBegun s).power = s.power ∧ (holdBegun s).walk = s.walk ∧ (holdBegun s).tables = s.tables
      ∧ (holdBegun s).link = { s.link with cabState := .hold, silenceTimer := none } := by
  simp [holdBegun]

/-- A gate that every motion is named for is GATED. -/
theorem closeGates_all (s : State) :
    (closeGates allMotions s).shaper = { s.shaper with gates := ⟨.gated, .gated, .gated, .gated⟩ } :=
  rfl

/-- The raise of slot 0, in an IDLE slot without an entry, fills an empty first-out record with the
references sent before (R149, R65; log entry 47). -/
theorem evaluate_zero_firstOut {s : State} (h0 : s.alarm.firstOut = none) (he : entryOf s 0 = none)
    (hd : (slotOf s 0).delay = none) : ∃ x, (evaluate 0 true s).alarm.firstOut = some x
      ∧ x.slot = 0 ∧ x.time = s.alarm.time ∧ x.refs = s.shaper.lastRefs := by
  have ha : attrsOf s 0 = some (internalSlot 0) := attrsOf_internal s (by decide)
  have hz : (internalSlot 0).delay = 0 := internalSlot_delay 0
  have hc : (internalSlot 0).cls = .stop := rfl
  simp [evaluate, ha, he, hd, hz, raiseSlot_alarm, firstOutAfter, hc, h0]

/-- Settles O15: the hold frames of R14 and R15. -/
theorem holdFramesStandForTheCab : Obligations.HoldFramesStandForTheCab := by
  refine ⟨fun s hp hn ht hl => ⟨enterHold s, ?_, ?_⟩, fun s hp ht =>
    ⟨startHoldTimer (originateHold s), ?_, ?_⟩⟩
  · simp [exec, execCabSilenceTimerExpiry, powered, hp, hn, ht]
  · have hline : (enterHold s).line = s.line := by
      simp [enterHold_eq, holdBegun, evaluate_internal_line]
    have hframe : holdFrame (holdBegun s) = holdFrame s := holdFrame_congr (by simp) (by simp)
    have hplant : (plantOf (originateHold (holdBegun s))) = plantOf s := plantOf_congr (by simp)
    refine ⟨by simp [enterHold_eq], by simp [enterHold_eq], ?_, rfl, ?_, fun h0 he hd => ?_, ?_, ?_,
      by simp, fun hon hi => ?_, fun hdip => ?_, by simp, by simp, by simp, by simp, by simp, by simp,
      by simp, by simp, by simp, by rw [hline]⟩
    · show some (plantOf (originateHold (holdBegun s))).holdInterval = _
      rw [hplant]
    · have : slotOf (enterHold s) 0 = slotOf (evaluate 0 true (s.withLink { s.link with
          cabState := .hold, silenceTimer := none })) 0 := by
        simp [slotOf, enterHold_eq, holdBegun]
      rw [this]
      exact evaluate_condition_internal true (by decide) (by simp [hl])
    · have : (enterHold s).alarm = (evaluate 0 true (s.withLink { s.link with
          cabState := .hold, silenceTimer := none })).alarm := by simp [enterHold_eq, holdBegun]
      rw [this]
      exact evaluate_zero_firstOut h0 he hd
    · simp [enterHold_eq, holdBegun, closeGates_all]
    · show (originateHold (holdBegun s)).shaper.lastRefs = _
      rw [originateHold_eq]
      rfl
    · show (originateHold (holdBegun s)).link.drivePort.newest = _
      rw [originateHold_newest (by simpa using hon)
        (hi.congr (by simp) (by simp) (by simp) (by simp)), hframe, holdFrame_eq]
    · show (originateHold (holdBegun s)).link.drivePort = _
      rw [originateHold_dip (by simpa using hdip)]
      simp
  · simp [exec, execHoldTimerExpiry, powered, hp, ht]
  · have hplant : plantOf (originateHold s) = plantOf s := plantOf_congr (by simp)
    refine ⟨fun hon hi => ?_, fun hdip => ?_, ?_, ?_⟩
    · show (originateHold s).link.drivePort.newest = _
      rw [originateHold_newest hon hi, holdFrame_eq]
    · exact originateHold_dip hdip
    · rw [startHoldTimer, hplant, originateHold_eq]
      rfl
    · rw [startHoldTimer, hplant, originateHold_eq]
      rfl

end Sys2Proof.Machine
end

section
/-! SUPPORT. In WAITING and HOLD every REF that waits at the drive port is a hold frame (R16), and every
command keeps it so. -/

namespace Sys2Proof.Machine

theorem offerTo_queue_sublist (cap : Nat) (f : QFrame) (p : PortState) :
    (offerTo cap f p).queue.Sublist (joinQueue cap f p.queue) :=
  startNext_queue_sublist ⟨p.tx, joinQueue cap f p.queue⟩

theorem completeTx_queue_sublist (p : PortState) : (completeTx p).queue.Sublist p.queue :=
  startNext_queue_sublist ⟨none, p.queue⟩

theorem HoldInv.congr {s t : State} (h : HoldInv s) (hc : t.link.cabState = s.link.cabState)
    (hd : t.link.drivePort = s.link.drivePort) : HoldInv t := by
  unfold HoldInv
  rwa [hc, hd]

theorem HoldInv.of_link {s t : State} (h : HoldInv s) (hl : t.link = s.link) : HoldInv t :=
  h.congr (by rw [hl]) (by rw [hl])

theorem holdInv_of_normal {s : State} (h : s.link.cabState = .normal) : HoldInv s :=
  fun hn => absurd h hn

theorem holdInv_of_empty {s : State} (h : s.link.drivePort.queue = []) : HoldInv s := by
  intro _ f hf
  simp [h] at hf

/-- A hold frame takes the place of a waiting REF, so that after it no other REF waits (R8, R12). -/
theorem joinQueue_ref {f : QFrame} {q : List QFrame} (hf : f.kind = .ref) (hq : waiting .ref q ≤ 1) :
    ∀ x ∈ joinQueue 4 f q, x.kind = .ref → x = f := by
  have none_of_zero : ∀ l : List QFrame, waiting .ref l = 0 → ∀ x ∈ l, x.kind ≠ .ref := by
    intro l hl x hx hk
    simp only [waiting, List.countP_eq_zero] at hl
    exact hl x hx (by simp [hk])
  unfold joinQueue
  intro x hx hk
  split at hx
  case isTrue ha =>
    simp only [hf, Bool.and_eq_true] at ha hx
    have hz : waiting .ref (q.eraseP (·.kind == .ref)) = 0 := by
      have := waiting_eraseP ha.2
      omega
    rcases List.mem_append.1 hx with hx | hx
    · exact absurd hk (none_of_zero _ hz x hx)
    · simpa using hx
  case isFalse ha =>
    have hz : ∀ y ∈ q, y.kind ≠ .ref := by simpa [hf, replacesWaiting] using ha
    have hsub : x = f ∨ x ∈ q := by
      split at hx
      · simpa [or_comm] using hx
      · split at hx
        · rcases List.mem_append.1 hx with hx | hx
          · exact .inr (List.mem_of_mem_eraseP hx)
          · exact .inl (by simpa using hx)
        · exact .inr hx
    exact hsub.resolve_right fun hm => hz x hm hk

/-- Once a hold frame is originated, every waiting REF is one. -/
theorem holdInv_originateHold {s : State} (h : PortsInv s) : HoldInv (originateHold s) := by
  intro _ f hf hk
  obtain ⟨hd, -, -, hoff⟩ := (portsInv_iff s).1 h
  rw [originateHold_drivePort] at hf
  split at hf
  · have := joinQueue_ref (f := holdFrame s) rfl hd.2.2.1 f ((offerTo_queue_sublist _ _ _).subset hf) hk
    exact this ▸ ⟨_, _, rfl⟩
  · rename_i hp
    simp [(hoff hp).1, PortState.silent] at hf

theorem holdInv_enterWaiting {s : State} (h : PortsInv s) : HoldInv (enterWaiting s) :=
  (holdInv_originateHold (s := s.withLink { s.link with
    cabState := .waiting, silenceTimer := none, lastCycle := none }) (h.congr rfl rfl rfl rfl)).congr
    rfl rfl

theorem holdInv_enterHold {s : State} (h : PortsInv s) : HoldInv (enterHold s) :=
  (holdInv_originateHold (s := holdBegun s)
    (h.congr (by simp) (by simp) (by simp) (by simp))).congr rfl rfl

theorem holdInv_restartEffect {s : State} (hp : s.power = .on) : HoldInv (restartEffect s) :=
  (holdInv_enterWaiting (portsInv_restartedBlocks hp)).of_link (by simp [restartEffect_eq])

theorem HoldInv.passOn {s : State} (h : HoldInv s) (port : Port) (f : List Byte) :
    HoldInv (passOn port f s) := by
  cases port with
  | drive => exact h.congr (by simp) (by simp [Machine.passOn])
  | cab =>
    intro hn x hx hk
    simp only [Machine.passOn] at hx hn
    rw [offerDrive_drivePort] at hx
    split at hx
    · rcases joinQueue_mem ((offerTo_queue_sublist _ _ _).subset hx) with rfl | hx
      · simp at hk
      · exact h (by simpa using hn) x hx hk
    · exact h (by simpa using hn) x hx hk

theorem HoldInv.completeAt {s : State} (h : HoldInv s) (port : Port) : HoldInv (completeAt port s) := by
  cases port with
  | cab => exact h.congr rfl rfl
  | drive => exact fun hn x hx hk => h hn x ((completeTx_queue_sublist _).subset hx) hk

/-- A request reaches neither the cab link nor the drive port. -/
theorem takeRequest_link {c : Instr} {q : Nat × Rules × List Byte} (hq : requestOf c = some q)
    (s : State) : (takeRequest q.1 q.2.1 q.2.2 s).power = s.power
      ∧ (takeRequest q.1 q.2.1 q.2.2 s).link.drivePort = s.link.drivePort
      ∧ (takeRequest q.1 q.2.1 q.2.2 s).link.cabState = s.link.cabState
      ∧ (takeRequest q.1 q.2.1 q.2.2 s).link.silenceTimer = s.link.silenceTimer
      ∧ (takeRequest q.1 q.2.1 q.2.2 s).link.holdTimer = s.link.holdTimer
      ∧ (takeRequest q.1 q.2.1 q.2.2 s).link.drives = s.link.drives := by
  obtain ⟨hp, hl⟩ := checkRequest_link q.2.2 fun tag p => requestOf_link hq tag p s
  unfold takeRequest answerRequest
  (repeat' split) <;> simp [hp, hl]

theorem holdInv_exec {c : Instr} {s t : State} (hi : PortsInv s) (h : HoldInv s)
    (he : exec c s = .next t) : HoldInv t := by
  rcases hq : requestOf c with _ | q
  case some =>
    rcases exec_requestOf hq he with rfl | rfl
    · obtain ⟨-, hd, hc, -⟩ := takeRequest_link hq s
      exact h.congr hc hd
    · exact h
  cases c with
  | frameDiscarded port f => cases he; exact h
  | refTakenFromCab f =>
    refine keeps_of_guard h (fun _ => holdInv_of_normal ?_) he
    simp only [takeRef, sendReport_frame, forward_frame, shaperTakesRef_frame, walkTakesRef_frame]
    unfold linkTakesRef
    split <;> simp
  | statTaken f =>
    refine keeps_of_guard h (fun _ => ?_) he
    split
    · unfold takeStat
      refine h.congr ?_ ?_ <;> dsimp only <;> split <;> simp
    · exact h
    · exact h
  | passTraffic port f => exact keeps_of_guard h (fun _ => h.passOn _ _) he
  | mreqDiscarded f => cases he; exact h
  | transmissionCompletion port => exact keeps_of_guard h (fun _ => h.completeAt _) he
  | deferredConfirmationOffered =>
    exact keeps_of_guard h (fun _ => h.congr (by simp) (by simp)) he
  | cabSilenceTimerExpiry => exact keeps_of_guard h (fun _ => holdInv_enterHold hi) he
  | holdTimerExpiry =>
    exact keeps_of_guard h (fun _ => (holdInv_originateHold hi).congr (by simp) (by simp)) he
  | driveSilenceTimerExpiry m =>
    exact keeps_of_guard h (fun _ => h.congr (by simp) (by simp)) he
  | transferTimerExpiry => exact keeps_of_guard h (fun _ => h.of_link (by simp)) he
  | scanTimerExpiry => exact keeps_of_guard h (fun _ => h.of_link (by simp)) he
  | deferredRoundStart => exact keeps_of_guard h (fun _ => h.of_link (by simp)) he
  | enrollmentSweepStart => exact keeps_of_guard h (fun _ => h.of_link (by simp)) he
  | writeOutputs x => exact keeps_of_guard h (fun _ => h.of_link (by simp)) he
  | writeCondition x => exact keeps_of_guard h (fun _ => h.of_link (by simp)) he
  | readClearing x => exact keeps_of_guard h (fun _ => h.of_link (by simp)) he
  | seekIfPass x => exact keeps_of_guard h (fun _ => h.of_link (by simp)) he
  | seekPass x => exact keeps_of_guard h (fun _ => h.congr (by simp) (by simp)) he
  | roundCompletion => exact keeps_of_guard h (fun _ => h.of_link (by simp)) he
  | delayTimerExpiry n => exact keeps_of_guard h (fun _ => h.of_link (by simp)) he
  | timeCounterTick => exact keeps_of_guard h (fun _ => h.of_link (by simp)) he
  | retainedWriteCompletion ok =>
    exact keeps_of_guard h (fun _ => h.congr (by simp) (by simp)) he
  | restartTakesEffect =>
    refine keeps_of_guard h (fun hd => holdInv_restartEffect ?_) he
    simp only [restartDue, portsOpen, Bool.and_eq_true, beq_iff_eq] at hd
    exact hd.1.1
  | powerOnStart found =>
    cases he
    exact (holdInv_enterWaiting (portsInv_startedBlocks found s)).of_link (by simp [powerOn_eq])
  | briefSupplyDipStart =>
    exact keeps_of_guard h (fun _ => holdInv_of_empty (by simp [dipStart, cutPorts])) he
  | briefSupplyDipEnd =>
    refine keeps_of_guard h (fun _ => ?_) he
    unfold dipEnd
    dsimp only
    split
    · exact holdInv_restartEffect rfl
    · exact h.of_link rfl
  | supplyLoss => cases he; exact holdInv_of_empty rfl
  | _ => simp [requestOf] at hq

end Sys2Proof.Machine
end

section
/-! SUPPORT. The timers of the cab link, the drive records, the walk sequencer and the scan run exactly in
their states (R12 to R15, R19, R20, R96, R122), and every command keeps it so. -/

namespace Sys2Proof.Machine

theorem PerMotion.get_set {α : Type} (p : PerMotion α) (m m' : Motion) (x : α) :
    (p.set m x).get m' = if m' = m then x else p.get m' := by
  cases m <;> cases m' <;> rfl

/-! ### The three groups of timers -/

/-- The timers of the cab link and of the drive records (1.4, 1.5). -/
def LinkTimers (l : Link) : Prop :=
  (l.silenceTimer.isSome = true ↔ l.cabState = .normal)
    ∧ (l.holdTimer.isSome = true ↔ l.cabState ≠ .normal)
    ∧ ∀ m, (l.drives.get m).timer.isSome = true ↔ (l.drives.get m).freshness = .fresh

/-- The sub-steps that a state of the sequencer has: one in the two transfers, none otherwise. -/
def SubFits (x : SeqState) (y : SubStep) : Prop := y ≠ .none ↔ x = .transferOut ∨ x = .transferBack

/-- The transfer timer (R96), and the usable table that every state but STARTUP and DIG stands on. -/
def WalkTimers (s : State) : Prop :=
  SubFits s.walk.state s.walk.sub
    ∧ (s.walk.transferTimer.isSome = true ↔ s.walk.sub ≠ .none)
    ∧ (s.walk.state ≠ .startup → s.walk.state ≠ .dig → (usableWalk s).isSome = true)

theorem timersInv_iff (s : State) : TimersInv s ↔
    (s.power ≠ .off → LinkTimers s.link ∧ WalkTimers s ∧ s.line.scanTimer.isSome = true) := by
  unfold TimersInv LinkTimers WalkTimers SubFits
  tauto

theorem TimersInv.step {s t : State} (h : TimersInv s) (hp : t.power ≠ .off → s.power ≠ .off)
    (hl : LinkTimers s.link → LinkTimers t.link) (hw : WalkTimers s → WalkTimers t)
    (hc : s.line.scanTimer.isSome = true → t.line.scanTimer.isSome = true) : TimersInv t := by
  rw [timersInv_iff] at h ⊢
  intro ht
  obtain ⟨h1, h2, h3⟩ := h (hp ht)
  exact ⟨hl h1, hw h2, hc h3⟩

theorem LinkTimers.congr {l l' : Link} (h : LinkTimers l) (h1 : l'.silenceTimer = l.silenceTimer)
    (h2 : l'.holdTimer = l.holdTimer) (h3 : l'.cabState = l.cabState) (h4 : l'.drives = l.drives) :
    LinkTimers l' := by
  unfold LinkTimers
  rwa [h1, h2, h3, h4]

theorem usableWalk_congr {s t : State} (hu : t.walk.usable = s.walk.usable)
    (ht : t.tables.active.walk = s.tables.active.walk) : usableWalk t = usableWalk s := by
  simp [usableWalk, walkOf, hu, ht]

theorem WalkTimers.congr {s t : State} (h : WalkTimers s) (h1 : t.walk.state = s.walk.state)
    (h2 : t.walk.sub = s.walk.sub) (h3 : t.walk.transferTimer = s.walk.transferTimer)
    (h4 : usableWalk t = usableWalk s) : WalkTimers t := by
  unfold WalkTimers
  rwa [h1, h2, h3, h4]

theorem WalkTimers.of_walk {s t : State} (h : WalkTimers s) (hw : t.walk = s.walk)
    (ht : t.tables = s.tables) : WalkTimers t :=
  h.congr (by rw [hw]) (by rw [hw]) (by rw [hw]) (usableWalk_congr (by rw [hw]) (by rw [ht]))

/-- An operation that reaches none of the timers. -/
theorem TimersInv.of_same {s t : State} (h : TimersInv s) (hp : t.power = s.power)
    (hl : t.link = s.link) (hw : t.walk = s.walk) (ht : t.tables = s.tables)
    (hc : t.line.scanTimer = s.line.scanTimer) : TimersInv t :=
  h.step (by rw [hp]; exact id) (by rw [hl]; exact id) (fun w => w.of_walk hw ht)
    (by rw [hc]; exact id)

/-! ### The walk sequencer -/

theorem walkOf_isSome_of_usable {s : State} (h : (usableWalk s).isSome = true) :
    (walkOf s).isSome = true := by
  unfold usableWalk at h
  split at h
  · exact h
  · cases h

/-- Entering a state starts the transfer timer in a sub-step and stops it otherwise (R96). -/
theorem enterState_walk (x : SeqState) (y : SubStep) (s : State) : (enterState x y s).walk
    = { s.walk with
        state := x, sub := y
        transferTimer := if y = .none then none else (walkOf s).map (·.stepTimeout) } := by
  cases y <;> simp [enterState]

theorem walkTimers_enterState {s : State} {x : SeqState} {y : SubStep} (hy : SubFits x y)
    (hu : x ≠ .dig → (usableWalk s).isSome = true) : WalkTimers (enterState x y s) := by
  have hkeep : usableWalk (enterState x y s) = usableWalk s := usableWalk_congr (by simp) (by simp)
  refine ⟨?_, ?_, fun _ hx => ?_⟩
  · simpa [enterState_walk] using hy
  · rw [enterState_walk]
    by_cases hn : y = .none
    · simp [hn]
    · have hx : x ≠ .dig := by rcases hy.1 hn with rfl | rfl <;> decide
      simpa [hn] using walkOf_isSome_of_usable (hu hx)
  · rw [enterState_walk] at hx
    rw [hkeep]
    exact hu hx

/-- The sequencer stays as it was, or has entered a state. -/
def Enters (s t : State) : Prop :=
  t.tables = s.tables
    ∧ (t.walk = s.walk ∨ ∃ x y, SubFits x y ∧ t.walk = (enterState x y s).walk)

theorem WalkTimers.enters {s t : State} (h : WalkTimers s) (he : Enters s t)
    (hu : t.walk ≠ s.walk → (usableWalk s).isSome = true) : WalkTimers t := by
  obtain ⟨ht, hw⟩ := he
  by_cases hs : t.walk = s.walk
  · exact h.of_walk hs ht
  · obtain ⟨x, y, hy, hw⟩ := hw.resolve_left hs
    exact (walkTimers_enterState hy fun _ => hu hs).of_walk hw (by simp [ht])

theorem enters_same {s t : State} (ht : t.tables = s.tables) (hw : t.walk = s.walk) : Enters s t :=
  ⟨ht, .inl hw⟩

theorem enters_state {s t : State} (x : SeqState) (y : SubStep) (ht : t.tables = s.tables)
    (hw : t.walk = (enterState x y s).walk) (hy : SubFits x y) : Enters s t :=
  ⟨ht, .inr ⟨x, y, hy, hw⟩⟩

theorem enters_enterFault (s : State) : Enters s (enterFault s) :=
  enters_state .transferFault .none (by simp) (by simp [enterFault]) (by simp [SubFits])

theorem enters_self (s : State) : Enters s s := enters_same rfl rfl

theorem enters_enterState {x : SeqState} {y : SubStep} (s : State) (hy : SubFits x y) :
    Enters s (enterState x y s) := enters_state x y (by simp) rfl hy

theorem enters_ite {s t u : State} {c : Prop} [Decidable c] (ht : Enters s t) (hu : Enters s u) :
    Enters s (if c then t else u) := by
  split
  · exact ht
  · exact hu

theorem enters_startupDecision (s : State) (w : WalkTable) : Enters s (startupDecision s w) := by
  have fault := enters_enterFault s
  have dig : Enters s (enterState .dig .none s) := enters_enterState s (by simp [SubFits])
  have idle : Enters s (enterState .walkIdle .none s) := enters_enterState s (by simp [SubFits])
  have hold : Enters s (enterState .shoeHold .none s) := enters_enterState s (by simp [SubFits])
  exact enters_ite (enters_self s) <| enters_ite fault <| enters_ite fault <| enters_ite fault <|
    enters_ite dig <| enters_ite (enters_ite idle hold) fault

theorem enters_roundAdvance (s : State) (w : WalkTable) : Enters s (roundAdvance s w) := by
  have fault := enters_enterFault s
  have stays := enters_self s
  refine enters_ite fault ?_
  split
  · exact enters_ite fault stays
  · exact enters_ite fault stays
  · exact enters_ite fault stays
  · exact enters_ite fault stays
  · exact enters_ite (enters_enterState s (by simp [SubFits])) stays
  · exact enters_ite (enters_state _ _ (by simp) rfl (by simp [SubFits])) stays
  · exact enters_ite (enters_enterState s (by simp [SubFits])) stays
  · exact enters_ite (enters_state _ _ (by simp) rfl (by simp [SubFits])) stays
  · exact stays

theorem WalkTimers.walkRound {s : State} (h : WalkTimers s) : WalkTimers (walkRound s) := by
  have h0 : WalkTimers (s.withWalk { s.walk with delivered := deliveredNow s }) :=
    h.congr rfl rfl rfl rfl
  unfold Machine.walkRound
  dsimp only
  split
  · split
    · exact walkTimers_enterState (by simp [SubFits]) (by simp)
    · exact h0
  · rename_i w hw
    split
    · exact h0.enters (enters_startupDecision _ w) fun _ => by simp [hw]
    · exact (h0.enters (enters_roundAdvance _ w) fun _ => by simp [hw]).of_walk (by simp) (by simp)

theorem WalkTimers.setCam {s : State} (h : WalkTimers s) (c : CamPhase) : WalkTimers (setCam c s) := by
  unfold Machine.setCam
  dsimp only
  split
  · exact h.congr rfl rfl rfl rfl
  · split
    · rename_i hs
      refine (walkTimers_enterState (x := .walkIdle) (y := .none) (by simp [SubFits]) fun _ => ?_).of_walk
        (closeGates_frame _ _).2.2.2.2.1 (by simp)
      exact h.2.2 (by simp [hs.1]) (by simp [hs.1])
    · exact h.congr rfl rfl rfl rfl

/-- The walk conditions all hold only with a usable table, which is condition 1 (R97). -/
theorem usableWalk_of_conditions {s : State} {p : RefPayload}
    (h : firstFailed (walkConditions s p) = none) : (usableWalk s).isSome = true := by
  unfold walkConditions at h
  split at h
  · simp [firstFailed] at h
  · simp [*]

/-- What a REF can do to the sequencer (R95 to R109): nothing; the change of STEPPING to WALK_IDLE, which
closes the SWING gate; or the entry to another state, which closes none. -/
theorem refDecision_cases (p : RefPayload) (s : State) : (refDecision p s).1 = s
    ∨ (s.walk.state = .stepping
      ∧ (refDecision p s).1 = closeGates swingMotion (enterState .walkIdle .none s))
    ∨ ∃ x y, (refDecision p s).1 = enterState x y s ∧ SubFits x y
      ∧ ¬ (s.walk.state = .stepping ∧ x = .walkIdle) ∧ s.walk.state ≠ .startup
      ∧ (s.walk.state = .dig → (usableWalk s).isSome = true) := by
  cases hs : s.walk.state with
  | startup => simp [refDecision, hs]
  | dig =>
    simp only [refDecision, hs, refInDig]
    split
    · split
      · exact .inl rfl
      · rename_i hc
        exact .inr (.inr ⟨_, _, rfl, by simp [SubFits], by simp, by simp,
          fun _ => usableWalk_of_conditions hc⟩)
    · exact .inl rfl
  | transferOut =>
    simp only [refDecision, hs, refInTransferOut]
    repeat' split
    · exact .inl rfl
    all_goals exact .inr (.inr ⟨_, _, rfl, by simp [SubFits], by simp⟩)
  | walkIdle =>
    simp only [refDecision, hs, refInWalkIdle]
    split
    · split
      · exact .inr (.inr ⟨_, _, rfl, by simp [SubFits], by simp⟩)
      · exact .inl rfl
    · split
      · split
        · split
          · exact .inl rfl
          · split
            · exact .inl rfl
            · exact .inr (.inr ⟨_, _, rfl, by simp [SubFits], by simp⟩)
        · exact .inl rfl
      · exact .inl rfl
  | stepping =>
    simp only [refDecision, hs, refInStepping]
    repeat' split
    · exact .inl rfl
    · exact .inr (.inl ⟨trivial, rfl⟩)
    · exact .inr (.inr ⟨_, _, rfl, by simp [SubFits], by simp⟩)
  | shoeHold =>
    simp only [refDecision, hs, refInShoeHold]
    split
    · exact .inr (.inr ⟨_, _, rfl, by simp [SubFits], by simp⟩)
    · exact .inl rfl
  | transferBack => simp [refDecision, hs]
  | transferFault =>
    simp only [refDecision, hs, refInFault]
    split
    · exact .inl rfl
    · split
      · exact .inr (.inr ⟨_, _, rfl, by simp [SubFits], by simp⟩)
      · split
        · exact .inl rfl
        · exact .inr (.inr ⟨_, _, rfl, by simp [SubFits], by simp⟩)

theorem WalkTimers.refDecision {s : State} (h : WalkTimers s) (p : RefPayload) :
    WalkTimers (refDecision p s).1 := by
  rcases refDecision_cases p s with he | ⟨hs, he⟩ | ⟨x, y, he, hy, -, hst, hdig⟩
  · rwa [he]
  · rw [he]
    have hu : (usableWalk s).isSome = true := h.2.2 (by simp [hs]) (by simp [hs])
    exact (walkTimers_enterState (x := .walkIdle) (y := .none) (by simp [SubFits]) fun _ => hu).of_walk
      (closeGates_frame _ _).2.2.2.2.1 (by simp)
  · rw [he]
    refine walkTimers_enterState hy fun _ => ?_
    by_cases hd : s.walk.state = .dig
    · exact hdig hd
    · exact h.2.2 hst hd

/-! ### Requests -/

/-- A commit that is admitted outside DIG is of no table that the sequencer reads (R89, R132, R182). -/
theorem commitTable_walk {k : Kind} (image : Image) {s : State} (ha : commitAdmitted s k = true)
    (hd : s.walk.state ≠ .dig) : (commitTable k image s).walk = s.walk
      ∧ (commitTable k image s).tables.active.walk = s.tables.active.walk := by
  cases k
  case walk | station => simp [commitAdmitted, hd] at ha
  all_goals simp [commitTable, commitEffects, commitSwing, commitAlarm, activate, PerKind.set]

theorem WalkTimers.tableCommit {s : State} (h : WalkTimers s) (tag : Byte) (p : List Byte) :
    WalkTimers (tableCommit tag p s).1 := by
  refine ⟨by simpa using h.1, by simpa using h.2.1, fun hst hd => ?_⟩
  simp only [tableCommit_frame] at hst hd
  have hu := h.2.2 hst hd
  suffices he : usableWalk (Machine.tableCommit tag p s).1 = usableWalk s by rwa [he]
  unfold Machine.tableCommit
  repeat' split
  all_goals try rfl
  all_goals
    rename_i k image _ ha _ _
    obtain ⟨hw, ht⟩ := commitTable_walk image (by simpa using ha) hd
    exact usableWalk_congr (by simp [hw]) (by simp [ht])

/-- No owner of a request reaches a timer but by a commit. -/
theorem requestOf_timers {c : Instr} {q : Nat × Rules × List Byte} (hq : requestOf c = some q)
    (tag : Byte) (p : List Byte) (s : State) : (WalkTimers s → WalkTimers (q.2.1.run tag p s).1)
      ∧ (q.2.1.run tag p s).1.line.scanTimer = s.line.scanTimer := by
  cases c
  all_goals cases hq
  case tableCommit => exact ⟨fun h => h.tableCommit tag p, by simp [tableCommitRules]⟩
  all_goals refine ⟨fun h => h.of_walk ?_ ?_, ?_⟩
  all_goals
    simp [identifyRules, tableStateRules, tableReadRules, tableBeginRules, tableBlockRules,
      tableEndRules, limitsReadRules, limitsSetRules, stationStatusRules, stationOutputRules,
      stationEnrollRules, alarmListReadRules, alarmAcknowledgeRules, alarmReAnnounceRules,
      firstOutReadRules, firstOutClearRules, logReadRules, keySetRules, keyUnlockRules,
      keyClearRules, guardRules, freezeRules, restartRules, undefinedRules, readAnswer, refuse]

theorem takeRequest_timers {c : Instr} {q : Nat × Rules × List Byte} (hq : requestOf c = some q)
    (s : State) : (WalkTimers s → WalkTimers (takeRequest q.1 q.2.1 q.2.2 s))
      ∧ (takeRequest q.1 q.2.1 q.2.2 s).line.scanTimer = s.line.scanTimer := by
  have hown : (WalkTimers s → WalkTimers (checkRequest q.2.1 q.2.2 s).1)
      ∧ (checkRequest q.2.1 q.2.2 s).1.line.scanTimer = s.line.scanTimer := by
    unfold checkRequest
    repeat' split
    · exact ⟨id, rfl⟩
    · exact ⟨id, rfl⟩
    · exact requestOf_timers hq _ _ s
  unfold takeRequest answerRequest
  repeat' split
  · exact ⟨fun h => (hown.1 h).of_walk (by simp) (by simp), by simpa using hown.2⟩
  · exact ⟨fun h => (hown.1 h).of_walk (by simp) (by simp), by simpa using hown.2⟩
  · exact ⟨id, rfl⟩

/-! ### The cab link and the drive records -/

theorem linkTimers_normal {l l' : Link} (h : LinkTimers l) (h1 : l'.cabState = .normal)
    (h2 : l'.silenceTimer.isSome = true) (h3 : l'.holdTimer = none) (h4 : l'.drives = l.drives) :
    LinkTimers l' := by
  refine ⟨by simp [h1, h2], by simp [h1, h3], ?_⟩
  rw [h4]
  exact h.2.2

theorem linkTimers_holding {l : Link} (h1 : l.cabState ≠ .normal) (h2 : l.silenceTimer = none)
    (h3 : l.holdTimer.isSome = true)
    (h4 : ∀ m, (l.drives.get m).timer.isSome = true ↔ (l.drives.get m).freshness = .fresh) :
    LinkTimers l :=
  ⟨by simp [h1, h2], by simp [h1, h3], h4⟩

/-- A drive record is replaced by one whose timer fits its freshness (R19, R20). -/
theorem LinkTimers.setDrive {l l' : Link} (h : LinkTimers l) (m : Motion) (r : DriveRecord)
    (hr : r.timer.isSome = true ↔ r.freshness = .fresh) (h1 : l'.silenceTimer = l.silenceTimer)
    (h2 : l'.holdTimer = l.holdTimer) (h3 : l'.cabState = l.cabState)
    (h4 : l'.drives = l.drives.set m r) : LinkTimers l' := by
  refine ⟨by rw [h1, h3]; exact h.1, by rw [h2, h3]; exact h.2.1, fun m' => ?_⟩
  rw [h4, PerMotion.get_set]
  split
  · exact hr
  · exact h.2.2 m'

theorem drives_start_timers (m : Motion) : ((PerMotion.const DriveRecord.start).get m).timer.isSome = true
    ↔ ((PerMotion.const DriveRecord.start).get m).freshness = .fresh := by
  cases m <;> simp [PerMotion.const, PerMotion.get, DriveRecord.start]

/-- The part in WAITING with the sequencer in STARTUP, as it is after every start (R11, R111, R133). -/
theorem timersInv_start {s : State} (hd : s.link.drives = .const .start)
    (hx : s.walk.state = .startup) (hy : s.walk.sub = .none) (ht : s.walk.transferTimer = none) :
    TimersInv (beginLine (enterWaiting s)) := by
  rw [timersInv_iff]
  refine fun _ => ⟨?_, ?_, ?_⟩
  · rw [(beginLine_frame _).2.1]
    refine linkTimers_holding (by simp [enterWaiting]) (by simp [enterWaiting]) rfl ?_
    rw [(enterWaiting_frame _).2.2.2.2.2.2.2.2.2.2.2.2.1, hd]
    exact drives_start_timers
  · refine ⟨by simp [SubFits, hx, hy], by simp [hy, ht], fun hn => absurd ?_ hn⟩
    simpa using hx
  · simp [beginLine, lineStart]

theorem timersInv_restartEffect (s : State) : TimersInv (restartEffect s) :=
  timersInv_start (by simp [restartLink]) (by simp [restartWalk, WalkSequencer.start])
    (by simp [restartWalk, WalkSequencer.start]) (by simp [restartWalk, WalkSequencer.start])

theorem TimersInv.takeRef {s : State} (h : TimersInv s) (p : RefPayload) : TimersInv (takeRef p s) := by
  have hlink : (Machine.takeRef p s).link.cabState = .normal
      ∧ (Machine.takeRef p s).link.silenceTimer.isSome = true
      ∧ (Machine.takeRef p s).link.holdTimer = none := by
    simp only [Machine.takeRef, sendReport_frame, forward_frame, shaperTakesRef_frame,
      walkTakesRef_frame]
    unfold linkTakesRef
    split <;> simp
  refine h.step (by simp [Machine.takeRef]) (fun hl => ?_) (fun hw => ?_) (by simp [Machine.takeRef])
  · obtain ⟨h1, h2, h3⟩ := hlink
    exact linkTimers_normal hl h1 h2 h3 (by simp [Machine.takeRef])
  · have hw1 : WalkTimers (linkTakesRef p.cycle s) := hw.of_walk (by simp) (by simp)
    have hw2 : WalkTimers (walkTakesRef p (linkTakesRef p.cycle s)) :=
      (hw1.refDecision p).congr rfl rfl rfl rfl
    exact hw2.of_walk (by simp [Machine.takeRef]) (by simp [Machine.takeRef])

theorem WalkTimers.deliverTo {s : State} (h : WalkTimers s) (m : Motion) (p : StatPayload) :
    WalkTimers (deliverTo m p s) := by
  cases m with
  | propel => exact h.setCam _
  | hoist | drag | swing => exact h.of_walk (by simp [Machine.deliverTo]) (by simp [Machine.deliverTo])

theorem TimersInv.takeStat {s : State} (h : TimersInv s) (m : Motion) (f : List Byte) :
    TimersInv (takeStat m f s) := by
  unfold Machine.takeStat
  dsimp only
  set s2 := if isSilent s m then evaluate (silentSlot m) false (refreshDrive m (readStat f) s)
    else refreshDrive m (readStat f) s with hs2
  have hkeep : s2.power = s.power ∧ s2.link = (refreshDrive m (readStat f) s).link
      ∧ s2.walk = s.walk ∧ s2.tables = s.tables ∧ s2.line.scanTimer = s.line.scanTimer := by
    rw [hs2]
    split <;> simp
  obtain ⟨hp, hl, hw, ht, hc⟩ := hkeep
  refine h.step (by simp [hp]) (fun h => ?_) (fun h => ?_) (by simp [hc])
  · refine h.setDrive m _ ?_ ?_ ?_ ?_ (by simp [hl, refreshDrive]; rfl)
    all_goals simp [hl]
  · exact ((h.of_walk hw ht).deliverTo m (readStat f)).of_walk (by simp) (by simp)

theorem TimersInv.enterHold {s : State} (h : TimersInv s) : TimersInv (enterHold s) := by
  refine h.step (by simp) (fun h => ?_) (fun h => h.of_walk (by simp) (by simp)) (by simp)
  refine linkTimers_holding (by simp [enterHold_eq]) (by simp [enterHold_eq]) rfl ?_
  simpa using h.2.2

theorem TimersInv.fallSilent {s : State} (h : TimersInv s) (m : Motion) :
    TimersInv (fallSilent m s) := by
  refine h.step (by simp) (fun h => ?_) (fun h => ?_) (by simp)
  · refine h.setDrive m { s.link.drives.get m with freshness := .silent, timer := none } (by simp)
      ?_ ?_ ?_ ?_
    all_goals simp [Machine.fallSilent]
  · unfold Machine.fallSilent silenceAt
    dsimp only
    split
    · exact h.of_walk (by simp) (by simp)
    · exact h.of_walk (by simp) (by simp)
    · exact h.of_walk (by simp) (by simp)
    · exact (WalkTimers.of_walk h (by simp) (by simp)).setCam _

/-! ### Every command -/

theorem timersInv_exec {c : Instr} {s t : State} (h : TimersInv s) (he : exec c s = .next t) :
    TimersInv t := by
  rcases hq : requestOf c with _ | q
  case some =>
    rcases exec_requestOf hq he with rfl | rfl
    · obtain ⟨hp, -, h3, h1, h2, h4⟩ := takeRequest_link hq s
      obtain ⟨hw, hc⟩ := takeRequest_timers hq s
      exact h.step (by rw [hp]; exact id) (fun hl => hl.congr h1 h2 h3 h4) hw (by rw [hc]; exact id)
    · exact h
  cases c with
  | frameDiscarded port f => cases he; exact h
  | refTakenFromCab f => exact keeps_of_guard h (fun _ => h.takeRef _) he
  | statTaken f =>
    refine keeps_of_guard h (fun _ => ?_) he
    split
    · exact h.takeStat _ _
    · exact h
    · exact h
  | passTraffic port f =>
    exact keeps_of_guard h (fun _ => h.step (by simp) (fun hl => hl.congr (by simp) (by simp)
      (by simp) (by simp)) (fun hw => hw.of_walk (by simp) (by simp)) (by simp)) he
  | mreqDiscarded f => cases he; exact h
  | transmissionCompletion port =>
    exact keeps_of_guard h (fun _ => h.step (by simp) (fun hl => hl.congr (by simp) (by simp)
      (by simp) (by simp)) (fun hw => hw.of_walk (by simp) (by simp)) (by simp)) he
  | deferredConfirmationOffered =>
    exact keeps_of_guard h (fun _ => h.step (by simp) (fun hl => hl.congr (by simp) (by simp)
      (by simp) (by simp)) (fun hw => hw.of_walk (by simp) (by simp)) (by simp)) he
  | cabSilenceTimerExpiry => exact keeps_of_guard h (fun _ => h.enterHold) he
  | holdTimerExpiry =>
    refine keeps_of_guard h (fun hr => h.step (by simp) (fun hl => ?_)
      (fun hw => hw.of_walk (by simp) (by simp)) (by simp)) he
    simp only [Bool.and_eq_true] at hr
    have hn : s.link.cabState ≠ .normal := hl.2.1.1 hr.2
    refine linkTimers_holding (by simpa using hn) ?_ rfl (by simpa using hl.2.2)
    simpa [hn] using hl.1
  | driveSilenceTimerExpiry m => exact keeps_of_guard h (fun _ => h.fallSilent m) he
  | transferTimerExpiry =>
    refine keeps_of_guard h (fun hr => h.step (by simp) (by simp) (fun hw => ?_) (by simp)) he
    simp only [Bool.and_eq_true] at hr
    have hst := hw.1.1 (hw.2.1.1 hr.2)
    refine hw.enters (enters_enterFault s) fun _ => hw.2.2 ?_ ?_
    · rcases hst with hx | hx <;> simp [hx]
    · rcases hst with hx | hx <;> simp [hx]
  | scanTimerExpiry =>
    refine keeps_of_guard h (fun _ => h.step (by simp) (by simp)
      (fun hw => hw.of_walk (by simp) (by simp)) fun _ => ?_) he
    unfold scanExpires
    dsimp only
    split <;> simp
  | deferredRoundStart =>
    exact keeps_of_guard h (fun _ => h.of_same (by simp) (by simp) (by simp) (by simp) (by simp)) he
  | enrollmentSweepStart =>
    exact keeps_of_guard h (fun _ => h.of_same (by simp) (by simp) (by simp) (by simp) (by simp)) he
  | writeOutputs x =>
    exact keeps_of_guard h (fun _ => h.of_same (by simp) (by simp) (by simp) (by simp) (by simp)) he
  | writeCondition x =>
    exact keeps_of_guard h (fun _ => h.of_same (by simp) (by simp) (by simp) (by simp) (by simp)) he
  | readClearing x =>
    exact keeps_of_guard h (fun _ => h.of_same (by simp) (by simp) (by simp) (by simp) (by simp)) he
  | seekIfPass x =>
    exact keeps_of_guard h (fun _ => h.of_same (by simp) (by simp) (by simp) (by simp) (by simp)) he
  | seekPass x =>
    exact keeps_of_guard h (fun _ => h.step (by simp) (fun hl => hl.congr (by simp) (by simp)
      (by simp) (by simp)) (fun hw => hw.of_walk (by simp) (by simp)) (by simp)) he
  | roundCompletion =>
    refine keeps_of_guard h (fun _ => h.step (by simp) (by simp) (fun hw => ?_) (by simp)) he
    unfold roundDone
    split
    · split
      · exact hw.walkRound.of_walk (by simp [completeRound]) (by simp [completeRound])
      · exact hw
    · exact hw
    · exact hw
  | delayTimerExpiry n =>
    exact keeps_of_guard h (fun _ => h.of_same (by simp) (by simp) (by simp) (by simp) (by simp)) he
  | timeCounterTick =>
    exact keeps_of_guard h (fun _ => h.of_same (by simp) (by simp) (by simp) (by simp) (by simp)) he
  | retainedWriteCompletion ok =>
    exact keeps_of_guard h (fun _ => h.step (by simp) (fun hl => hl.congr (by simp) (by simp)
      (by simp) (by simp)) (fun hw => hw.of_walk (by simp) (by simp)) (by simp)) he
  | restartTakesEffect => exact keeps_of_guard h (fun _ => timersInv_restartEffect s) he
  | powerOnStart found =>
    cases he
    exact timersInv_start (s := startedBlocks found s) (by simp [Link.start]) (by simp) (by simp)
      (by simp)
  | briefSupplyDipStart =>
    refine keeps_of_guard h (fun hp => h.step (by simp [hp]) (fun hl => hl.congr ?_ ?_ ?_ ?_)
      (fun hw => hw.of_walk (by simp [dipStart]) (by simp [dipStart])) (by simp [dipStart])) he
    all_goals simp [dipStart, cutPorts]
  | briefSupplyDipEnd =>
    refine keeps_of_guard h (fun hp => ?_) he
    unfold dipEnd
    dsimp only
    split
    · exact timersInv_restartEffect _
    · exact h.step (by simp [hp]) id (fun hw => hw.of_walk rfl rfl) id
  | supplyLoss => cases he; exact fun hp => absurd rfl hp
  | _ => simp [requestOf] at hq

/-- Settles O9. -/
theorem holdAndTimersKept : Obligations.HoldAndTimersKept :=
  ⟨fun _ _ _ hi h he => holdInv_exec hi h he, fun _ _ _ h he => timersInv_exec h he⟩

end Sys2Proof.Machine
end

section
/-! SUPPORT. What the deliveries of a STAT, and the silence of a drive, do to the alarm slots and to the
live records (R19, R20, R33, R68, R140, R141). -/

namespace Sys2Proof.Machine

/-! ### Live records: nothing but desired outputs -/

@[simp] theorem setCommands_undesired (s : State) :
    (setCommands s).line.records.map undesired = s.line.records.map undesired := by
  unfold setCommands
  split <;> simp

@[simp] theorem enterState_undesired (x : SeqState) (y : SubStep) (s : State) :
    (enterState x y s).line.records.map undesired = s.line.records.map undesired := by
  simp [enterState]

@[simp] theorem setCam_undesired (c : CamPhase) (s : State) :
    (setCam c s).line.records.map undesired = s.line.records.map undesired := by
  unfold setCam
  dsimp only
  (repeat' split) <;> simp

@[simp] theorem refreshSectors_undesired (s : State) :
    (refreshSectors s).line.records.map undesired = s.line.records.map undesired := by
  simp [refreshSectors]

@[simp] theorem setAngle_undesired (raw : Option Nat) (s : State) :
    (setAngle raw s).line.records.map undesired = s.line.records.map undesired := by
  simp [setAngle, handSectors]

@[simp] theorem handPosition_undesired (s : State) :
    (handPosition s).line.records.map undesired = s.line.records.map undesired := by
  simp only [handPosition, updateClearance, evaluate_undesired, evaluateBound_undesired,
    State.withAlarm_line]
  split <;> simp

@[simp] theorem makeAttempt_undesired (s : State) :
    (makeAttempt s).line.records.map undesired = s.line.records.map undesired := by
  unfold makeAttempt
  split <;> simp

@[simp] theorem deliverTo_undesired (m : Motion) (p : StatPayload) (s : State) :
    (deliverTo m p s).line.records.map undesired = s.line.records.map undesired := by
  cases m <;> simp [deliverTo, deliverPayout, deliverSwing, deliverCam]

/-! ### Slots that a delivery does not evaluate -/

@[simp] theorem slotOf_writePayout (m : Motion) (p : StatPayload) (s : State) (n : Nat) :
    slotOf (writePayout m p s) n = slotOf s n := slotOf_congr (by simp) n

@[simp] theorem slotOf_deliverLoad (p : StatPayload) (s : State) (n : Nat) :
    slotOf (deliverLoad p s) n = slotOf s n := slotOf_congr (by simp) n

@[simp] theorem slotOf_offerCab (f : QFrame) (s : State) (n : Nat) :
    slotOf (offerCab f s) n = slotOf s n := slotOf_congr (by simp) n

/-- A source that neither a hand-off of the position nor one of the containing-sector set evaluates. -/
def handsNothing (d : AlarmDef) : Prop :=
  (∀ p present, zoneSource p d present = none) ∧ ∀ set present, sectorSource set d present = none

theorem handsNothing_driveFlag {d : AlarmDef} {m : Motion} {n : Nat} (h : d.source = .driveFlag m n) :
    handsNothing d := by simp [handsNothing, zoneSource, sectorSource, h]

theorem handsNothing_driveValue {d : AlarmDef} {m : Motion} {loop below : Bool} {t y : Int}
    (h : d.source = .driveValue m loop below t y) : handsNothing d := by
  simp [handsNothing, zoneSource, sectorSource, h]

/-- A slot that no hand-off evaluates: one of a drive or of the cab, or a loaded one whose source is neither
a ZONE nor a SECTOR. -/
def Unhanded (s : State) (n : Nat) : Prop :=
  n < 5 ∨ (12 ≤ n ∧ n < s.alarm.slots.length
    ∧ ∀ d, (definitionsOf s)[n - 12]? = some d → handsNothing d)

theorem Unhanded.congr {s t : State} {n : Nat} (h : Unhanded s n)
    (hl : t.alarm.slots.length = s.alarm.slots.length) (ht : t.tables = s.tables) : Unhanded t n := by
  unfold Unhanded definitionsOf
  rw [hl, ht]
  exact h

/-- A hand-off to sources of one kind leaves the condition of every slot it has no value for. -/
theorem Unhanded.evaluateBound {s : State} {n : Nat} (h : Unhanded s n)
    {value : AlarmDef → Bool → Option Bool}
    (hv : ∀ d present, handsNothing d → value d present = none) :
    (slotOf (evaluateBound value s) n).condition = (slotOf s n).condition := by
  rcases h with h | ⟨h1, h2, h3⟩
  · rw [evaluateBound_internal (by omega)]
  · obtain ⟨k, rfl⟩ := Nat.exists_eq_add_of_le h1
    rw [evaluateBound_condition value h2]
    rw [Nat.add_sub_cancel_left] at h3
    split
    · rename_i d hd
      simp [hv d _ (h3 d hd)]
    · rfl

theorem Unhanded.ne {s : State} {n k : Nat} (h : Unhanded s n) (h5 : 5 ≤ k) (h12 : k < 12) : n ≠ k := by
  rcases h with h | ⟨h, -⟩ <;> omega

theorem Unhanded.refreshSectors {s : State} {n : Nat} (h : Unhanded s n) :
    slotOf (refreshSectors s) n = slotOf s n :=
  evaluate_slots_other _ _ (h.ne (by decide) (by decide))

@[simp] theorem refreshSectors_slots_length (s : State) :
    (refreshSectors s).alarm.slots.length = s.alarm.slots.length := by simp [Machine.refreshSectors]

@[simp] theorem handSectors_slots_length (s : State) :
    (handSectors s).alarm.slots.length = s.alarm.slots.length := by simp [handSectors]

@[simp] theorem setAngle_slots_length (raw : Option Nat) (s : State) :
    (setAngle raw s).alarm.slots.length = s.alarm.slots.length := by simp [setAngle]

@[simp] theorem updateClearance_slots_length (p : Option HandedPosition) (s : State) :
    (updateClearance p s).alarm.slots.length = s.alarm.slots.length := by
  unfold updateClearance
  dsimp only
  split <;> simp

@[simp] theorem handPosition_slots_length (s : State) :
    (handPosition s).alarm.slots.length = s.alarm.slots.length := by simp [handPosition]

@[simp] theorem makeAttempt_slots_length (s : State) :
    (makeAttempt s).alarm.slots.length = s.alarm.slots.length := by
  unfold makeAttempt
  split <;> simp

@[simp] theorem deliverTo_slots_length (m : Motion) (p : StatPayload) (s : State) :
    (deliverTo m p s).alarm.slots.length = s.alarm.slots.length := by
  cases m <;> simp [deliverTo, deliverPayout, deliverSwing, deliverCam]

theorem Unhanded.handSectors {s : State} {n : Nat} (h : Unhanded s n) :
    (slotOf (handSectors s) n).condition = (slotOf s n).condition := by
  have hk : Unhanded (keepSectorSet s) n := h.congr rfl rfl
  exact hk.evaluateBound fun d present hd => hd.2 _ _

theorem Unhanded.setAngle {s : State} {n : Nat} (h : Unhanded s n) (raw : Option Nat) :
    (slotOf (setAngle raw s) n).condition = (slotOf s n).condition := by
  have hw : Unhanded (s.withSwing { s.swing with
      raw := raw, corrected := raw.map (correctedAngle (swingOrigin s)) }) n := h.congr rfl rfl
  have hr := hw.congr (refreshSectors_slots_length _) (by simp : _ = _)
  exact hr.handSectors.trans (congrArg Slot.condition hw.refreshSectors)

theorem Unhanded.updateClearance {s : State} {n : Nat} (h : Unhanded s n) (p : Option HandedPosition) :
    slotOf (updateClearance p s) n = slotOf s n := by
  have hw : Unhanded (s.withSwing { s.swing with clear := clearanceAfter p s }) n := h.congr rfl rfl
  unfold Machine.updateClearance
  dsimp only
  split
  · rfl
  · exact hw.refreshSectors

theorem Unhanded.handPosition {s : State} {n : Nat} (h : Unhanded s n) :
    (slotOf (handPosition s) n).condition = (slotOf s n).condition := by
  have hu : Unhanded (Machine.updateClearance (presentPosition s) s) n := h.congr (by simp) (by simp)
  have hp := (hu.congr rfl rfl : Unhanded ((Machine.updateClearance (presentPosition s) s).withAlarm
    { (Machine.updateClearance (presentPosition s) s).alarm with lastPosition := presentPosition s }) n)
  calc (slotOf (Machine.handPosition s) n).condition
      = (slotOf (Machine.evaluateBound (zoneSource (presentPosition s)) _) n).condition := by
        unfold Machine.handPosition
        dsimp only
        rw [evaluate_slots_other _ _ (h.ne (k := 6) (by decide) (by decide)),
          evaluate_slots_other _ _ (h.ne (k := 5) (by decide) (by decide))]
    _ = _ := hp.evaluateBound fun d present hd => hd.1 _ _
    _ = _ := congrArg Slot.condition (h.updateClearance (presentPosition s))

theorem Unhanded.makeAttempt {s : State} {n : Nat} (h : Unhanded s n) :
    (slotOf (makeAttempt s) n).condition = (slotOf s n).condition := by
  unfold Machine.makeAttempt
  split
  · rfl
  · exact Unhanded.handPosition (h.congr rfl rfl)

theorem Unhanded.deliverPayout {s : State} {n : Nat} (h : Unhanded s n) (m : Motion)
    (p : StatPayload) : (slotOf (deliverPayout m p s) n).condition = (slotOf s n).condition := by
  have hw : Unhanded (writePayout m p s) n := h.congr (by simp) (by simp)
  have he : Unhanded (evaluate 6 (travelExceeded (writePayout m p s)) (writePayout m p s)) n :=
    hw.congr (by simp) (by simp)
  calc (slotOf (Machine.deliverPayout m p s) n).condition
      = (slotOf (evaluate 6 (travelExceeded (writePayout m p s)) (writePayout m p s)) n).condition :=
        he.makeAttempt
    _ = (slotOf (writePayout m p s) n).condition := by
        rw [evaluate_slots_other _ _ (h.ne (k := 6) (by decide) (by decide))]
    _ = (slotOf s n).condition := by rw [slotOf_writePayout]

/-- A delivery leaves the condition of every slot that no hand-off evaluates. -/
theorem Unhanded.deliverTo {s : State} {n : Nat} (h : Unhanded s n) (m : Motion) (p : StatPayload) :
    (slotOf (deliverTo m p s) n).condition = (slotOf s n).condition := by
  cases m with
  | hoist =>
    unfold Machine.deliverTo
    rw [slotOf_deliverLoad, h.deliverPayout]
  | drag => exact h.deliverPayout _ _
  | swing => exact h.setAngle _
  | propel => exact congrArg Slot.condition (slotOf_congr (by simp [Machine.deliverTo]) n)

/-! ### A STAT taken (R19, R140) -/

theorem silentSlot_lt (m : Motion) : silentSlot m < 5 := by cases m <;> decide

/-- The state in which the deliveries of a STAT begin: the record refreshed, the SILENT slot returned. -/
def statBegun (m : Motion) (p : StatPayload) (s : State) : State :=
  if isSilent s m then evaluate (silentSlot m) false (refreshDrive m p s) else refreshDrive m p s

theorem takeStat_eq (m : Motion) (f : List Byte) (s : State) : takeStat m f s
    = offerCab { kind := .stat m, bytes := f } (evaluateBound (driveSource m (readStat f))
        (deliverTo m (readStat f) (statBegun m (readStat f) s))) := rfl

@[simp] theorem statBegun_frame (m : Motion) (p : StatPayload) (s : State) :
    (statBegun m p s).power = s.power ∧ (statBegun m p s).link = (refreshDrive m p s).link
      ∧ (statBegun m p s).mgmt = s.mgmt ∧ (statBegun m p s).store = s.store
      ∧ (statBegun m p s).tables = s.tables ∧ (statBegun m p s).shaper = s.shaper
      ∧ (statBegun m p s).walk = s.walk ∧ (statBegun m p s).line = s.line
      ∧ (statBegun m p s).alarm.time = s.alarm.time ∧ (statBegun m p s).alarm.bound = s.alarm.bound
      ∧ (statBegun m p s).alarm.slots.length = s.alarm.slots.length := by
  unfold statBegun
  have hm := silentSlot_lt m
  split
  · simp [evaluate_false_shaper, evaluate_internal_line (n := silentSlot m) _ _ (by omega)]
  · simp

theorem statBegun_slot {m : Motion} {n : Nat} (h : 5 ≤ n) (p : StatPayload) (s : State) :
    slotOf (statBegun m p s) n = slotOf s n := by
  have hm := silentSlot_lt m
  unfold statBegun
  split
  · rw [evaluate_slots_other _ _ (by omega)]
    rfl
  · rfl

theorem statBegun_silentSlot {m : Motion} {s : State} (h : (s.link.drives.get m).freshness = .silent)
    (p : StatPayload) : (slotOf (statBegun m p s) (silentSlot m)).condition = false := by
  have hm := silentSlot_lt m
  have hs : isSilent s m = true := by simp [isSilent, h]
  rw [statBegun, if_pos hs]
  exact evaluate_false_condition (by omega)

/-- The condition of a bound drive source after a STAT (R140): the value the frame gives it, if it is of the
frame's drive. -/
theorem takeStat_driveSource {m : Motion} {f : List Byte} {s : State} {k : Nat} {d : AlarmDef}
    (hl : s.alarm.slots.length = 64) (hk : k < 52) (hd : (definitionsOf s)[k]? = some d)
    (hb : s.alarm.bound.getD k false = true) (hn : handsNothing d) :
    (slotOf (takeStat m f s) (12 + k)).condition
      = (driveSource m (readStat f) d (slotOf s (12 + k)).condition).getD
          (slotOf s (12 + k)).condition := by
  set s2 := statBegun m (readStat f) s with hs2
  have hdefs : definitionsOf s2 = definitionsOf s := by simp [definitionsOf, hs2]
  have hun : Unhanded s2 (12 + k) := by
    refine .inr ⟨by omega, by simp [hs2, hl]; omega, fun d' hd' => ?_⟩
    rw [Nat.add_sub_cancel_left, hdefs, hd] at hd'
    cases hd'
    exact hn
  have hdefs3 : definitionsOf (deliverTo m (readStat f) s2) = definitionsOf s := by
    rw [← hdefs]
    simp [definitionsOf]
  have hcond : (slotOf (deliverTo m (readStat f) s2) (12 + k)).condition
      = (slotOf s (12 + k)).condition := by
    rw [hun.deliverTo, hs2, statBegun_slot (by omega)]
  rw [takeStat_eq, slotOf_offerCab,
    evaluateBound_condition (driveSource m (readStat f)) (by simp [hl]; omega), hdefs3, hd, hcond]
  simpa [hs2] using fun h => absurd hb (by simpa using h)

end Sys2Proof.Machine
end

section
/-! SUPPORT. A STAT taken from a drive (R19, R140). -/

namespace Sys2Proof.Machine

/-- What a STAT leaves of the records of the line, but for the desired outputs of the live ones. -/
@[simp] theorem takeStat_undesired (m : Motion) (f : List Byte) (s : State) :
    (takeStat m f s).line.records.map undesired = s.line.records.map undesired := by
  rw [takeStat_eq]
  simp

/-- A STAT reaches the records of the line alone. -/
theorem takeStat_line (m : Motion) (f : List Byte) (s : State) :
    (takeStat m f s).line = { s.line with records := (takeStat m f s).line.records } := by
  apply StationLine.eq_of_records <;> simp [takeStat_eq]

/-- Settles O13. -/
theorem statRefreshesItsDrive : Obligations.StatRefreshesItsDrive := by
  unfold Obligations.StatRefreshesItsDrive
  intro f m s hp hports hc
  obtain ⟨-, hcab, -, -⟩ := (portsInv_iff s).1 hports
  refine ⟨takeStat m f s, by simp [exec, execStatTaken, portsOpen, hc, hp], ?link, ?newest, ?silent,
    fun hl k d hk hd hb => ⟨fun n hs => ?flag, fun loop below t y hs => ?value, fun m' hm hs => ?other⟩,
    ?_⟩
  case link =>
    rw [takeStat_eq, offerCab_eq]
    simp [refreshDrive, readStat]
  case newest =>
    rw [takeStat_eq, offerCab_cabPort]
    simp [hp, refreshDrive, offerTo_newest_cab hcab]
  case silent =>
    intro hs
    have hm := silentSlot_lt m
    have hun : Unhanded (statBegun m (readStat f) s) (silentSlot m) := .inl hm
    rw [takeStat_eq, slotOf_offerCab, evaluateBound_internal (by omega), hun.deliverTo,
      statBegun_silentSlot hs]
  case flag =>
    rw [takeStat_driveSource hl hk hd hb (handsNothing_driveFlag hs)]
    simp [driveSource, hs, readStat]
  case value =>
    rw [takeStat_driveSource hl hk hd hb (handsNothing_driveValue hs)]
    cases loop <;> simp [driveSource, thresholdSource, hs, readStat]
  case other =>
    rcases hs with ⟨n, hs⟩ | ⟨loop, below, t, y, hs⟩
    · rw [takeStat_driveSource hl hk hd hb (handsNothing_driveFlag hs)]
      simp [driveSource, hs, hm]
    · rw [takeStat_driveSource hl hk hd hb (handsNothing_driveValue hs)]
      simp [driveSource, hs, hm]
  refine ⟨?_, ?_, ?_, ?_, ?_, ?_, ?_, ?_, takeStat_line m f s, takeStat_undesired m f s, ?_⟩ <;>
    simp [takeStat_eq]

end Sys2Proof.Machine
end

section
/-! SUPPORT. A drive falls silent (R20), and what its blocks do at it (R37, R67, R68, R90, R141). -/

namespace Sys2Proof.Machine

/-! ### The angle withdrawn (R67, R68) -/

theorem containingSet_none (sectors : List Sector) :
    containingSet sectors none = List.replicate 16 false := by
  unfold containingSet
  rw [List.eq_replicate_iff]
  refine ⟨by simp, fun b hb => ?_⟩
  obtain ⟨n, -, rfl⟩ := List.mem_map.1 hb
  split <;> simp_all

theorem setAngle_none_swing (s : State) : (setAngle none s).swing
    = { s.swing with raw := none, corrected := none, containing := List.replicate 16 false } := by
  simp [setAngle, handSectors, keepSectorSet, refreshSectors, containingSet_none]

/-- Without a valid angle the set handed to the alarm unit is all false. -/
theorem setAngle_none_lastContaining (s : State) :
    (setAngle none s).alarm.lastContaining = List.replicate 16 false := by
  simp [setAngle, handSectors, keepSectorSet, refreshSectors, containingSet_none]

theorem setAngle_slot_other {n : Nat} (hn : n < 12) (h7 : n ≠ 7) (raw : Option Nat) (s : State) :
    slotOf (setAngle raw s) n = slotOf s n := by
  unfold setAngle handSectors
  rw [evaluateBound_internal hn]
  exact evaluate_slots_other _ _ h7

theorem setAngle_none_slot_seven (s : State) :
    (slotOf (setAngle none s) 7).condition = false := by
  unfold setAngle handSectors
  rw [evaluateBound_internal (by decide)]
  exact evaluate_false_condition (by decide)

/-- A bound SECTOR source holds its sector's bit of the set handed on (R141). -/
theorem handSectors_sectorSource {s : State} {k n : Nat} {d : AlarmDef}
    (hl : 12 + k < s.alarm.slots.length) (hd : (definitionsOf s)[k]? = some d)
    (hb : s.alarm.bound.getD k false = true) (hn : d.source = .sector n) :
    (slotOf (handSectors s) (12 + k)).condition = s.swing.containing.getD n false := by
  have hd' : (definitionsOf (keepSectorSet s))[k]? = some d := hd
  have hb' : (keepSectorSet s).alarm.bound.getD k false = true := hb
  unfold handSectors
  rw [evaluateBound_condition (sectorSource s.swing.containing) (s := keepSectorSet s) hl, hd']
  simp only [hb', if_true, sectorSource, hn, Option.getD_some]

/-- Without a valid angle every bound SECTOR source is false (R141). -/
theorem setAngle_none_sectorSource {s : State} {k n : Nat} {d : AlarmDef}
    (hl : 12 + k < s.alarm.slots.length) (hd : (definitionsOf s)[k]? = some d)
    (hb : s.alarm.bound.getD k false = true) (hn : d.source = .sector n) :
    (slotOf (setAngle none s) (12 + k)).condition = false := by
  have hset := congrArg SwingUnit.containing (setAngle_none_swing s)
  unfold setAngle at hset ⊢
  rw [handSectors_sectorSource (by simpa using hl) (by simpa [definitionsOf] using hd)
    (by simpa [refreshSectors] using hb) hn]
  rw [(handSectors_frame _).2.2.2.1] at hset
  rw [hset, List.getD_eq_getElem?_getD]
  exact List.getElem?_getD_replicate_default_eq false 16 n

/-! ### The cam phase withdrawn (R90) -/

theorem setCam_unknown (s : State) : setCam .unknown s = s.withWalk { s.walk with cam := .unknown } := by
  simp [setCam]

/-! ### Slot 6 (R37) -/

theorem beyond_iff (p : Option Nat) (lo hi : Nat) :
    beyond p lo hi = true ↔ ∃ n, p = some n ∧ (n < lo ∨ hi < n) := by
  cases p <;> simp [beyond]

theorem travelExceeded_iff (s : State) : travelExceeded s = true ↔ (geometryOf s).isSome = true
    ∧ ∃ w, s.position.working = some w
      ∧ ((∃ p, usablePayout s .hoist = some p ∧ (p < w.hoistMin ∨ w.hoistMax < p))
        ∨ ∃ p, usablePayout s .drag = some p ∧ (p < w.dragMin ∨ w.dragMax < p)) := by
  unfold travelExceeded geometryOf
  cases s.tables.active.geometry <;> cases s.position.working <;> simp [beyond_iff]

/-- A drum's payout is usable while its record is FRESH alone (R27). -/
theorem usablePayout_of_silent {s : State} {m : Motion}
    (h : (s.link.drives.get m).freshness ≠ .fresh) : usablePayout s m = none := by
  unfold usablePayout
  dsimp only
  split <;> simp [isFresh, h]

theorem usablePayout_congr {s t : State} (hl : t.link.drives = s.link.drives)
    (hp : t.position = s.position) : usablePayout t = usablePayout s := by
  funext m
  simp [usablePayout, payoutRecord, isFresh, hl, hp]

/-! ### A drive falls silent -/

/-- The state in which the drive's blocks follow: the record SILENT, the SILENT slot's condition true. -/
def silentBegun (m : Motion) (s : State) : State :=
  evaluate (silentSlot m) true (s.withLink { s.link with
    drives := s.link.drives.set m { s.link.drives.get m with freshness := .silent, timer := none } })

theorem fallSilent_eq (m : Motion) (s : State) : fallSilent m s = silenceAt m (silentBegun m s) := rfl

theorem silentBegun_slot {m : Motion} {n : Nat} (h : 5 ≤ n) (s : State) :
    slotOf (silentBegun m s) n = slotOf s n := by
  have hm := silentSlot_lt m
  rw [silentBegun, evaluate_slots_other _ _ (by omega)]
  rfl

theorem silentBegun_silentSlot (m : Motion) {s : State} (h : s.alarm.slots.length = 64) :
    (slotOf (silentBegun m s) (silentSlot m)).condition = true := by
  have hm := silentSlot_lt m
  exact evaluate_condition_internal true (by omega) (by rw [State.withLink_alarm]; omega)

theorem silenceAt_silentSlot (m : Motion) (s : State) :
    (slotOf (silenceAt m s) (silentSlot m)).condition = (slotOf s (silentSlot m)).condition := by
  have hun : Unhanded s (silentSlot m) := .inl (silentSlot_lt m)
  cases m with
  | hoist => exact congrArg Slot.condition (evaluate_slots_other _ _ (by decide))
  | drag => exact congrArg Slot.condition (evaluate_slots_other _ _ (by decide))
  | swing => exact hun.setAngle none
  | propel => exact congrArg Slot.condition (slotOf_congr (by simp [silenceAt]) _)

theorem fallSilent_line (m : Motion) (s : State) :
    (fallSilent m s).line = { s.line with records := (fallSilent m s).line.records } := by
  cases m <;> apply StationLine.eq_of_records <;> simp [fallSilent_eq, silentBegun, silenceAt]

theorem fallSilent_link (m : Motion) (s : State) : (fallSilent m s).link = { s.link with
    drives := s.link.drives.set m
      { current := (s.link.drives.get m).current, freshness := .silent, timer := none } } := by
  cases m <;> simp [fallSilent_eq, silentBegun, silenceAt]

/-- At the silence of a drum slot 6 holds what it holds of the state it leads to (R37). -/
theorem fallSilent_slot_six {m : Motion} (hm : m = .hoist ∨ m = .drag) {s : State}
    (h : s.alarm.slots.length = 64) :
    (slotOf (fallSilent m s) 6).condition = travelExceeded (fallSilent m s) := by
  have hev : fallSilent m s
      = evaluate 6 (travelExceeded (silentBegun m s)) (silentBegun m s) := by
    rcases hm with rfl | rfl <;> rfl
  have hu := usablePayout_congr (s := silentBegun m s) (t := fallSilent m s) (by simp [hev]) (by simp [hev])
  have ht : travelExceeded (fallSilent m s) = travelExceeded (silentBegun m s) := by
    unfold travelExceeded
    rw [hu]
    simp [hev]
  rw [ht, hev]
  exact evaluate_condition_internal _ (by decide) (by simp [silentBegun, h])

/-- Settles O14. -/
theorem driveFallsSilent : Obligations.DriveFallsSilent := by
  unfold Obligations.DriveFallsSilent
  intro m s hp hf ht hl
  refine ⟨fallSilent m s, ?exec, fallSilent_link m s, ?silentSlot, fun hm => ⟨?payout, ?six⟩, ?sixOther,
    ?swing, ?propel, ?_⟩
  case exec =>
    have hpow : powered s = true := by simpa [powered] using hp
    have hrun : silenceRuns s m = true := by simp [silenceRuns, isFresh, hf, ht]
    simp [exec, execDriveSilenceTimerExpiry, hpow, hrun]
  case silentSlot =>
    rw [fallSilent_eq, silenceAt_silentSlot, silentBegun_silentSlot m hl]
  case payout =>
    exact usablePayout_of_silent (by simp [fallSilent_link, PerMotion.get_set])
  case six =>
    rw [fallSilent_slot_six hm hl, travelExceeded_iff]
    simp [geometryOf]
  case sixOther =>
    rintro (rfl | rfl)
    · rw [← silentBegun_slot (m := .swing) (by decide) s]
      exact setAngle_slot_other (by decide) (by decide) _ _
    · rw [← silentBegun_slot (m := .propel) (by decide) s]
      exact slotOf_congr (by simp [fallSilent_eq, silenceAt]) _
  case swing =>
    rintro rfl
    have hsw := setAngle_none_swing (silentBegun .swing s)
    refine ⟨congrArg SwingUnit.raw hsw, congrArg SwingUnit.corrected hsw,
      congrArg SwingUnit.containing hsw, setAngle_none_slot_seven _, setAngle_none_lastContaining _,
      fun k d n hk hd hb hn => ?_⟩
    exact setAngle_none_sectorSource (by simp [hl]; omega)
      (by simpa [definitionsOf, silentBegun] using hd) (by simpa [silentBegun] using hb) hn
  case propel =>
    rintro rfl
    simp [fallSilent_eq, silenceAt, setCam_unknown]
  have hrest : (m ≠ .swing → (fallSilent m s).swing = s.swing)
      ∧ (m ≠ .propel → (fallSilent m s).walk = s.walk) := by
    cases m <;> simp [fallSilent_eq, silentBegun, silenceAt]
  obtain ⟨hswing, hwalk⟩ := hrest
  exact ⟨hswing, hwalk, by simp, by simp, by simp, by simp, by simp, by simp, by simp,
    fallSilent_line m s⟩

end Sys2Proof.Machine
end

section
/-! SUPPORT. What a REF taken from the cab leaves unchanged, and the supervisor report it ends in (R13,
R21, R22). -/

namespace Sys2Proof.Machine

/-! ### The report (R21, R22) -/

/-- A false evaluation offers no notice (R151). -/
theorem evaluate_false_notices (n : Nat) (s : State) :
    (evaluate n false s).alarm.notices = s.alarm.notices := by
  simp only [evaluate, returnEntry]
  (repeat' split) <;> simp_all

/-- The notice a report takes: the one of the waiting RPT, or else the head of the queue (R21). -/
theorem takeNotice_notice (s : State) :
    (takeNotice s).1 = (waitingNotice s <|> s.alarm.notices.head?) := by
  unfold takeNotice
  cases waitingNotice s <;> cases s.alarm.notices <;> rfl

theorem takeNotice_notices (s : State) : (takeNotice s).2.alarm.notices
    = if (waitingNotice s).isSome then s.alarm.notices else s.alarm.notices.tail := by
  unfold takeNotice
  cases waitingNotice s with
  | some n => rfl
  | none => cases h : s.alarm.notices <;> simp [h]

theorem noticeBytes_eq (s : State) (notice : Option Nat) :
    noticeBytes s notice = match notice with
      | none => [0, 0, 0, 0]
      | some n => [1, BitVec.ofNat 8 n,
          BitVec.ofNat 8 (match attrsOf s n with
            | some a => if slotInUse s n then classCode a.cls else 0
            | none => 0),
          BitVec.ofNat 8 (((entryOf s n).map fun e => entryStateCode e.state).getD 0)] := by
  cases notice with
  | none => rfl
  | some n =>
    simp only [noticeBytes, reportClass, reportEntryState, u8, List.cons_append, List.nil_append]
    cases attrsOf s n <;> cases entryOf s n <;> simp

theorem unackCount_eq (s : State) :
    unackCount s = (s.alarm.list.filter fun e => e.state ≠ .raisedAck).length := by
  have : isUnack = fun e => decide (e.state ≠ .raisedAck) := by
    funext e
    unfold isUnack
    cases e.state <;> rfl
  rw [unackCount, this]

theorem optU16_eq (n : Option Nat) : optU16 n = u16 (n.getD 65535) := by cases n <;> rfl

@[simp] theorem noticeBytes_length (s : State) (notice : Option Nat) :
    (noticeBytes s notice).length = 4 := by cases notice <;> rfl

theorem reportPayload_length (s : State) (cycle : Nat) (hold : Bool) (notice : Option Nat) :
    (reportPayload s cycle hold notice).length = 41 := by
  have h8 (n : Nat) : (u8 n).length = 1 := by simp only [u8, List.length_singleton]
  have h16 (n : Nat) : (u16 n).length = 2 := by simp only [u16, List.length_cons, List.length_nil]
  have hi (n : Int) : (i16 n).length = 2 := by rw [i16, h16]
  have hf (a b c d : Bool) : (fourFlags a b c d).length = 1 := by rw [fourFlags, h8]
  have hb (b : Bool) : (flagByte b).length = 1 := by rw [flagByte, h8]
  unfold reportPayload
  rw [optU16_eq]
  simp only [List.length_append, h8, h16, hi, hf, hb, noticeBytes_length]

/-- The payload of an RPT, with the positions of 10.2 spelled out. -/
theorem reportPayload_eq (s : State) (cycle : Nat) (hold : Bool) (notice : Option Nat) :
    reportPayload s cycle hold notice
      = [BitVec.ofNat 8 cycle, if hold then 1 else 0]
        ++ u8 (seqStateCode s.walk.state) ++ u8 (subStepCode s.walk.sub) ++ u8 s.walk.refusal
        ++ u8 (posStatusCode s.position.status + if s.position.edge then 4 else 0)
        ++ i16 s.position.reach ++ i16 s.position.height ++ u8 s.position.zone
        ++ u16 (s.swing.corrected.getD 65535) ++ u16 (flagBits s.swing.containing)
        ++ u16 s.swing.heldLoad
        ++ u16 s.shaper.limits.raise ++ u16 s.shaper.limits.lower
        ++ u16 s.shaper.limits.haulIn ++ u16 s.shaper.limits.payOut
        ++ u16 s.shaper.limits.cw ++ u16 s.shaper.limits.ccw ++ u16 s.shaper.limits.step
        ++ fourFlags (s.shaper.gates.hoist = .passing) (s.shaper.gates.drag = .passing)
          (s.shaper.gates.swing = .passing) (s.shaper.gates.propel = .passing)
        ++ u16 s.walk.stepCount.toNat
        ++ u8 s.alarm.list.length
        ++ u8 (s.alarm.list.filter fun e => e.state ≠ .raisedAck).length
        ++ u8 (s.alarm.list.foldl (fun c e => max c (classCode (classOf s e))) 0)
        ++ noticeBytes s notice := by
  have hh : u8 cycle ++ flagByte hold = [BitVec.ofNat 8 cycle, if hold then 1 else 0] := by
    cases hold <;> rfl
  have he : 4 * s.position.edge.toNat = if s.position.edge then 4 else 0 := by
    cases s.position.edge <;> rfl
  have hc : highestClass s = s.alarm.list.foldl (fun c e => max c (classCode (classOf s e))) 0 :=
    List.foldl_map
  unfold reportPayload
  rw [hh, he, hc, optU16_eq, unackCount_eq]
  rfl

/-- The RPT goes out with what the state it leads to holds; the notice queue gives up its head where the
report took it. -/
theorem sendReport_newest {s : State} (hp : s.power = .on) (h : CabPortFits s.link.cabPort) (cycle : Nat)
    (hold : Bool) : (sendReport cycle hold s).link.cabPort.newest = some
      { kind := .rpt
        bytes := buildFrame 0x13 0x01 0x7E (reportPayload (sendReport cycle hold s) cycle hold
          (waitingNotice s <|> s.alarm.notices.head?)) } := by
  have hpay : reportPayload (sendReport cycle hold s) = reportPayload (takeNotice s).2 := by
    unfold sendReport
    rw [offerCab_eq]
    rfl
  rw [hpay, ← takeNotice_notice]
  unfold sendReport
  rw [offerCab_cabPort]
  simp only [takeNotice_frame, hp, if_true]
  exact offerTo_newest_cab h (by simp)

theorem sendReport_notices (cycle : Nat) (hold : Bool) (s : State) :
    (sendReport cycle hold s).alarm.notices
      = if (waitingNotice s).isSome then s.alarm.notices else s.alarm.notices.tail := by
  unfold sendReport
  rw [offerCab_eq]
  exact takeNotice_notices s

/-! ### A REF taken from the cab (R5, R13) -/

/-- The state in which shaping begins: the link and the walk sequencer have taken the frame (R5). -/
def refDecided (p : RefPayload) (s : State) : State := walkTakesRef p (linkTakesRef p.cycle s)

/-- The state from which the report is built: the shaped REF is forwarded (R5, R21). -/
def refForwarded (p : RefPayload) (s : State) : State :=
  forward p (shape p (refDecided p s)) (shaperTakesRef p (refDecided p s))

theorem takeRef_eq (p : RefPayload) (s : State) :
    takeRef p s = sendReport p.cycle s.link.lastOriginHold (refForwarded p s) := rfl

theorem exec_refTaken {f : List Byte} {s : State} (hp : s.power = .on) (hc : classifyCab f = .ref) :
    exec (.refTakenFromCab f) s = .next (takeRef (readRef f) s) := by
  simp [exec, execRefTakenFromCab, portsOpen, hp, hc]

theorem linkTakesRef_alarm (c : Nat) (s : State) :
    (linkTakesRef c s).alarm.notices = s.alarm.notices
      ∧ (linkTakesRef c s).alarm.firstOut = s.alarm.firstOut
      ∧ (linkTakesRef c s).line.records.map undesired = s.line.records.map undesired := by
  unfold linkTakesRef
  dsimp only
  split
  · simp [evaluate_false_notices, evaluate_false_firstOut]
  · simp

theorem linkTakesRef_link (c : Nat) (s : State) : (linkTakesRef c s).link = { s.link with
    cabState := .normal, silenceTimer := some (silenceLength (plantOf s).silenceSelection),
    holdTimer := none, lastCycle := some c } := by
  unfold linkTakesRef
  split <;> simp [cabSilence]

/-- A REF that ends HOLD returns slot 0's condition (R13). -/
theorem linkTakesRef_slot_zero {s : State} (h : s.link.cabState = .hold) (c : Nat) :
    (slotOf (linkTakesRef c s) 0).condition = false := by
  unfold linkTakesRef
  rw [if_pos h]
  exact evaluate_false_condition (by decide)

theorem walkTakesRef_undesired (p : RefPayload) (s : State) :
    (walkTakesRef p s).line.records.map undesired = s.line.records.map undesired := by
  rw [walkTakesRef, State.withWalk_line]
  rcases refDecision_cases p s with he | ⟨-, he⟩ | ⟨x, y, he, -⟩ <;> simp [he]

/-- What the first four stages of R5 leave of the state. -/
@[simp] theorem refForwarded_frame (p : RefPayload) (s : State) :
    (refForwarded p s).link.cabState = .normal
      ∧ (refForwarded p s).link.silenceTimer = some (silenceLength (plantOf s).silenceSelection)
      ∧ (refForwarded p s).link.holdTimer = none ∧ (refForwarded p s).link.lastCycle = some p.cycle
      ∧ (refForwarded p s).link.lastOriginHold = false
      ∧ (refForwarded p s).link.cabPort = s.link.cabPort
      ∧ (refForwarded p s).link.drives = s.link.drives ∧ (refForwarded p s).link.held = s.link.held
      ∧ (refForwarded p s).power = s.power ∧ (refForwarded p s).position = s.position
      ∧ (refForwarded p s).swing = s.swing ∧ (refForwarded p s).mgmt = s.mgmt
      ∧ (refForwarded p s).store = s.store ∧ (refForwarded p s).tables = s.tables
      ∧ (refForwarded p s).walk.usable = s.walk.usable ∧ (refForwarded p s).walk.cam = s.walk.cam
      ∧ (refForwarded p s).walk.stepCount = s.walk.stepCount
      ∧ (refForwarded p s).walk.delivered = s.walk.delivered
      ∧ (refForwarded p s).alarm.slots = (linkTakesRef p.cycle s).alarm.slots
      ∧ (refForwarded p s).alarm.notices = s.alarm.notices
      ∧ (refForwarded p s).alarm.time = s.alarm.time ∧ (refForwarded p s).alarm.bound = s.alarm.bound
      ∧ (refForwarded p s).alarm.firstOut = s.alarm.firstOut := by
  have horigin : (refForwarded p s).link.lastOriginHold = false := rfl
  refine ⟨?_, ?_, ?_, ?_, horigin, ?_⟩ <;>
    simp [refForwarded, refDecided, linkTakesRef_link, linkTakesRef_alarm]

theorem waitingNotice_congr {s t : State} (h : t.link.cabPort = s.link.cabPort) :
    waitingNotice t = waitingNotice s := by
  unfold waitingNotice waitingReport
  rw [h]

theorem takeRef_line (p : RefPayload) (s : State) :
    (takeRef p s).line = { s.line with records := (takeRef p s).line.records } := by
  apply StationLine.eq_of_records <;> simp [takeRef_eq, refForwarded, refDecided]

theorem takeRef_undesired (p : RefPayload) (s : State) :
    (takeRef p s).line.records.map undesired = s.line.records.map undesired := by
  simp [takeRef_eq, refForwarded, refDecided, walkTakesRef_undesired, linkTakesRef_alarm]

/-- Settles O10. -/
theorem refTakenByTheLink : Obligations.RefTakenByTheLink := by
  unfold Obligations.RefTakenByTheLink
  intro f s hp hc carried
  have hcar : carried = waitingNotice s := rfl
  clear_value carried
  subst hcar
  set p := readRef f with hpf
  set u := refForwarded p s with hu
  have hnotice : waitingNotice u = waitingNotice s := waitingNotice_congr (by simp [hu])
  have hqueue : u.alarm.notices = s.alarm.notices := by simp [hu]
  have ht : takeRef p s = sendReport p.cycle s.link.lastOriginHold u := rfl
  have hcycle : p.cycle = u8At (framePayload f) 1 := rfl
  refine ⟨takeRef p s, exec_refTaken hp hc, fun hports => ⟨_, reportPayload_length (takeRef p s) p.cycle
    s.link.lastOriginHold (waitingNotice s <|> s.alarm.notices.head?), ?newest, ?payload⟩,
    ?notices, ?_, ?_, ?_, ?_, ?_, ?slot, ?_, ?_, ?_, ?_, ?_, ?_, ?_, ?_, ?_, ?_, ?_, ?_,
    takeRef_line p s, takeRef_undesired p s, ?_⟩
  case newest =>
    obtain ⟨-, hcab, -, -⟩ := (portsInv_iff s).1 hports
    rw [ht, sendReport_newest (by simp [hu, hp]) (by simpa [hu] using hcab),
      hnotice, hqueue]
  case payload =>
    have hb : BitVec.ofNat 8 p.cycle = byteAt (framePayload f) 1 := by simp [hcycle, u8At]
    have hpay := reportPayload_eq (takeRef p s) p.cycle s.link.lastOriginHold
      (waitingNotice s <|> s.alarm.notices.head?)
    rw [noticeBytes_eq, hb] at hpay
    exact hpay
  case notices =>
    rw [ht, sendReport_notices, hnotice, hqueue]
  case slot =>
    intro hh
    rw [slotOf_congr (s := linkTakesRef p.cycle s) (by simp [ht, hu]),
      linkTakesRef_slot_zero hh]
  all_goals simp [ht, hu, hcycle]

end Sys2Proof.Machine
end

section
/-! SUPPORT. The REF that a REF from the cab is forwarded as (R6, R45, R47, R48, R102, R104). -/

namespace Sys2Proof.Machine

/-! ### The references (R45, R47) -/

theorem clampSigned_eq (r : Int) : clampSigned r = max (-1000) (min 1000 r) := by
  unfold clampSigned
  (repeat' split) <;> omega

theorem clampPropel_eq (r : Int) : clampPropel r = max 0 (min 1000 r) := by
  unfold clampPropel
  (repeat' split) <;> omega

/-! ### The gates at the start of shaping (R102, R104) -/

theorem closeGates_swing_get (m : Motion) (s : State) :
    (closeGates swingMotion s).shaper.gates.get m = .passing
      ↔ s.shaper.gates.get m = .passing ∧ m ≠ .swing := by
  cases m <;> simp [closeGates, swingMotion, PerMotion.get, noMotions]

/-- A decision closes a gate only as it leaves STEPPING for WALK_IDLE, and then the SWING gate alone. -/
theorem refDecision_gate (p : RefPayload) (s : State) (m : Motion) :
    (refDecision p s).1.shaper.gates.get m = .passing ↔ s.shaper.gates.get m = .passing
      ∧ ¬ (m = .swing ∧ s.walk.state = .stepping ∧ (refDecision p s).1.walk.state = .walkIdle) := by
  rcases refDecision_cases p s with he | ⟨hs, he⟩ | ⟨x, y, he, -, hx, -⟩
  · have hstays : s.walk.state = .stepping → s.walk.state ≠ .walkIdle := by simp +contextual
    rw [he]
    tauto
  · rw [he, closeGates_swing_get]
    simp [hs, enterState_walk]
  · rw [he]
    simp only [enterState_frame, enterState_walk]
    tauto

theorem refDecided_gate (p : RefPayload) (s : State) (m : Motion) :
    (refDecided p s).shaper.gates.get m = .passing ↔ s.shaper.gates.get m = .passing
      ∧ ¬ (m = .swing ∧ s.walk.state = .stepping ∧ (refDecided p s).walk.state = .walkIdle) := by
  have hshaper : (linkTakesRef p.cycle s).shaper = s.shaper := by
    unfold linkTakesRef
    split <;> simp [evaluate_false_shaper]
  have := refDecision_gate p (linkTakesRef p.cycle s) m
  rw [hshaper, (linkTakesRef_frame _ _).2.2.2.1] at this
  exact this

/-! ### Brake releases (R48) -/

theorem brakeReleases_get (s : State) (requested : PerMotion Bool) (m : Motion) :
    (brakeReleases s requested).get m = true ↔ requested.get m = true
      ∧ s.shaper.gates.get m = .passing ∧ listedNaming s .stop m = []
      ∧ classListed s .trip = false ∧ walkPermits s m = true := by
  have : (brakeReleases s requested).get m = brakeRelease s requested m := by cases m <;> rfl
  simp [this, brakeRelease, and_assoc]

theorem listedNaming_congr {s t : State} (hl : t.alarm.list = s.alarm.list) (ht : t.tables = s.tables) :
    listedNaming t = listedNaming s := by
  funext c m
  simp [listedNaming, attrsOf, definitionsOf, hl, ht]

theorem classListed_congr {s t : State} (hl : t.alarm.list = s.alarm.list) (ht : t.tables = s.tables) :
    classListed t = classListed s := by
  funext c
  simp [classListed, classOf, attrsOf, definitionsOf, hl, ht]

theorem walkPermits_congr {s t : State} (h : t.walk = s.walk) : walkPermits t = walkPermits s := by
  funext m
  cases m <;> simp [walkPermits, h]

/-! ### The forwarded REF (R6) -/

/-- What the stages after shaping began leave of what shaping read and formed. -/
theorem takeRef_shaped (p : RefPayload) (s : State) :
    (takeRef p s).shaper = (shaperTakesRef p (refDecided p s)).shaper
      ∧ (takeRef p s).walk = (refDecided p s).walk
      ∧ (takeRef p s).alarm.list = (refDecided p s).alarm.list
      ∧ (takeRef p s).tables = (refDecided p s).tables := by
  simp [takeRef_eq, refForwarded]

/-- The forwarded REF joins the drive port last. -/
theorem takeRef_newest {s : State} (hp : s.power = .on) (h : DrivePortFits s.link.drivePort)
    (p : RefPayload) : (takeRef p s).link.drivePort.newest
      = some (forwardedRef p (shape p (refDecided p s))) := by
  have hport : (takeRef p s).link.drivePort
      = offerTo 4 (forwardedRef p (shape p (refDecided p s))) s.link.drivePort := by
    simp only [takeRef_eq, sendReport_frame, refForwarded, forward, State.withLink_link]
    rw [offerDrive_drivePort]
    simp [refDecided, hp]
  rw [hport, offerTo_newest_drive h rfl]

/-- The bytes of the forwarded REF: mode and cycle are those of the cab's frame (R3, R6, 10.2). -/
theorem forwardedRef_eq {f : List Byte} (h : classifyCab f = .ref) (x : Shaped) :
    forwardedRef (readRef f) x =
      { kind := .ref
        bytes := buildFrame 0x11 0x7F 0x7E
          ([byteAt (framePayload f) 0, byteAt (framePayload f) 1]
            ++ i16 x.refs.hoist ++ i16 x.refs.drag ++ i16 x.refs.swing ++ i16 x.refs.propel
            ++ fourFlags x.brakes.hoist x.brakes.drag x.brakes.swing x.brakes.propel ++ [0]) } := by
  have hacc : accepted f = true := by
    by_contra ha
    simp [classifyCab, eq_false_of_ne_true ha] at h
  obtain ⟨-, -, -, -, hmode⟩ := (classifyCab_eq_ref hacc).1 h
  have h0 : u8 (readRef f).walkMode.toNat = [byteAt (framePayload f) 0] := by
    have hb : (readRef f).walkMode.toNat = u8At (framePayload f) 0 := by
      unfold readRef
      dsimp only
      interval_cases u8At (framePayload f) 0 <;> rfl
    rw [hb]
    simp [u8, u8At]
  have h1 : u8 (readRef f).cycle = [byteAt (framePayload f) 1] := by simp [readRef, u8, u8At]
  rw [forwardedRef, refPayload, h0, h1]
  rfl

/-- Settles O11. -/
theorem forwardedFrameIsShaped : Obligations.ForwardedFrameIsShaped := by
  unfold Obligations.ForwardedFrameIsShaped
  intro f s hp hports hc p band gateOpen signed formed
  obtain ⟨hdrive, -, -, -⟩ := (portsInv_iff s).1 hports
  set s2 := refDecided p s with hs2
  obtain ⟨hshaper, hwalk, hlist, htables⟩ := takeRef_shaped p s
  rw [← hs2] at hshaper hwalk hlist htables
  have hband : (plantOf s2).neutralBand = band := by
    rw [plantOf_congr (s := s) (by simp [hs2, refDecided])]
  have hsigned : ∀ r, signed r = clampSigned r := fun r => (clampSigned_eq r).symm
  refine ⟨takeRef p s, (shape p s2).brakes, exec_refTaken hp hc, ?newest, ?_, ?_, ?_, ?_, fun m => ?brake⟩
  case newest =>
    rw [takeRef_newest hp hdrive, forwardedRef_eq hc, hshaper]
    rfl
  case brake =>
    rw [listedNaming_congr hlist htables, classListed_congr hlist htables, walkPermits_congr hwalk]
    have hgate := refDecided_gate p s m
    rw [← hs2, ← hwalk] at hgate
    exact (brakeReleases_get s2 p.brakes m).trans
      (and_congr_right fun _ => and_congr_left fun _ => hgate)
  all_goals
    rw [hshaper]
    simp only [formed, ← hband, hsigned, ← clampPropel_eq]
    rfl

end Sys2Proof.Machine
end

section
/-! SUPPORT. The working limits of the drums stay within the native limits of the active GEOMETRY table
(R24, R35, R36, R40, R43). -/

namespace Sys2Proof.Machine

/-! ### Native limits, and what lies within them -/

/-- Both drums' pairs of a set of limits lie within native limits (R35). -/
def WithinNative (native w : Limits) : Prop :=
  PairWithin native.hoistMin w.hoistMin w.hoistMax native.hoistMax
    ∧ PairWithin native.dragMin w.dragMin w.dragMax native.dragMax

/-- R35 by its two cases: no table and no working limits, or both, the one within the other. -/
def LimitsFit (s : State) : Prop :=
  (geometryOf s = none ∧ s.position.working = none)
    ∨ ∃ g w, geometryOf s = some g ∧ s.position.working = some w ∧ WithinNative g.native w

theorem limitsInv_iff (s : State) : LimitsInv s ↔ LimitsFit s := by
  unfold LimitsInv LimitsFit WithinNative
  cases geometryOf s <;> cases s.position.working <;> simp

theorem geometryOf_congr {s t : State} (h : t.tables.active.geometry = s.tables.active.geometry) :
    geometryOf t = geometryOf s := by
  simp [geometryOf, h]

theorem LimitsFit.congr {s t : State} (h : LimitsFit s)
    (ht : t.tables.active.geometry = s.tables.active.geometry)
    (hw : t.position.working = s.position.working) : LimitsFit t := by
  unfold LimitsFit
  rw [geometryOf_congr ht, hw]
  exact h

/-- An operation that reaches neither the tables nor the working limits keeps R35. -/
theorem LimitsFit.of_same {s t : State} (h : LimitsFit s) (ht : t.tables = s.tables)
    (hw : t.position.working = s.position.working) : LimitsFit t :=
  h.congr (by rw [ht]) hw

/-- Limits settled against the active table, if there is one, lie within its native limits. -/
theorem limitsFit_of_settled {s : State} (f : GeometryHeader → Limits)
    (hw : s.position.working = (geometryOf s).map f)
    (hf : ∀ g, geometryOf s = some g → WithinNative g.native (f g)) : LimitsFit s := by
  unfold LimitsFit
  rw [hw]
  rcases hg : geometryOf s with _ | g
  · exact .inl ⟨rfl, rfl⟩
  · exact .inr ⟨g, f g, rfl, rfl, hf g hg⟩

/-- Native limits whose min is below their max, as R24 asks of every image. -/
def NativeOrdered (n : Limits) : Prop := n.hoistMin < n.hoistMax ∧ n.dragMin < n.dragMax

theorem NativeOrdered.within {n : Limits} (h : NativeOrdered n) : WithinNative n n :=
  ⟨⟨le_rfl, h.1, le_rfl⟩, le_rfl, h.2, le_rfl⟩

/-- The header checks of R24 see to the order of the native limits. -/
theorem nativeOrdered_of_valid {image : Image} (h : imageValid .geometry image = true) :
    NativeOrdered (readGeometry image).native := by
  have hfirst : firstFailure (geometryHeaderChecks image) = none := by
    simp only [imageValid, validateContent, validateGeometry, Bool.and_eq_true] at h
    rcases hf : firstFailure (geometryHeaderChecks image) with _ | pos
    · rfl
    · simp [hf] at h
  have hall : ∀ c ∈ geometryHeaderChecks image, c.2 = true := by
    simpa [firstFailure] using hfirst
  simp only [geometryHeaderChecks, List.forall_mem_cons] at hall
  obtain ⟨-, -, -, hhoist, -, hdrag, -⟩ := hall
  simp only [Bool.and_eq_true, decide_eq_true_eq] at hhoist hdrag
  exact ⟨hhoist.2, hdrag.2⟩

/-! ### Clamping (R36) -/

theorem clampBound_within {lo hi : Nat} (h : lo < hi) (n : Nat) :
    lo ≤ clampBound lo hi n ∧ clampBound lo hi n ≤ hi := by
  unfold clampBound
  (repeat' split) <;> omega

theorem clampPair_within {lo hi : Nat} (h : lo < hi) (a b : Nat) :
    PairWithin lo (clampPair lo hi a b).1 (clampPair lo hi a b).2 hi := by
  have ha := clampBound_within h a
  have hb := clampBound_within h b
  unfold clampPair
  split
  · exact ⟨ha.1, ‹_›, hb.2⟩
  · exact ⟨le_rfl, h, le_rfl⟩

theorem clampLimits_within {n : Limits} (h : NativeOrdered n) (w : Limits) :
    WithinNative n (clampLimits n w) :=
  ⟨clampPair_within h.1 _ _, clampPair_within h.2 _ _⟩

theorem limitsFromStore_within {n : Limits} (h : NativeOrdered n) (s : State) :
    WithinNative n (limitsFromStore s n) := by
  unfold limitsFromStore
  split
  · exact clampLimits_within h _
  · exact h.within

/-! ### LIMITS SET (R40, R41) -/

theorem limitsInRange_iff (native l : Limits) : limitsInRange native l = true ↔ WithinNative native l := by
  simp only [limitsInRange, within, Bool.and_eq_true, decide_eq_true_eq, WithinNative, PairWithin]
  omega

@[simp] theorem acceptLimits_position (l : Limits) (retain : Bool) (s : State) :
    (acceptLimits l retain s).position = { s.position with working := some l } := by
  unfold acceptLimits
  dsimp only
  split <;> simp

/-- A LIMITS SET changes nothing, or is accepted with limits within the native ones (R40, R41). -/
theorem limitsSet_cases (p : List Byte) (s : State) : (limitsSet p s).1 = s
    ∨ ∃ g, geometryOf s = some g ∧ WithinNative g.native (limitsOf p)
      ∧ (limitsSet p s).1 = acceptLimits (limitsOf p) (u8At p 8 == 1) s := by
  unfold limitsSet
  dsimp only
  (repeat' split)
  · exact .inl rfl
  · exact .inl rfl
  · exact .inl rfl
  · exact .inl rfl
  · exact .inl rfl
  · exact .inl rfl
  · rename_i g hg hr _ _
    exact .inr ⟨g, hg, (limitsInRange_iff _ _).1 (by simpa using hr), rfl⟩

theorem LimitsFit.limitsSet {s : State} (h : LimitsFit s) (p : List Byte) :
    LimitsFit (limitsSet p s).1 := by
  rcases limitsSet_cases p s with he | ⟨g, hg, hin, he⟩
  · rw [he]
    exact h
  · rw [he]
    refine .inr ⟨g, limitsOf p, ?_, by simp, hin⟩
    rw [geometryOf_congr (s := s) (by simp), hg]

/-! ### TABLE COMMIT (R43, R182) -/

/-- A commit of another kind reaches neither the GEOMETRY table nor the position unit. -/
theorem commitTable_position {k : Kind} (hk : k ≠ .geometry) (image : Image) (s : State) :
    (commitTable k image s).tables.active.geometry = s.tables.active.geometry
      ∧ (commitTable k image s).position = s.position := by
  cases k
  case geometry => exact absurd rfl hk
  all_goals simp [commitTable, commitEffects, commitSwing, commitAlarm, commitStation, activate, PerKind.set]

/-- A GEOMETRY commit settles the working limits against the native limits of the new table (R43). -/
theorem commitTable_geometry_working (image : Image) (s : State) :
    geometryOf (commitTable .geometry image s) = some (readGeometry image)
      ∧ (commitTable .geometry image s).position.working = commitLimits (activate .geometry image s) := by
  simp [commitTable, commitEffects, geometryCommit, geometryOf, activate, PerKind.set]

theorem commitLimits_within {s : State} {g : GeometryHeader} (hg : geometryOf s = some g)
    (h : NativeOrdered g.native) : ∃ w, commitLimits s = some w ∧ WithinNative g.native w := by
  simp only [commitLimits, hg, Option.map_some]
  refine ⟨_, rfl, ?_⟩
  split
  · exact clampLimits_within h _
  · exact limitsFromStore_within h s

theorem LimitsFit.commitTable {s : State} (h : LimitsFit s) {k : Kind} {image : Image}
    (hi : imageValid k image = true) : LimitsFit (commitTable k image s) := by
  by_cases hk : k = .geometry
  · subst hk
    obtain ⟨hg, hw⟩ := commitTable_geometry_working image s
    obtain ⟨w, hc, hin⟩ := commitLimits_within (s := activate .geometry image s) rfl
      (nativeOrdered_of_valid hi)
    exact .inr ⟨_, w, hg, hw.trans hc, hin⟩
  · obtain ⟨ht, hp⟩ := commitTable_position hk image s
    exact h.congr ht (by rw [hp])

/-- What is staged for a commit has passed its validation (R181, R182). -/
theorem stagedFor_valid {s : State} (hi : ImagesInv s) {code : Nat} {k : Kind} {image : Image}
    (h : stagedFor code s = some (k, image)) : imageValid k image = true := by
  have hbuf := hi.2
  unfold stagedFor at h
  split at h
  · rename_i k' image' hbuffer
    rw [hbuffer] at hbuf
    obtain ⟨-, hsame⟩ := Option.ite_none_right_eq_some.1 h
    cases hsame
    exact hbuf
  · cases h
  · cases h

theorem LimitsFit.tableCommit {s : State} (h : LimitsFit s) (hi : ImagesInv s) (tag : Byte)
    (p : List Byte) : LimitsFit (tableCommit tag p s).1 := by
  unfold Machine.tableCommit
  split
  · exact h
  split
  · exact h
  rename_i k image hst
  have hcommit := h.commitTable (stagedFor_valid hi hst)
  (repeat' split)
  · exact h
  · exact h
  · exact hcommit.of_same rfl rfl
  · exact hcommit

/-! ### Requests -/

/-- The owner of a request keeps R35. -/
theorem LimitsFit.run {c : Instr} {q : Nat × Rules × List Byte} (hq : requestOf c = some q)
    {s : State} (hi : ImagesInv s) (h : LimitsFit s) (tag : Byte) (p : List Byte) :
    LimitsFit (q.2.1.run tag p s).1 := by
  cases c
  all_goals cases hq
  case tableCommit => exact h.tableCommit hi tag p
  case limitsSet => exact h.limitsSet p
  all_goals refine h.of_same ?_ ?_
  all_goals
    simp [identifyRules, tableStateRules, tableReadRules, tableBeginRules, tableBlockRules,
      tableEndRules, limitsReadRules, stationStatusRules, stationOutputRules,
      stationEnrollRules, alarmListReadRules, alarmAcknowledgeRules, alarmReAnnounceRules,
      firstOutReadRules, firstOutClearRules, logReadRules, keySetRules, keyUnlockRules,
      keyClearRules, guardRules, freezeRules, restartRules, undefinedRules, readAnswer, refuse]

theorem LimitsFit.takeRequest {c : Instr} {q : Nat × Rules × List Byte} (hq : requestOf c = some q)
    {s : State} (hi : ImagesInv s) (h : LimitsFit s) :
    LimitsFit (takeRequest q.1 q.2.1 q.2.2 s) := by
  have hown : LimitsFit (checkRequest q.2.1 q.2.2 s).1 := by
    unfold checkRequest
    (repeat' split)
    · exact h
    · exact h
    · exact LimitsFit.run hq hi h _ _
  unfold Machine.takeRequest answerRequest
  (repeat' split)
  · exact hown.of_same (by simp) (by simp)
  · exact hown.of_same (by simp) (by simp)
  · exact h

/-! ### Deliveries of a STAT -/

theorem afterAttempt_working (limit : Nat) (r : Option Resolved) (p : PositionUnit) :
    (afterAttempt limit r p).working = p.working := by
  cases r <;> rfl

@[simp] theorem makeAttempt_working (s : State) :
    (makeAttempt s).position.working = s.position.working := by
  unfold makeAttempt
  split
  · rfl
  · simp [afterAttempt_working]

@[simp] theorem deliverTo_working (m : Motion) (p : StatPayload) (s : State) :
    (deliverTo m p s).position.working = s.position.working := by
  cases m <;> simp [deliverTo, deliverPayout]

/-- The link's part of a STAT reaches neither the position unit nor the swing unit. -/
@[simp] theorem statBegun_units (m : Motion) (p : StatPayload) (s : State) :
    (statBegun m p s).position = s.position ∧ (statBegun m p s).swing = s.swing
      ∧ (statBegun m p s).alarm.lastPosition = s.alarm.lastPosition := by
  unfold statBegun
  split <;> simp

theorem takeStat_working (m : Motion) (f : List Byte) (s : State) :
    (takeStat m f s).position.working = s.position.working := by
  simp [takeStat_eq]

/-! ### Starts -/

theorem limitsFit_restartEffect {s : State} (h : LimitsFit s) : LimitsFit (restartEffect s) :=
  h.of_same (by simp [restartEffect_eq])
    (by simp [restartEffect_eq, restartedBlocks, restartPosition])

theorem validateStore_geometry (st : RetainedStore) :
    (validateStore st).images.geometry = validImage st .geometry := rfl

/-- A power-on start settles the working limits against the image it finds valid (R36, R189). -/
theorem limitsFit_powerOn (found : List FoundItem) (s : State) : LimitsFit (powerOn found s) := by
  set store := presentedStore s.store found with hstore
  have hgeo : (powerOn found s).tables.active.geometry = store.images.geometry := by
    simp [powerOn_eq, startedBlocks, settleStart, hstore]
  have hvalid : ∀ image, store.images.geometry = some image →
      imageValid .geometry image = true := fun image himage => by
    rw [hstore, presentedStore, validateStore_geometry, validImage] at himage
    exact (Option.filter_eq_some_iff.1 himage).2
  refine limitsFit_of_settled (fun g => limitsFromStore (State.dark store s.pending) g.native) ?_ ?_
  · simp [powerOn_eq, startedBlocks, settleStart, startLimits, geometryOf, ← hstore]
    rfl
  · intro g hg
    obtain ⟨image, himage, rfl⟩ := Option.map_eq_some_iff.1 hg
    exact limitsFromStore_within (nativeOrdered_of_valid (hvalid image (hgeo.symm.trans himage))) _

/-! ### Every command -/

theorem limitsFit_exec {c : Instr} {s t : State} (hi : ImagesInv s) (h : LimitsFit s)
    (he : exec c s = .next t) : LimitsFit t := by
  rcases hq : requestOf c with _ | q
  case some =>
    rcases exec_requestOf hq he with rfl | rfl
    · exact h.takeRequest hq hi
    · exact h
  cases c with
  | frameDiscarded port f | mreqDiscarded f => cases he; exact h
  | statTaken f =>
    refine keeps_of_guard h (fun _ => ?_) he
    split
    · exact h.of_same (by simp [takeStat_eq]) (takeStat_working _ _ _)
    · exact h
    · exact h
  | restartTakesEffect => exact keeps_of_guard h (fun _ => limitsFit_restartEffect h) he
  | powerOnStart found => cases he; exact limitsFit_powerOn found s
  | briefSupplyDipStart =>
    exact keeps_of_guard h (fun _ => h.of_same (by simp [dipStart]) (by simp [dipStart])) he
  | briefSupplyDipEnd =>
    have hon : LimitsFit (s.withPower .on) := h.of_same rfl rfl
    refine keeps_of_guard h (fun _ => ?_) he
    unfold dipEnd
    dsimp only
    split
    · exact limitsFit_restartEffect hon
    · exact hon
  | supplyLoss => cases he; exact .inl ⟨rfl, rfl⟩
  | refTakenFromCab f =>
    exact keeps_of_guard h (fun _ => h.of_same (by simp [takeRef]) (by simp [takeRef])) he
  | passTraffic | transmissionCompletion | deferredConfirmationOffered | cabSilenceTimerExpiry
  | holdTimerExpiry | driveSilenceTimerExpiry | transferTimerExpiry | scanTimerExpiry
  | deferredRoundStart | enrollmentSweepStart | writeOutputs | writeCondition | readClearing
  | seekIfPass | seekPass | roundCompletion | delayTimerExpiry | timeCounterTick
  | retainedWriteCompletion => exact keeps_of_guard h (fun _ => h.of_same (by simp) (by simp)) he
  | _ => simp [requestOf] at hq

/-- Settles O21: a LIMITS SET is checked against the native limits, a GEOMETRY commit and a power-on start
clamp into them, and no other command reaches either side. -/
theorem limitsInvKept : Obligations.LimitsInvKept := fun _ s t hi h he =>
  (limitsInv_iff t).2 (limitsFit_exec hi ((limitsInv_iff s).1 h) he)

end Sys2Proof.Machine
end

section
/-! SUPPORT. The interpolation of R30 and the attempt of R27 to R31. -/

namespace Sys2Proof.Machine

/-! ### The weighted mean (R30) -/

/-- The sum of the corner values, each weighted with the area opposite it (R30). -/
def weightedSum (sh sd fh fd : Nat) (v00 v10 v01 v11 : Int) : Int :=
  ((sh : Int) - fh) * ((sd : Int) - fd) * v00 + fh * ((sd : Int) - fd) * v10
    + ((sh : Int) - fh) * fd * v01 + (fh : Int) * fd * v11

/-- v is the quotient rounded to the nearest, an exact half toward plus infinity (R30). -/
def IsNearest (sum area v : Int) : Prop := (2 * v - 1) * area ≤ 2 * sum ∧ 2 * sum < (2 * v + 1) * area

theorem interpolate_eq {sh sd fh fd : Nat} (hh : fh ≤ sh) (hd : fd ≤ sd) (v00 v10 v01 v11 : Int) :
    interpolate sh sd fh fd v00 v10 v01 v11
      = (weightedSum sh sd fh fd v00 v10 v01 v11 + (sh : Int) * sd / 2) / ((sh : Int) * sd) := by
  simp only [interpolate, weightedSum, Nat.cast_mul, Nat.cast_sub hh, Nat.cast_sub hd]
  congr 2
  ring

/-- Half the area, rounded down, and then floor division: the nearest, whatever the area's parity. -/
theorem isNearest_iff {sum area v : Int} (ha : 0 < area) :
    IsNearest sum area v ↔ v = (sum + area / 2) / area := by
  have hparity : 2 * (area / 2) = area ∨ 2 * (area / 2) = area - 1 := by omega
  rw [eq_comm, Int.ediv_eq_iff_of_pos ha, IsNearest]
  have hlow : (2 * v - 1) * area = 2 * (v * area) - area := by ring
  have hhigh : (2 * v + 1) * area = 2 * (v * area) + area := by ring
  rw [hlow, hhigh]
  generalize v * area = x
  omega

theorem interpolate_isNearest {sh sd fh fd : Nat} (hh : fh ≤ sh) (hd : fd ≤ sd) (hsh : 0 < sh)
    (hsd : 0 < sd) (v00 v10 v01 v11 v : Int) :
    v = interpolate sh sd fh fd v00 v10 v01 v11
      ↔ IsNearest (weightedSum sh sd fh fd v00 v10 v01 v11) ((sh : Int) * sd) v := by
  rw [interpolate_eq hh hd, isNearest_iff (by positivity)]

/-- The weights are not negative and sum to the area: a lower bound of the corners bounds the sum. -/
theorem weightedSum_ge {sh sd fh fd : Nat} (hh : fh ≤ sh) (hd : fd ≤ sd) {v00 v10 v01 v11 lo : Int}
    (h00 : lo ≤ v00) (h10 : lo ≤ v10) (h01 : lo ≤ v01) (h11 : lo ≤ v11) :
    lo * ((sh : Int) * sd) ≤ weightedSum sh sd fh fd v00 v10 v01 v11 := by
  have hx : (0 : Int) ≤ (sh : Int) - fh := by omega
  have hy : (0 : Int) ≤ (sd : Int) - fd := by omega
  calc lo * ((sh : Int) * sd) = weightedSum sh sd fh fd lo lo lo lo := by unfold weightedSum; ring
    _ ≤ weightedSum sh sd fh fd v00 v10 v01 v11 := by unfold weightedSum; gcongr

theorem weightedSum_neg (sh sd fh fd : Nat) (v00 v10 v01 v11 : Int) :
    weightedSum sh sd fh fd (-v00) (-v10) (-v01) (-v11) = -weightedSum sh sd fh fd v00 v10 v01 v11 := by
  unfold weightedSum
  ring

theorem weightedSum_le {sh sd fh fd : Nat} (hh : fh ≤ sh) (hd : fd ≤ sd) {v00 v10 v01 v11 hi : Int}
    (h00 : v00 ≤ hi) (h10 : v10 ≤ hi) (h01 : v01 ≤ hi) (h11 : v11 ≤ hi) :
    weightedSum sh sd fh fd v00 v10 v01 v11 ≤ hi * ((sh : Int) * sd) := by
  have := weightedSum_ge hh hd (neg_le_neg h00) (neg_le_neg h10) (neg_le_neg h01) (neg_le_neg h11)
  rw [weightedSum_neg] at this
  linarith

/-- The nearest to a quotient between two integers lies between them. -/
theorem IsNearest.between {sum area v lo hi : Int} (h : IsNearest sum area v) (ha : 0 < area)
    (hlo : lo * area ≤ sum) (hhi : sum ≤ hi * area) : lo ≤ v ∧ v ≤ hi := by
  obtain ⟨h1, h2⟩ := h
  constructor
  · have : 2 * lo < 2 * v + 1 := lt_of_mul_lt_mul_right (by linarith) ha.le
    omega
  · have : 2 * v - 1 ≤ 2 * hi := le_of_mul_le_mul_right (by linarith) ha
    omega

/-- Settles O18: the model rounds to the nearest, and the weighted sum lies between the corners times the
area. -/
theorem interpolationIsNearest : Obligations.InterpolationIsNearest := by
  unfold Obligations.InterpolationIsNearest
  intro sh sd fh fd v00 v10 v01 v11 lo hi hsh hsd _ hh hd l00 l10 l01 l11 u00 u10 u01 u11 v sum
  have hnear : IsNearest sum ((sh : Int) * sd) v :=
    (interpolate_isNearest hh hd hsh hsd v00 v10 v01 v11 v).1 rfl
  obtain ⟨hlo, hhi⟩ := hnear.between (by positivity) (weightedSum_ge hh hd l00 l10 l01 l11)
    (weightedSum_le hh hd u00 u10 u01 u11)
  exact ⟨hlo, hhi, hnear⟩

/-! ### The cell of a payout (R29) -/

theorem axisCell_eq (p spacing : Nat) : axisCell p spacing
    = (min 62 (p / spacing), if 63 ≤ p / spacing then spacing else p % spacing,
        decide (63 ≤ p / spacing)) := by
  unfold axisCell
  split
  · simp_all
    omega
  · simp_all
    omega

theorem axisFraction_le (p : Nat) {spacing : Nat} (h : 0 < spacing) :
    (if 63 ≤ p / spacing then spacing else p % spacing) ≤ spacing := by
  split
  · exact le_rfl
  · exact (Nat.mod_lt p h).le

/-! ### An attempt (R27, R28, R31) -/

theorem usablePayout_eq_some (s : State) (m : Motion) (p : Nat) : usablePayout s m = some p ↔
    payoutRecord s m = { payout := some p, valid := true } ∧ p ≠ 65535
      ∧ (s.link.drives.get m).freshness = .fresh := by
  rcases hr : payoutRecord s m with ⟨payout, valid⟩
  unfold usablePayout isFresh
  rw [hr]
  cases payout with
  | none => simp
  | some q =>
    simp only [Option.ite_none_right_eq_some, Bool.and_eq_true, beq_iff_eq, bne_iff_ne,
      PayoutRecord.mk.injEq, Option.some.injEq]
    constructor
    · rintro ⟨⟨⟨hf, hv⟩, hn⟩, rfl⟩
      exact ⟨⟨rfl, hv⟩, hn, hf⟩
    · rintro ⟨⟨rfl, hv⟩, hn, hf⟩
      exact ⟨⟨⟨hf, hv⟩, hn⟩, rfl⟩

theorem attempt_eq_some (s : State) (image : Image) (r : Resolved) : attempt s image = some r ↔
    ∃ ph pd, usablePayout s .hoist = some ph ∧ usablePayout s .drag = some pd
      ∧ resolveAt image ph pd = some r := by
  unfold attempt
  cases usablePayout s .hoist <;> cases usablePayout s .drag <;> simp

theorem resolveAt_eq_some (image : Image) (ph pd : Nat) (r : Resolved) :
    resolveAt image ph pd = some r ↔
      let sh := 2 ^ u8At image 0
      let sd := 2 ^ u8At image 1
      let i := min 62 (ph / sh)
      let j := min 62 (pd / sd)
      let fh := if 63 ≤ ph / sh then sh else ph % sh
      let fd := if 63 ≤ pd / sd then sd else pd % sd
      let value (f : Node → Int) := interpolate sh sd fh fd (f (nodeAt image i j))
        (f (nodeAt image (i + 1) j)) (f (nodeAt image i (j + 1))) (f (nodeAt image (i + 1) (j + 1)))
      (nodeAt image i j).feasible = true ∧ (nodeAt image (i + 1) j).feasible = true
        ∧ (nodeAt image i (j + 1)).feasible = true ∧ (nodeAt image (i + 1) (j + 1)).feasible = true
        ∧ r.reach = value (·.reach) ∧ r.height = value (·.height)
        ∧ r.zone = (nodeAt image i j).zone ∧ (r.edge = true ↔ 63 ≤ ph / sh ∨ 63 ≤ pd / sd) := by
  obtain ⟨reach, height, zone, edge⟩ := r
  extract_lets sh sd i j fh fd value
  have hedge (a b : Prop) [Decidable a] [Decidable b] :
      (decide a || decide b) = edge ↔ (edge = true ↔ a ∨ b) := by cases edge <;> simp
  unfold resolveAt
  dsimp only [readGeometry]
  rw [axisCell_eq, axisCell_eq]
  simp only [Option.ite_none_right_eq_some, Option.some.injEq, Resolved.mk.injEq, hedge,
    Bool.and_eq_true, and_assoc]
  simp only [eq_comm (b := reach), eq_comm (b := height), eq_comm (b := zone)]
  rfl

/-- Settles O20: usable payouts, a surveyed cell, and the nearest as the one value there is. -/
theorem resolvedOnlyWhereSurveyed : Obligations.ResolvedOnlyWhereSurveyed := by
  unfold Obligations.ResolvedOnlyWhereSurveyed
  intro s image r
  rw [attempt_eq_some]
  refine exists_congr fun ph => exists_congr fun pd => ?_
  extract_lets sh sd i j fh fd sum nearest
  have hsh : 0 < sh := Nat.two_pow_pos _
  have hsd : 0 < sd := Nat.two_pow_pos _
  have hnearest (v : Int) (value : Node → Int) : nearest v value ↔ v = interpolate sh sd fh fd
      (value (nodeAt image i j)) (value (nodeAt image (i + 1) j)) (value (nodeAt image i (j + 1)))
      (value (nodeAt image (i + 1) (j + 1))) :=
    (interpolate_isNearest (axisFraction_le ph hsh) (axisFraction_le pd hsd) hsh hsd ..).symm
  rw [hnearest, hnearest, usablePayout_eq_some, usablePayout_eq_some, resolveAt_eq_some]
  change (s.position.hoistPayout = _ ∧ _ ∧ s.link.drives.hoist.freshness = _)
    ∧ (s.position.dragPayout = _ ∧ _ ∧ s.link.drives.drag.freshness = _) ∧ _ ↔ _
  tauto

end Sys2Proof.Machine
end

section
/-! SUPPORT. LIMITS SET (R40 to R42): what its owner answers, and what a request answered at once
leaves (R38, R161, R162, R165). -/

namespace Sys2Proof.Machine

/-! ### The path of a request (R161, R163, R164) -/

/-- The check of R161: the ports are open. -/
theorem power_of_taken {code : Nat} {f : List Byte} {s : State} (h : taken code f s = true) :
    s.power = .on := by
  simp only [taken, portsOpen, Bool.and_eq_true, beq_iff_eq] at h
  exact h.1.1.1

theorem admits_changing {l : Lock} (h : l = .open ∨ l = .unlocked) : admits .changing l = true := by
  rcases h with rfl | rfl <;> rfl

/-- A LIMITS SET of its length in a lock state that admits it reaches its owner (R163, R164). -/
theorem exec_limitsSet {f : List Byte} {s : State} (ht : taken 0x09 f s = true)
    (hl : s.mgmt.lock = .open ∨ s.mgmt.lock = .unlocked) (hp : (requestParams f).length = 9) :
    exec (.limitsSet f) s
      = .next (answerRequest 0x09 (requestTag f) (limitsSet (requestParams f) s)) := by
  simp [exec, execLimitsSet, takeRequest, ht, checkRequest, limitsSetRules, fixed, hp, admits_changing hl]

/-- What a request answered at once leaves, the ports being open: the confirmation in the cab port, the
deferred-store byte 0, the sequence flag of R38. -/
theorem answerRequest_now {s : State} (hp : s.power = .on) (code : Nat) (tag : Byte) (o : ReqOutcome)
    (data : List Byte) : answerRequest code tag (s, .now o data)
      = answeredOnly s code tag o data (code == 0x08 && o == .accepted) := by
  simp [answerRequest, confirm, portsOpen, hp, offerCab, cabQueueCap, answeredOnly, confirmedLink,
    State.withLink, State.withMgmt]

@[simp] theorem answeredOnly_frame (s : State) (code : Nat) (tag : Byte) (o : ReqOutcome)
    (data : List Byte) (flag : Bool) :
    (answeredOnly s code tag o data flag).power = s.power
      ∧ (answeredOnly s code tag o data flag).link = confirmedLink s code tag o data
      ∧ (answeredOnly s code tag o data flag).position = s.position
      ∧ (answeredOnly s code tag o data flag).shaper = s.shaper
      ∧ (answeredOnly s code tag o data flag).swing = s.swing
      ∧ (answeredOnly s code tag o data flag).walk = s.walk
      ∧ (answeredOnly s code tag o data flag).line = s.line
      ∧ (answeredOnly s code tag o data flag).alarm = s.alarm
      ∧ (answeredOnly s code tag o data flag).mgmt = { s.mgmt with deferredStore := 0, seqFlag := flag }
      ∧ (answeredOnly s code tag o data flag).store = s.store
      ∧ (answeredOnly s code tag o data flag).tables = s.tables := by and_intros <;> rfl

/-! ### The refusals (R40, R195) -/

/-- Settles O23: each refusal of the owner leaves the state, and the answer is the refusal alone. -/
theorem limitsSetRefusedInOrder : Obligations.LimitsSetRefusedInOrder := by
  unfold Obligations.LimitsSetRefusedInOrder
  intro f s p retain refusal ht hl hp
  have hon := power_of_taken ht
  have hrefused (o : ReqOutcome) (h : limitsSet p s = refuseLimits o s) :
      exec (.limitsSet f) s = refusal o := by
    rw [exec_limitsSet ht hl hp, h, refuseLimits, answerRequest_now hon]
    rfl
  refine ⟨fun h1 => hrefused _ ?range, fun h1 hs => hrefused _ ?sequence,
    fun h1 hs hg => hrefused _ ?state, fun g h1 hs hg => ?_⟩
  case range => rw [limitsSet, if_pos h1]
  all_goals have hretain : ¬ 1 < u8At p 8 := by omega
  case sequence => simp [limitsSet, hretain, hs]
  case state => simp [limitsSet, hretain, hs, hg]
  intro inRange
  have hin : limitsInRange g.native (limitsOf p) = true ↔ inRange := limitsInRange_iff _ _
  refine ⟨fun hr => hrefused _ ?_, fun hr h1 ho => hrefused _ ?_, fun hr h1 ho hw => hrefused _ ?_⟩
  · have := mt hin.1 hr
    simp [limitsSet, hretain, hs, hg, this]
  · simp [limitsSet, hs, hg, hin.2 hr, show u8At p 8 = 1 from h1, ho]
  · simp [limitsSet, hs, hg, hin.2 hr, show u8At p 8 = 1 from h1, ho, writing, hw]

/-! ### An accepted LIMITS SET (R41, R42) -/

theorem u16_u16At (l : List Byte) (pos : Nat) : u16 (u16At l pos) = [byteAt l pos, byteAt l (pos + 1)] := by
  have h0 : (byteAt l pos).toNat < 256 := (byteAt l pos).isLt
  have h1 : (byteAt l (pos + 1)).toNat < 256 := (byteAt l (pos + 1)).isLt
  simp only [u16, u16At, u8At, List.cons.injEq, and_true]
  constructor <;> apply BitVec.eq_of_toNat_eq <;> rw [BitVec.toNat_ofNat] <;> omega

/-- The values carried are sent back as they came (R40). -/
theorem limitsData_limitsOf {p : List Byte} (h : p.length = 9) :
    limitsData (some (limitsOf p)) = p.take 8 := by
  match p, h with
  | [a, b, c, d, e, f, g, i, j], _ => simp [limitsData, limitsOf, u16_u16At, byteAt]

/-- An accepted LIMITS SET: the limits in force, slot 6 evaluated against them, the write (R41, R42). -/
theorem limitsSet_accepted {p : List Byte} {s : State} {g : GeometryHeader} (hs : s.mgmt.seqFlag = true)
    (hg : geometryOf s = some g) (hretain : u8At p 8 ≤ 1) (hin : WithinNative g.native (limitsOf p))
    (hfree : u8At p 8 = 1 → s.mgmt.retainedOnce = false ∧ s.store.inFlight = none) :
    limitsSet p s = (acceptLimits (limitsOf p) (u8At p 8 == 1) s,
      .now .accepted (limitsData (some (limitsOf p)))) := by
  have hr : limitsInRange g.native (limitsOf p) = true := (limitsInRange_iff _ _).2 hin
  have h1 : ¬ (u8At p 8 = 1 ∧ s.mgmt.retainedOnce = true) := fun ⟨h, ho⟩ => by simp [hfree h] at ho
  have h2 : ¬ (u8At p 8 = 1 ∧ writing s = true) := fun ⟨h, hw⟩ => by simp [writing, hfree h] at hw
  simp [limitsSet, not_lt.2 hretain, hs, hg, hr, h1, h2]

@[simp] theorem acceptLimits_mgmt (l : Limits) (retain : Bool) (s : State) :
    (acceptLimits l retain s).mgmt = { s.mgmt with retainedOnce := s.mgmt.retainedOnce || retain } := by
  cases retain <;> simp [acceptLimits]

@[simp] theorem acceptLimits_store (l : Limits) (retain : Bool) (s : State) :
    (acceptLimits l retain s).store = if retain then
      { s.store with limitsCopy := none, limitsStatus := .writing, inFlight := some (.limits l) }
    else s.store := by
  cases retain <;> simp [acceptLimits, startWrite]

@[simp] theorem acceptLimits_shaper (l : Limits) (retain : Bool) (s : State) :
    (acceptLimits l retain s).shaper = s.shaper := by
  cases retain <;> simp [acceptLimits, evaluate_internal_shaper]

@[simp] theorem acceptLimits_line (l : Limits) (retain : Bool) (s : State) :
    (acceptLimits l retain s).line = s.line := by
  cases retain <;> simp [acceptLimits, evaluate_internal_line]

theorem travelExceeded_congr {s t : State} (hd : t.link.drives = s.link.drives)
    (hp : t.position = s.position) (ht : t.tables = s.tables) : travelExceeded t = travelExceeded s := by
  unfold travelExceeded
  rw [usablePayout_congr hd hp, hp, ht]

/-- Slot 6 holds what it holds of the limits now in force (R37). -/
theorem acceptLimits_slot_six (l : Limits) (retain : Bool) {s : State}
    (h : s.alarm.slots.length = 64) : (slotOf (acceptLimits l retain s) 6).condition
      = travelExceeded (acceptLimits l retain s) := by
  set s1 := s.withPosition { s.position with working := some l } with hs1
  have hslot : slotOf (acceptLimits l retain s) 6 = slotOf (evaluate 6 (travelExceeded s1) s1) 6 :=
    slotOf_congr (by cases retain <;> simp [acceptLimits, hs1]) 6
  rw [hslot, evaluate_condition_internal _ (by decide) (by simp [hs1, h])]
  exact (travelExceeded_congr (by simp [hs1]) (by rw [acceptLimits_position]; rfl) (by simp [hs1])).symm

/-- Settles O22: the owner accepts, and the answer adds the confirmation and the flags. -/
theorem limitsSetTakesEffect : Obligations.LimitsSetTakesEffect := by
  unfold Obligations.LimitsSetTakesEffect
  intro f s g p l ht hlock hp hs hg hretain hhoist hdrag hfree hslots
  have hon := power_of_taken ht
  have hl : limitsOf p = l := rfl
  have hexec : exec (.limitsSet f) s = .next (answeredOnly (acceptLimits l (u8At p 8 == 1) s) 0x09
      (requestTag f) .accepted (p.take 8) false) := by
    rw [exec_limitsSet ht hlock hp, limitsSet_accepted hs hg hretain ⟨hhoist, hdrag⟩ hfree,
      answerRequest_now (by simp [hon]), limitsData_limitsOf hp, hl]
    rfl
  refine ⟨_, hexec, ?position, ?link, ?mgmt, ?store, ?six, ?_⟩
  case position => simp
  case link => simp [confirmedLink]
  case mgmt => simp
  case store => simp
  case six =>
    rw [slotOf_congr (s := acceptLimits l (u8At p 8 == 1) s) (by simp), acceptLimits_slot_six _ _ hslots]
    exact (travelExceeded_congr (by simp [confirmedLink]) (by simp) (by simp)).symm
  simp

end Sys2Proof.Machine
end

section
/-! SUPPORT. What the hand-off of the position, and a STAT from a drum, do to the position unit, the swing
unit and the alarm slots (R25 to R34, R37, R72 to R74, R141). -/

namespace Sys2Proof.Machine

/-! ### The position handed on (R33) -/

theorem presentPosition_eq (s : State) : presentPosition s
    = if s.position.status = .resolved ∨ s.position.status = .held then
        some { reach := s.position.reach, height := s.position.height, zone := s.position.zone }
      else none := by
  unfold presentPosition
  cases s.position.status <;> rfl

theorem presentPosition_zone (s : State) (z : Nat) : (presentPosition s).map (·.zone) = some z ↔
    (s.position.status = .resolved ∨ s.position.status = .held) ∧ s.position.zone = z := by
  rw [presentPosition_eq]
  split <;> simp_all

/-! ### The clearance of the HEIGHT sectors (R72) -/

theorem updateClearance_clear (p : Option HandedPosition) (s : State) :
    (updateClearance p s).swing.clear = clearanceAfter p s := by
  unfold updateClearance
  dsimp only
  split
  · exact (‹clearanceAfter p s = s.swing.clear›).symm
  · simp

/-- The clearance flag of sector n after the hand-off of a state's position (R72). -/
theorem clearanceAfter_getD (s : State) {n : Nat} (hn : n < 16) :
    (clearanceAfter (presentPosition s) s).getD n false =
      match swingOf s, (sectorsOf s)[n]? with
      | some table, some sec =>
        if sec.cls = .height then
          if ¬ (s.position.status = .resolved ∨ s.position.status = .held) then false
          else if sec.minHeight ≤ s.position.height then true
          else if s.position.height < sec.minHeight - table.hysteresis then false
          else s.swing.clear.getD n false
        else s.swing.clear.getD n false
      | _, _ => s.swing.clear.getD n false := by
  unfold clearanceAfter sectorsOf
  rcases swingOf s with _ | table
  · rfl
  rw [List.getD_eq_getElem?_getD, List.getElem?_map, List.getElem?_range hn]
  rcases hsec : table.sectors[n]? with _ | sec
  · simp [hsec]
  by_cases hp : s.position.status = .resolved ∨ s.position.status = .held <;>
    simp [hsec, presentPosition_eq, hp, newClearance]

/-! ### Slot 7 (R71, R73) -/

theorem contains_iff (t : Sector) (a : Nat) : t.contains a = true ↔
    ((a : Int) - t.start) % 36000 < ((t.stop : Int) - t.start) % 36000 := by
  rw [Sector.contains, arcContains, decide_eq_true_eq, arc, arc]
  omega

theorem sectorEntered_iff (s : State) : sectorEntered s = true ↔
    ∃ sec a, sec ∈ blockingSectors s ∧ s.swing.corrected = some a
      ∧ ((a : Int) - sec.start) % 36000 < ((sec.stop : Int) - sec.start) % 36000 := by
  unfold sectorEntered
  cases s.swing.corrected <;> simp [contains_iff]

theorem sectorEntered_congr {s t : State} (h1 : t.swing.corrected = s.swing.corrected)
    (h2 : t.swing.clear = s.swing.clear) (h3 : t.tables = s.tables) :
    sectorEntered t = sectorEntered s := by
  unfold sectorEntered blockingSectors sectorBlocks sectorsOf swingOf
  rw [h1, h2, h3]

theorem refreshSectors_slot_seven {s : State} (h : s.alarm.slots.length = 64) :
    (slotOf (refreshSectors s) 7).condition = sectorEntered (refreshSectors s) := by
  unfold refreshSectors
  rw [evaluate_condition_internal _ (by decide) (by simp [h])]
  exact (sectorEntered_congr (by simp) (by simp) (by simp)).symm

/-! ### The hand-off (R33, R34, R37, R141) -/

/-- The state in which the hand-off evaluates the ZONE sources: the swing unit has followed, the alarm unit
keeps the position. -/
def positionKept (s : State) : State :=
  (updateClearance (presentPosition s) s).withAlarm
    { (updateClearance (presentPosition s) s).alarm with lastPosition := presentPosition s }

/-- The state in which the hand-off evaluates slots 5 and 6. -/
def zonesHanded (s : State) : State := evaluateBound (zoneSource (presentPosition s)) (positionKept s)

theorem positionLost_congr {s t : State} (h : t.position = s.position) :
    positionLost t = positionLost s := by
  simp [positionLost, h]

theorem handPosition_eq (s : State) : handPosition s
    = evaluate 6 (travelExceeded s) (evaluate 5 (positionLost s) (zonesHanded s)) := by
  have h5 : positionLost (zonesHanded s) = positionLost s :=
    positionLost_congr (by simp [zonesHanded, positionKept])
  have h6 : travelExceeded (evaluate 5 (positionLost s) (zonesHanded s)) = travelExceeded s :=
    travelExceeded_congr (by simp [zonesHanded, positionKept]) (by simp [zonesHanded, positionKept])
      (by simp [zonesHanded, positionKept])
  rw [← h6, ← h5]
  rfl

theorem handPosition_lastPosition (s : State) :
    (handPosition s).alarm.lastPosition = presentPosition s := by
  simp [handPosition_eq, zonesHanded, positionKept]

theorem handPosition_clear (s : State) :
    (handPosition s).swing.clear = clearanceAfter (presentPosition s) s := by
  simp [handPosition_eq, zonesHanded, positionKept, updateClearance_clear]

theorem handPosition_slot_five {s : State} (h : s.alarm.slots.length = 64) :
    (slotOf (handPosition s) 5).condition = positionLost s := by
  rw [handPosition_eq, evaluate_slots_other _ _ (by decide)]
  exact evaluate_condition_internal _ (by decide) (by simp [zonesHanded, positionKept, h])

theorem handPosition_slot_six {s : State} (h : s.alarm.slots.length = 64) :
    (slotOf (handPosition s) 6).condition = travelExceeded s := by
  rw [handPosition_eq]
  exact evaluate_condition_internal _ (by decide) (by simp [zonesHanded, positionKept, h])

/-- Of the hand-off only the change of a clearance reaches slot 7. -/
theorem handPosition_slot_seven_eq (s : State) :
    slotOf (handPosition s) 7 = slotOf (updateClearance (presentPosition s) s) 7 := by
  rw [handPosition_eq, evaluate_slots_other _ _ (by decide), evaluate_slots_other _ _ (by decide),
    zonesHanded, evaluateBound_internal (by decide)]
  rfl

theorem handPosition_slot_seven_of_same {s : State} (h : (handPosition s).swing.clear = s.swing.clear) :
    slotOf (handPosition s) 7 = slotOf s 7 := by
  rw [handPosition_clear] at h
  rw [handPosition_slot_seven_eq, updateClearance]
  simp only [h, if_true]

/-- A changed clearance has slot 7 evaluated against the sectors that now block (R68, R72, R73). -/
theorem handPosition_slot_seven_of_changed {s : State} (hl : s.alarm.slots.length = 64)
    (h : (handPosition s).swing.clear ≠ s.swing.clear) :
    (slotOf (handPosition s) 7).condition = sectorEntered (handPosition s) := by
  have hc := handPosition_clear s
  rw [hc] at h
  set s1 := s.withSwing { s.swing with clear := clearanceAfter (presentPosition s) s } with hs1
  have hu : updateClearance (presentPosition s) s = refreshSectors s1 := by
    rw [updateClearance]
    simp only [h, if_false, hs1]
  rw [handPosition_slot_seven_eq, hu, refreshSectors_slot_seven (by simp [hs1, hl])]
  refine sectorEntered_congr ?_ ?_ ?_
  · simp [hs1]
  · simp [hc, hs1]
  · simp [hs1]

/-- A bound ZONE source holds whether the position handed on is in its zone (R141). -/
theorem handPosition_zoneSource {s : State} {k z : Nat} {d : AlarmDef}
    (hl : 12 + k < s.alarm.slots.length) (hd : (definitionsOf s)[k]? = some d)
    (hb : s.alarm.bound.getD k false = true) (hz : d.source = .zone z) :
    (slotOf (handPosition s) (12 + k)).condition = true ↔
      (s.position.status = .resolved ∨ s.position.status = .held) ∧ s.position.zone = z := by
  have hd' : (definitionsOf (positionKept s))[k]? = some d := by
    simpa [definitionsOf, positionKept] using hd
  have hb' : (positionKept s).alarm.bound.getD k false = true := by
    simpa [positionKept] using hb
  rw [handPosition_eq, evaluate_slots_other _ _ (by omega), evaluate_slots_other _ _ (by omega),
    zonesHanded, evaluateBound_condition _ (by simpa [positionKept] using hl), hd']
  simp only [hb', if_true, zoneSource, hz, Option.getD_some, beq_iff_eq]
  exact presentPosition_zone s z

/-! ### The payout records (R26) -/

theorem writePayout_position {m : Motion} (hm : m = .hoist ∨ m = .drag) (p : StatPayload) (s : State) :
    (writePayout m p s).position
      = if m = .hoist then
          { s.position with hoistPayout := { payout := some p.position, valid := p.valid } }
        else { s.position with dragPayout := { payout := some p.position, valid := p.valid } } := by
  rcases hm with rfl | rfl <;> rfl

theorem payoutRecord_writePayout {m : Motion} (hm : m = .hoist ∨ m = .drag) (p : StatPayload) (s : State)
    (m' : Motion) : payoutRecord (writePayout m p s) m'
      = if m' = m then { payout := some p.position, valid := p.valid } else payoutRecord s m' := by
  rcases hm with rfl | rfl <;> cases m' <;> rfl

theorem payoutRecord_congr {s t : State} (h1 : t.position.hoistPayout = s.position.hoistPayout)
    (h2 : t.position.dragPayout = s.position.dragPayout) : payoutRecord t = payoutRecord s := by
  funext m
  cases m <;> simp [payoutRecord, h1, h2]

theorem attempt_congr {s t : State} (hl : t.link.drives = s.link.drives)
    (hp : payoutRecord t = payoutRecord s) : attempt t = attempt s := by
  funext image
  unfold attempt usablePayout isFresh
  rw [hl, hp]

/-! ### The attempt (R28, R31, R32) -/

theorem makeAttempt_of_none {s : State} (h : s.tables.active.geometry = none) : makeAttempt s = s := by
  simp [makeAttempt, h]

/-- The state in which the position is handed on: the attempt made. -/
def attempted (image : Image) (s : State) : State :=
  s.withPosition (afterAttempt (u8At image 10) (attempt s image) s.position)

theorem makeAttempt_of_some {s : State} {image : Image} (h : s.tables.active.geometry = some image) :
    makeAttempt s = handPosition (attempted image s) := by
  simp only [makeAttempt, h]
  rfl

theorem payoutRecord_attempted (image : Image) (s : State) :
    payoutRecord (attempted image s) = payoutRecord s := by
  unfold attempted
  cases attempt s image <;> exact payoutRecord_congr rfl rfl

/-- The table of R32, and the values of R31 where the attempt is resolved. -/
theorem afterAttempt_table (limit : Nat) (o : Option Resolved) (p : PositionUnit) :
    match o with
    | some r =>
      (afterAttempt limit o p).status = .resolved ∧ (afterAttempt limit o p).count = 0
        ∧ (afterAttempt limit o p).reach = r.reach ∧ (afterAttempt limit o p).height = r.height
        ∧ (afterAttempt limit o p).zone = r.zone ∧ (afterAttempt limit o p).edge = r.edge
    | none =>
      (afterAttempt limit o p).reach = p.reach ∧ (afterAttempt limit o p).height = p.height
        ∧ (afterAttempt limit o p).zone = p.zone ∧ (afterAttempt limit o p).edge = p.edge
        ∧ ((afterAttempt limit o p).status, (afterAttempt limit o p).count)
          = match p.status with
            | .none => (if p.count + 1 = limit then .lost else .none, p.count + 1)
            | .resolved => (if 1 = limit then .lost else .held, 1)
            | .held => (if p.count + 1 = limit then .lost else .held, p.count + 1)
            | .lost => (.lost, p.count) := by
  cases o with
  | some r => exact ⟨rfl, rfl, rfl, rfl, rfl, rfl⟩
  | none =>
    refine ⟨rfl, rfl, rfl, rfl, ?_⟩
    simp only [afterAttempt]
    cases p.status <;> simp only [unresolvedMove]
    all_goals (split <;> rfl)

/-! ### A STAT from a drum -/

/-- The state in which a drum's STAT makes its attempt: its record written, slot 6 evaluated (R26, R37). -/
def payoutTaken (m : Motion) (p : StatPayload) (s : State) : State :=
  evaluate 6 (travelExceeded (writePayout m p s)) (writePayout m p s)

/-- The held load after a STAT (R74). -/
def loadAfter (m : Motion) (p : StatPayload) (s : State) : Nat :=
  if m = .hoist ∧ p.brakeSet = false then min p.current.natAbs 2000 else s.swing.heldLoad

theorem deliverLoad_eq (p : StatPayload) (s : State) : deliverLoad p s
    = s.withSwing { s.swing with heldLoad := loadAfter .hoist p s } := by
  unfold deliverLoad loadAfter
  cases p.brakeSet <;> rfl

theorem deliverTo_drum {m : Motion} (hm : m = .hoist ∨ m = .drag) (p : StatPayload) (s : State) :
    deliverTo m p s = (makeAttempt (payoutTaken m p s)).withSwing
      { (makeAttempt (payoutTaken m p s)).swing with heldLoad := loadAfter m p s } := by
  rcases hm with rfl | rfl
  · have hload : loadAfter .hoist p (makeAttempt (payoutTaken .hoist p s)) = loadAfter .hoist p s := by
      simp [loadAfter, payoutTaken]
    rw [← hload]
    exact deliverLoad_eq p _
  · have hload : loadAfter .drag p s = (makeAttempt (payoutTaken .drag p s)).swing.heldLoad := by
      simp [loadAfter, payoutTaken]
    rw [hload]
    rfl

theorem exec_statTaken {f : List Byte} {m : Motion} {s : State} (hp : s.power = .on)
    (hc : classifyDrive f = .stat m) : exec (.statTaken f) s = .next (takeStat m f s) := by
  simp [exec, execStatTaken, portsOpen, hc, hp]

/-- The state in which a STAT from a drum makes its attempt. -/
abbrev drumTaken (m : Motion) (f : List Byte) (s : State) : State :=
  payoutTaken m (readStat f) (statBegun m (readStat f) s)

/-- What a STAT from a drum leaves in the end, by what its attempt leaves: the held load is set, the drive
sources are evaluated and the frame is passed on, and no more. -/
theorem takeStat_drum {m : Motion} (hm : m = .hoist ∨ m = .drag) (f : List Byte) (s : State) :
    let y := makeAttempt (drumTaken m f s)
    (takeStat m f s).position = y.position
      ∧ (takeStat m f s).swing = { y.swing with heldLoad := loadAfter m (readStat f) s }
      ∧ (takeStat m f s).alarm.lastPosition = y.alarm.lastPosition
      ∧ (takeStat m f s).link.drives = y.link.drives ∧ (takeStat m f s).tables = y.tables
      ∧ ∀ n, n < 12 → slotOf (takeStat m f s) n = slotOf y n := by
  intro y
  have hload : loadAfter m (readStat f) (statBegun m (readStat f) s) = loadAfter m (readStat f) s := by
    simp [loadAfter]
  rw [takeStat_eq, deliverTo_drum hm, hload]
  refine ⟨by simp [y], by simp [y], by simp [y], by simp [y], by simp [y], fun n hn => ?_⟩
  rw [slotOf_offerCab, evaluateBound_internal hn]
  rfl

/-- The state in which a STAT from a drum hands the position on, while a GEOMETRY table is active. -/
abbrev drumAttempted (image : Image) (m : Motion) (f : List Byte) (s : State) : State :=
  attempted image (drumTaken m f s)

@[simp] theorem drumTaken_frame (m : Motion) (f : List Byte) (s : State) :
    (drumTaken m f s).position = (writePayout m (readStat f) (statBegun m (readStat f) s)).position
      ∧ (drumTaken m f s).link.drives = (refreshDrive m (readStat f) s).link.drives
      ∧ (drumTaken m f s).swing = s.swing ∧ (drumTaken m f s).tables = s.tables
      ∧ (drumTaken m f s).alarm.bound = s.alarm.bound
      ∧ (drumTaken m f s).alarm.lastPosition = s.alarm.lastPosition
      ∧ (drumTaken m f s).alarm.slots.length = s.alarm.slots.length := by
  simp [drumTaken, payoutTaken]

/-- The attempt finds the position record as the STAT found it. -/
theorem drumTaken_record (m : Motion) (f : List Byte) (s : State) :
    (drumTaken m f s).position.status = s.position.status
      ∧ (drumTaken m f s).position.count = s.position.count
      ∧ (drumTaken m f s).position.reach = s.position.reach
      ∧ (drumTaken m f s).position.height = s.position.height
      ∧ (drumTaken m f s).position.zone = s.position.zone
      ∧ (drumTaken m f s).position.edge = s.position.edge := by simp

theorem drumTaken_slot {n : Nat} (h5 : 5 ≤ n) (h6 : n ≠ 6) (m : Motion) (f : List Byte) (s : State) :
    slotOf (drumTaken m f s) n = slotOf s n := by
  rw [drumTaken, payoutTaken, evaluate_slots_other _ _ h6, slotOf_writePayout, statBegun_slot h5]

@[simp] theorem attempted_frame (image : Image) (s : State) :
    (attempted image s).position = afterAttempt (u8At image 10) (attempt s image) s.position
      ∧ (attempted image s).link = s.link ∧ (attempted image s).swing = s.swing
      ∧ (attempted image s).tables = s.tables ∧ (attempted image s).alarm = s.alarm := by
  simp [attempted]

section
variable {m : Motion} {s : State} {image : Image} (hm : m = .hoist ∨ m = .drag) (f : List Byte)
  (hg : s.tables.active.geometry = some image)
include hm hg

/-- The end of a STAT from a drum, while a GEOMETRY table is active, by the state that hands the position
on. -/
theorem takeStat_handed :
    (takeStat m f s).position = (drumAttempted image m f s).position
      ∧ (takeStat m f s).swing = { (handPosition (drumAttempted image m f s)).swing with
          heldLoad := loadAfter m (readStat f) s }
      ∧ (takeStat m f s).alarm.lastPosition = presentPosition (drumAttempted image m f s)
      ∧ (takeStat m f s).link.drives = (drumAttempted image m f s).link.drives
      ∧ (takeStat m f s).tables = s.tables
      ∧ ∀ n, n < 12 → slotOf (takeStat m f s) n
          = slotOf (handPosition (drumAttempted image m f s)) n := by
  obtain ⟨hpos, hswing, hlast, hdrives, htables, hslot⟩ := takeStat_drum hm f s
  have hmake : makeAttempt (drumTaken m f s) = handPosition (drumAttempted image m f s) :=
    makeAttempt_of_some (by simp [hg])
  rw [hmake] at hpos hswing hlast hdrives htables hslot
  refine ⟨?_, hswing, hlast.trans (handPosition_lastPosition _), ?_, ?_, hslot⟩
  · rw [hpos, (handPosition_frame _).2.2.1]
  · rw [hdrives, (handPosition_frame _).2.1]
  · simp [htables]

theorem payoutRecord_takeStat (m' : Motion) : payoutRecord (takeStat m f s) m'
    = if m' = m then { payout := some (readStat f).position, valid := (readStat f).valid }
      else payoutRecord s m' := by
  obtain ⟨hpos, -⟩ := takeStat_handed hm f hg
  calc payoutRecord (takeStat m f s) m'
      = payoutRecord (drumTaken m f s) m' := by
        rw [payoutRecord_congr (congrArg _ hpos) (congrArg _ hpos), payoutRecord_attempted]
    _ = payoutRecord (writePayout m (readStat f) (statBegun m (readStat f) s)) m' := by
        exact congrFun (payoutRecord_congr (by simp) (by simp)) m'
    _ = _ := by
        rw [payoutRecord_writePayout hm, payoutRecord_congr (s := s) (by simp) (by simp)]

/-- The records and the freshness that the attempt read stand at the end. -/
theorem attempt_takeStat : attempt (takeStat m f s) = attempt (drumTaken m f s) := by
  obtain ⟨hpos, -, -, hdrives, -⟩ := takeStat_handed hm f hg
  exact attempt_congr hdrives
    ((payoutRecord_congr (congrArg _ hpos) (congrArg _ hpos)).trans (payoutRecord_attempted image _))

theorem takeStat_clear : (takeStat m f s).swing.clear
    = clearanceAfter (presentPosition (drumAttempted image m f s)) (drumAttempted image m f s) := by
  obtain ⟨-, hswing, -⟩ := takeStat_handed hm f hg
  rw [hswing, ← handPosition_clear]

theorem takeStat_slot_five (hl : s.alarm.slots.length = 64) :
    (slotOf (takeStat m f s) 5).condition = true ↔ (takeStat m f s).position.status = .lost := by
  obtain ⟨hpos, -, -, -, -, hslot⟩ := takeStat_handed hm f hg
  rw [hslot 5 (by decide), handPosition_slot_five (by simp [hl]), positionLost, beq_iff_eq, hpos]

theorem takeStat_slot_six (hl : s.alarm.slots.length = 64) :
    (slotOf (takeStat m f s) 6).condition = travelExceeded (takeStat m f s) := by
  obtain ⟨hpos, -, -, hdrives, htables, hslot⟩ := takeStat_handed hm f hg
  rw [hslot 6 (by decide), handPosition_slot_six (by simp [hl])]
  exact (travelExceeded_congr hdrives hpos (by simp [htables])).symm

theorem takeStat_slot_seven_of_same (h : (takeStat m f s).swing.clear = s.swing.clear) :
    slotOf (takeStat m f s) 7 = slotOf s 7 := by
  obtain ⟨-, -, -, -, -, hslot⟩ := takeStat_handed hm f hg
  rw [takeStat_clear hm f hg, ← handPosition_clear] at h
  rw [hslot 7 (by decide), handPosition_slot_seven_of_same (by simp [h])]
  exact drumTaken_slot (by decide) (by decide) m f s

theorem takeStat_slot_seven_of_changed (hl : s.alarm.slots.length = 64)
    (h : (takeStat m f s).swing.clear ≠ s.swing.clear) :
    (slotOf (takeStat m f s) 7).condition = sectorEntered (takeStat m f s) := by
  obtain ⟨-, hswing, -, -, htables, hslot⟩ := takeStat_handed hm f hg
  rw [takeStat_clear hm f hg, ← handPosition_clear] at h
  rw [hslot 7 (by decide), handPosition_slot_seven_of_changed (by simp [hl]) (by simpa using h)]
  exact (sectorEntered_congr (by rw [hswing]) (by rw [hswing]) (by simp [htables])).symm

/-- A ZONE source takes nothing from a STAT itself, and what the hand-off gave it (R140, R141). -/
theorem takeStat_zoneSource (hl : s.alarm.slots.length = 64) {k n : Nat} {d : AlarmDef} (hk : k < 52)
    (hd : (definitionsOf s)[k]? = some d) (hb : s.alarm.bound.getD k false = true)
    (hn : d.source = .zone n) : (slotOf (takeStat m f s) (12 + k)).condition = true ↔
      ((takeStat m f s).position.status = .resolved ∨ (takeStat m f s).position.status = .held)
        ∧ (takeStat m f s).position.zone = n := by
  obtain ⟨hpos, -⟩ := takeStat_handed hm f hg
  have hmake : makeAttempt (drumTaken m f s) = handPosition (drumAttempted image m f s) :=
    makeAttempt_of_some (by simp [hg])
  have hd' : (definitionsOf (deliverTo m (readStat f) (statBegun m (readStat f) s)))[k]? = some d := by
    simpa [definitionsOf] using hd
  have hslot : (slotOf (takeStat m f s) (12 + k)).condition
      = (slotOf (handPosition (drumAttempted image m f s)) (12 + k)).condition := by
    rw [takeStat_eq, slotOf_offerCab, evaluateBound_condition _ (by simp [hl]; omega), hd']
    simp only [driveSource, hn, Option.getD_none, ite_self]
    rw [deliverTo_drum hm, hmake]
    rfl
  rw [hslot, hpos, handPosition_zoneSource (by simp [hl]; omega) (by simpa [definitionsOf] using hd)
    (by simpa using hb) hn]

end

end Sys2Proof.Machine
end

section
/-! SUPPORT. A STAT from HOIST or DRAG moves the position (R25 to R34, R37, R72 to R74, R141). -/

namespace Sys2Proof.Machine

/-- Without a GEOMETRY table a STAT from a drum writes its record, sets the held load and leaves slot 6
false (R25, R26, R37, R74). -/
theorem takeStat_without_geometry {m : Motion} (hm : m = .hoist ∨ m = .drag) (f : List Byte) {s : State}
    (hg : s.tables.active.geometry = none) :
    (takeStat m f s).position = (writePayout m (readStat f) s).position
      ∧ (slotOf (takeStat m f s) 6).condition = false
      ∧ (takeStat m f s).swing = { s.swing with heldLoad := loadAfter m (readStat f) s }
      ∧ (takeStat m f s).alarm.lastPosition = s.alarm.lastPosition := by
  obtain ⟨hpos, hswing, hlast, -, -, hslot⟩ := takeStat_drum hm f s
  have hmake : makeAttempt (drumTaken m f s) = drumTaken m f s :=
    makeAttempt_of_none (by simp [hg])
  have hfalse : travelExceeded (writePayout m (readStat f) (statBegun m (readStat f) s)) = false := by
    simp [travelExceeded, hg]
  rw [hmake] at hpos hswing hlast hslot
  refine ⟨?_, ?_, ?_, ?_⟩
  · rw [hpos, (drumTaken_frame m f s).1, writePayout_position hm, writePayout_position hm]
    simp
  · rw [hslot 6 (by decide), drumTaken, payoutTaken, hfalse]
    exact evaluate_false_condition (by decide)
  · simp [hswing]
  · simp [hlast]

/-- Settles O19: the record is written, and with a table the attempt is made and handed on. -/
theorem payoutStatMovesPosition : Obligations.PayoutStatMovesPosition := by
  unfold Obligations.PayoutStatMovesPosition
  refine ⟨?noTable, ?table⟩
  case noTable =>
    intro f m s hp hm hc hg record
    obtain ⟨hpos, hsix, hswing, hlast⟩ := takeStat_without_geometry hm f hg
    exact ⟨takeStat m f s, exec_statTaken hp hc, hpos.trans (writePayout_position hm _ _), hsix, hswing,
      hlast, by rcases hm with rfl | rfl <;> simp [takeStat_eq, deliverTo]⟩
  case table =>
    intro f m s image hp hm hc hg limit
    obtain ⟨hpos, hswing, hlast, -⟩ := takeStat_handed hm f hg
    set z := drumAttempted image m f s with hz
    refine ⟨takeStat m f s, exec_statTaken hp hc, ?record, fun m' hm' => ?other, takeStat_working m f s,
      ?outcome, fun hl => ⟨takeStat_slot_five hm f hg hl, takeStat_slot_six hm f hg hl⟩,
      ⟨?kept, fun hl k d n hk hd hb hn => takeStat_zoneSource hm f hg hl hk hd hb hn, fun n hn => ?clear,
        takeStat_slot_seven_of_same hm f hg, fun h hl => ?changed⟩, congrArg SwingUnit.heldLoad hswing,
      ?_, ?_, ?_⟩
    case record => rw [payoutRecord_takeStat hm f hg, if_pos rfl]; rfl
    case other => rw [payoutRecord_takeStat hm f hg, if_neg hm']
    case outcome =>
      obtain ⟨hstatus, hcount, hreach, hheight, hzone, hedge⟩ := drumTaken_record m f s
      rw [attempt_takeStat hm f hg, hpos, ← hstatus, ← hcount, ← hreach, ← hheight, ← hzone, ← hedge]
      exact afterAttempt_table limit (attempt (drumTaken m f s) image) (drumTaken m f s).position
    case kept => rw [hlast, presentPosition_eq, hpos]
    case clear =>
      have hflag := clearanceAfter_getD z hn
      have hzswing : swingOf z = swingOf s := by simp [swingOf, hz]
      have hsectors : sectorsOf z = sectorsOf s := by simp [sectorsOf, hzswing]
      have hs : z.swing.clear = s.swing.clear := by simp [hz]
      rw [hzswing, hsectors, hs, ← takeStat_clear hm f hg, ← hpos] at hflag
      exact hflag
    case changed => rw [takeStat_slot_seven_of_changed hm f hg hl h, sectorEntered_iff]
    · simp [hswing, hz]
    · simp [hswing, hz]
    · rcases hm with rfl | rfl <;> simp [takeStat_eq, deliverTo]

end Sys2Proof.Machine
end

section
/-! SUPPORT. The direction limits and their terms: what bounds a limit from above, the motions at rest,
and the opening of gates (R46 to R51, R58). -/

namespace Sys2Proof.Machine

/-! ### The least of the terms (R46, R76) -/

theorem le_minTerms_iff {n : Nat} {terms : List Nat} :
    n ≤ minTerms terms ↔ n ≤ 1000 ∧ ∀ x ∈ terms, n ≤ x := by
  unfold minTerms
  generalize 1000 = top
  induction terms generalizing top with
  | nil => simp
  | cons x xs ih => simp [ih, and_assoc]

theorem minTerms_le (terms : List Nat) : minTerms terms ≤ 1000 := (le_minTerms_iff.1 le_rfl).1

theorem minTerms_le_of_mem {x : Nat} {terms : List Nat} (h : x ∈ terms) : minTerms terms ≤ x :=
  (le_minTerms_iff.1 le_rfl).2 x h

/-! ### The limits of a motion's two directions -/

/-- The limit of a motion's references above 0 (R47). -/
def DirLimits.upperLimit (l : DirLimits) : Motion → Nat
  | .hoist => l.raise
  | .drag => l.haulIn
  | .swing => l.cw
  | .propel => l.step

/-- The limit of a motion's references below 0; PROPEL has none there (R45, R47). -/
def DirLimits.lowerLimit (l : DirLimits) : Motion → Nat
  | .hoist => l.lower
  | .drag => l.payOut
  | .swing => l.ccw
  | .propel => 0

theorem forwardRefs_get (band : Nat) (c : PerMotion Int) (l : DirLimits) (m : Motion) :
    (forwardRefs band c l).get m = forwardRef band (c.get m) (l.upperLimit m) (l.lowerLimit m) := by
  cases m <;> rfl

/-- A common term of a motion bounds both its directions (R46). -/
theorem directionLimits_le_common {s : State} {m : Motion} {x : Nat} (h : x ∈ commonTerms s m) :
    (directionLimits s).upperLimit m ≤ x ∧ (directionLimits s).lowerLimit m ≤ x := by
  have hle (terms : List Nat) : minTerms (commonTerms s m ++ terms) ≤ x :=
    minTerms_le_of_mem (List.mem_append_left _ h)
  cases m with
  | hoist => exact ⟨hle _, hle _⟩
  | drag => exact ⟨hle _, hle _⟩
  | swing => exact ⟨hle _, hle _⟩
  | propel => exact ⟨hle _, Nat.zero_le x⟩

/-! ### The common terms (R49, R50, R51) -/

theorem gateTerms_eq (s : State) (m : Motion) :
    gateTerms s m = if s.shaper.gates.get m = .passing then [] else [0] := by
  unfold gateTerms
  cases s.shaper.gates.get m <;> rfl

/-- The conditions under which a motion rests put a 0 among its common terms. -/
theorem zero_mem_commonTerms {s : State} {m : Motion}
    (h : s.shaper.gates.get m ≠ .passing ∨ classListed s .trip = true
      ∨ listedNaming s .stop m ≠ [] ∨ walkPermits s m = false) : 0 ∈ commonTerms s m := by
  simp only [commonTerms, alarmTerms, walkTerms, gateTerms_eq, List.mem_append]
  rcases h with hgate | htrip | hstop | hwalk
  · simp [hgate]
  · simp [htrip]
  · obtain ⟨a, ha⟩ := List.exists_mem_of_ne_nil _ hstop
    exact .inl (.inr (.inl (.inr (List.mem_map.2 ⟨a, ha, rfl⟩))))
  · simp [hwalk]

theorem derate_mem_commonTerms {s : State} {m : Motion} {a : Attrs}
    (h : a ∈ listedNaming s .restrict m) : a.derate ∈ commonTerms s m := by
  have : a.derate ∈ alarmTerms s m := List.mem_append_right _ (List.mem_map_of_mem h)
  simp [commonTerms, this]

/-! ### References and gates (R47, R58) -/

theorem forwardRef_zero (band : Nat) (c : Int) : forwardRef band c 0 0 = 0 := by
  unfold forwardRef
  split
  · rfl
  · split <;> omega

/-- A motion with a 0 among its common terms rests (R46, R47). -/
theorem forwardRefs_rest {s : State} {m : Motion} (h : 0 ∈ commonTerms s m) (band : Nat)
    (c : PerMotion Int) : (forwardRefs band c (directionLimits s)).get m = 0 := by
  obtain ⟨hupper, hlower⟩ := directionLimits_le_common h
  rw [forwardRefs_get, Nat.le_zero.1 hupper, Nat.le_zero.1 hlower, forwardRef_zero]

theorem openGates_get (band : Nat) (c : PerMotion Int) (g : PerMotion Gate) (m : Motion) :
    (openGates band c g).get m = if (c.get m).natAbs ≤ band then .passing else g.get m := by
  cases m <;> rfl

/-! ### A REF taken from the cab -/

/-- After a REF the alarm list and the sequencer are as shaping read them. -/
theorem takeRef_observed (p : RefPayload) (s : State) :
    classListed (takeRef p s) = classListed (refDecided p s)
      ∧ listedNaming (takeRef p s) = listedNaming (refDecided p s)
      ∧ walkPermits (takeRef p s) = walkPermits (refDecided p s) := by
  obtain ⟨-, hwalk, hlist, htables⟩ := takeRef_shaped p s
  exact ⟨classListed_congr hlist htables, listedNaming_congr hlist htables, walkPermits_congr hwalk⟩

/-- What the stages before shaping leave of the state that shaping reads (R5). -/
theorem refDecided_frame (p : RefPayload) (s : State) :
    (refDecided p s).position = s.position ∧ (refDecided p s).swing = s.swing
      ∧ (refDecided p s).tables = s.tables ∧ (refDecided p s).link.drives = s.link.drives := by
  simp [refDecided]

theorem refDecided_gated {p : RefPayload} {s : State} {m : Motion}
    (h : s.shaper.gates.get m = .gated) : (refDecided p s).shaper.gates.get m = .gated := by
  have hshut : (refDecided p s).shaper.gates.get m ≠ .passing := fun hopen => by
    simpa [h] using ((refDecided_gate p s m).1 hopen).1
  cases hg : (refDecided p s).shaper.gates.get m with
  | gated => rfl
  | passing => exact absurd hg hshut

/-- Settles O12: each of the four conditions puts a 0 among the common terms of the motion. -/
theorem motionRestsUntilNeutral : Obligations.MotionRestsUntilNeutral := by
  unfold Obligations.MotionRestsUntilNeutral
  intro f s hp hc
  set p := readRef f
  obtain ⟨hshaper, -, -, -⟩ := takeRef_shaped p s
  obtain ⟨hclass, hnaming, hpermits⟩ := takeRef_observed p s
  have hband : (plantOf (refDecided p s)).neutralBand = (plantOf s).neutralBand := by
    rw [plantOf_congr (refDecided_frame p s).2.2.1]
  have hgate (m : Motion) : (takeRef p s).shaper.gates.get m
      = if ((clampRefs p.refs).get m).natAbs ≤ (plantOf s).neutralBand then .passing
        else (refDecided p s).shaper.gates.get m := by
    rw [hshaper, ← hband]
    exact openGates_get _ _ _ m
  refine ⟨takeRef p s, exec_refTaken hp hc, fun m => ⟨fun hrest => ?rests, fun hin => ?opens,
    fun hout hg => ?stays⟩⟩
  case rests =>
    rw [hclass, hnaming, hpermits] at hrest
    rw [hshaper]
    refine forwardRefs_rest (zero_mem_commonTerms (hrest.imp_left fun hg => ?_)) _ _
    simp [refDecided_gated hg]
  case opens => rw [hgate, if_pos hin]
  case stays => rw [hgate, if_neg (by omega), refDecided_gated hg]

end Sys2Proof.Machine
end

section
/-! SUPPORT. The terms of the direction limits, each as the rule that gives it writes it (R46, R52 to R55,
R76 to R82). -/

namespace Sys2Proof.Machine

/-! ### The approach term of a distance (R53) -/

theorem approachTerm_of_nonpos {d : Int} (h : d ≤ 0) (gain creep : Nat) :
    approachTerm d gain creep = 0 := if_pos h

theorem approachTerm_of_pos {d : Int} (h : 0 < d) (gain creep : Nat) :
    approachTerm d gain creep = max creep (min 1000 (d.toNat * gain / 100)) := if_neg (by omega)

theorem approachTerm_mono {d d' : Int} (h : d ≤ d') (gain creep : Nat) :
    approachTerm d gain creep ≤ approachTerm d' gain creep := by
  rcases le_or_gt d 0 with hd | hd
  · simp [approachTerm_of_nonpos hd]
  · rw [approachTerm_of_pos hd, approachTerm_of_pos (hd.trans_le h)]
    gcongr
    exact Int.toNat_le_toNat h

/-- Settles O24, by whether any travel is left. -/
theorem approachTermFollowsDistance : Obligations.ApproachTermFollowsDistance := by
  unfold Obligations.ApproachTermFollowsDistance
  refine fun gain creep => ⟨fun d hd => approachTerm_of_nonpos hd gain creep, fun d hd => ?value,
    fun d hd => ?creep, fun d hcreep => ?top, fun d d' h => approachTerm_mono h gain creep⟩
  case value =>
    rw [approachTerm_of_pos hd]
    push_cast
    rw [Int.toNat_of_nonneg hd.le]
  case creep =>
    rw [approachTerm_of_pos hd]
    exact le_max_left _ _
  case top =>
    rcases le_or_gt d 0 with hd | hd
    · simp [approachTerm_of_nonpos hd]
    · rw [approachTerm_of_pos hd]
      omega

/-! ### The hoist, drag and propel terms (R52 to R55) -/

theorem zoneInForce_eq (s : State) : zoneInForce s = s.tables.active.zone.bind fun image =>
    if s.position.status = .resolved ∨ s.position.status = .held then
      some (readZone image s.position.zone) else none := by
  unfold zoneInForce
  rw [presentPosition_eq]
  by_cases h : s.position.status = .resolved ∨ s.position.status = .held <;>
    cases s.tables.active.zone <;> simp [h]

theorem zoneTerms_eq (s : State) :
    let zone (limit : PerDirection → Nat) : Nat :=
      ((zoneInForce s).map fun z => limit z.limits).getD (plantOf s).blindCreep
    zoneTerms s = { raise := zone (·.raise), lower := zone (·.lower), haulIn := zone (·.haulIn),
                    payOut := zone (·.payOut) } := by
  unfold zoneTerms
  cases zoneInForce s <;> rfl

/-- The approach term of one direction of a drum (R53, R54). -/
def drumApproach (s : State) (m : Motion) (distance : Limits → Nat → Int)
    (limit : PerDirection → Nat) : Nat :=
  match geometryOf s, s.position.working, usablePayout s m with
  | some g, some w, some p => approachTerm (distance w p) (limit g.gains) (limit g.creeps)
  | _, _, _ => (plantOf s).blindCreep

theorem approachTerms_eq (s : State) : approachTerms s =
    { raise := drumApproach s .hoist (fun w p => (p : Int) - w.hoistMin) (·.raise)
      lower := drumApproach s .hoist (fun w p => (w.hoistMax : Int) - p) (·.lower)
      haulIn := drumApproach s .drag (fun w p => (p : Int) - w.dragMin) (·.haulIn)
      payOut := drumApproach s .drag (fun w p => (w.dragMax : Int) - p) (·.payOut) } := by
  unfold approachTerms drumApproach
  rcases geometryOf s with _ | g
  · rfl
  rcases s.position.working with _ | w
  · rfl
  cases usablePayout s .hoist <;> cases usablePayout s .drag <;> rfl

theorem propelTerms_eq (s : State) : propelTerms s =
    if s.walk.state = .stepping then (walkOf s).toList.map (·.propelLimit) else [] := by
  unfold propelTerms
  cases walkOf s <;> rfl

/-- While STEPPING the propel limit bounds the step limit (R55). -/
theorem directionLimits_step_le {s : State} {w : WalkTable} (hs : s.walk.state = .stepping)
    (hw : walkOf s = some w) : (directionLimits s).step ≤ w.propelLimit :=
  minTerms_le_of_mem (List.mem_append_right _ (by simp [propelTerms, hs, hw]))

/-! ### The swing terms (R76 to R82) -/

theorem zoneSwingTerm_eq (s : State) :
    zoneSwingTerm s = ((zoneInForce s).map (·.swingLimit)).getD (plantOf s).blindCreep := by
  unfold zoneSwingTerm
  cases zoneInForce s <;> rfl

theorem walkSwingTerms_eq (s : State) : walkSwingTerms s =
    if s.walk.state = .walkIdle ∧ s.walk.cam = .clear then
      (walkOf s).toList.map (·.walkSwingLimit) else [] := by
  unfold walkSwingTerms
  cases walkOf s <;> rfl

/-- The angle from the corrected one to a sector in a direction, before it is reduced to a turn (R79). -/
def sectorDistance (clockwise : Bool) (a : Nat) (sec : Sector) : Int :=
  if clockwise then (sec.start : Int) - a else (a : Int) - sec.stop

theorem swingApproachTerms_eq (s : State) (t : SwingTable) (a : Nat) (clockwise : Bool) :
    swingApproachTerms s t a clockwise = ((blockingSectors s).filter fun sec => !sec.contains a).map
      fun sec => min 1000 ((sectorDistance clockwise a sec % 36000).toNat * t.gain / 100) := by
  cases clockwise <;> rfl

theorem contains_eq_false_iff (t : Sector) (a : Nat) : t.contains a = false ↔
    ((t.stop : Int) - t.start) % 36000 ≤ ((a : Int) - t.start) % 36000 := by
  rw [← Bool.not_eq_true, contains_iff, not_lt]

/-- While no SWING table is active or no valid angle is held, the blind creep is a term (R82). -/
theorem blindCreep_mem_swingTerms {s : State} (h : swingOf s = none ∨ s.swing.corrected = none)
    (clockwise : Bool) : (plantOf s).blindCreep ∈ swingTerms s clockwise := by
  unfold swingTerms
  rcases h with h | h
  · simp [h]
  · cases swingOf s <;> simp [h]

/-- Inside a blocking sector the swing creep is a term (R80). -/
theorem creep_mem_swingTerms {s : State} {t : SwingTable} {a : Nat} {sec : Sector}
    (ht : swingOf s = some t) (ha : s.swing.corrected = some a) (hsec : sec ∈ blockingSectors s)
    (hin : sec.contains a = true) (clockwise : Bool) : t.creep ∈ swingTerms s clockwise := by
  have : insideTerms s t a = [t.creep] := if_pos (List.any_eq_true.2 ⟨sec, hsec, hin⟩)
  simp [swingTerms, ht, ha, this]

/-- Outside a blocking sector its approach term is a term (R79). -/
theorem approach_mem_swingTerms {s : State} {t : SwingTable} {a : Nat} {sec : Sector}
    (ht : swingOf s = some t) (ha : s.swing.corrected = some a) (hsec : sec ∈ blockingSectors s)
    (hout : sec.contains a = false) (clockwise : Bool) :
    min 1000 ((sectorDistance clockwise a sec % 36000).toNat * t.gain / 100)
      ∈ swingTerms s clockwise := by
  have : min 1000 ((sectorDistance clockwise a sec % 36000).toNat * t.gain / 100)
      ∈ swingApproachTerms s t a clockwise := by
    rw [swingApproachTerms_eq]
    exact List.mem_map.2 ⟨sec, List.mem_filter.2 ⟨hsec, by simp [hout]⟩, rfl⟩
  simp [swingTerms, ht, ha, this]

/-- The limit of one swing direction. -/
def DirLimits.swingLimit (l : DirLimits) (clockwise : Bool) : Nat := if clockwise then l.cw else l.ccw

/-- Each term of a swing direction bounds its limit (R46, R76). -/
theorem directionLimits_swing_le {s : State} {x : Nat} {clockwise : Bool}
    (h : x ∈ swingTerms s clockwise) : (directionLimits s).swingLimit clockwise ≤ x := by
  have hlimit : swingLimit s clockwise ≤ x := minTerms_le_of_mem h
  have hle : minTerms (commonTerms s .swing ++ [swingLimit s clockwise]) ≤ x :=
    (minTerms_le_of_mem (List.mem_append_right _ (List.mem_singleton_self _))).trans hlimit
  cases clockwise <;> exact hle

theorem directionLimits_swing_le_distance {s : State} {t : SwingTable} {a : Nat} {sec : Sector}
    (ht : swingOf s = some t) (ha : s.swing.corrected = some a) (hsec : sec ∈ blockingSectors s)
    (hout : sec.contains a = false) (clockwise : Bool) :
    ((directionLimits s).swingLimit clockwise : Int)
      ≤ sectorDistance clockwise a sec % 36000 * t.gain / 100 := by
  have hle := (directionLimits_swing_le
    (approach_mem_swingTerms ht ha hsec hout clockwise)).trans (min_le_right _ _)
  have hnonneg : 0 ≤ sectorDistance clockwise a sec % 36000 := Int.emod_nonneg _ (by decide)
  zify at hle
  rwa [Int.toNat_of_nonneg hnonneg] at hle

end Sys2Proof.Machine
end

section
/-! SUPPORT. The direction limits after a REF, from the state before it (R46, R49 to R55, R76 to R82). -/

namespace Sys2Proof.Machine

/-! ### What shaping reads is as before the REF -/

theorem refDecided_observed (p : RefPayload) (s : State) :
    plantOf (refDecided p s) = plantOf s ∧ geometryOf (refDecided p s) = geometryOf s
      ∧ swingOf (refDecided p s) = swingOf s ∧ walkOf (refDecided p s) = walkOf s
      ∧ zoneInForce (refDecided p s) = zoneInForce s
      ∧ blockingSectors (refDecided p s) = blockingSectors s
      ∧ usablePayout (refDecided p s) = usablePayout s := by
  obtain ⟨hpos, hswing, htables, hdrives⟩ := refDecided_frame p s
  have hblocks : sectorBlocks (refDecided p s) = sectorBlocks s := by
    funext n t
    simp [sectorBlocks, hswing]
  refine ⟨plantOf_congr htables, geometryOf_congr (by rw [htables]), ?_, ?_, ?_, ?_,
    usablePayout_congr hdrives hpos⟩
  · rw [swingOf, htables, swingOf]
  · rw [walkOf, htables, walkOf]
  · simp [zoneInForce_eq, hpos, htables]
  · simp [blockingSectors, sectorsOf, swingOf, htables, hblocks]

theorem drumApproach_refDecided (p : RefPayload) (s : State) :
    drumApproach (refDecided p s) = drumApproach s := by
  obtain ⟨hplant, hgeometry, -, -, -, -, hpayout⟩ := refDecided_observed p s
  funext m distance limit
  simp only [drumApproach, hplant, hgeometry, hpayout, (refDecided_frame p s).1]

/-- The common terms of a REF: the gate as shaping begins, the alarm list and the sequencer as the REF
leaves them (R49, R50, R51). -/
theorem commonTerms_refDecided (p : RefPayload) (s : State) (m : Motion) :
    commonTerms (refDecided p s) m =
      (if s.shaper.gates.get m = .passing ∧ ¬ (m = .swing ∧ s.walk.state = .stepping
          ∧ (takeRef p s).walk.state = .walkIdle) then [] else [0])
        ++ ((if classListed (takeRef p s) .trip then [0] else [])
          ++ (listedNaming (takeRef p s) .stop m).map (fun _ => 0)
          ++ (listedNaming (takeRef p s) .restrict m).map (·.derate))
        ++ (if walkPermits (takeRef p s) m then [] else [0]) := by
  obtain ⟨hclass, hnaming, hpermits⟩ := takeRef_observed p s
  obtain ⟨-, hwalk, -, -⟩ := takeRef_shaped p s
  rw [hclass, hnaming, hpermits, hwalk, commonTerms, alarmTerms, walkTerms, gateTerms_eq]
  simp only [refDecided_gate]

/-- The terms that the active SWING table gives a direction, by the distance to a sector in that
direction (R75, R78 to R80, R82). -/
def swingTableTerms (s : State) (distance : Nat → Sector → Int) : List Nat :=
  match swingOf s with
  | none => [(plantOf s).blindCreep]
  | some table => [loadCurve table.points s.swing.heldLoad]
    ++ match s.swing.corrected with
      | none => [(plantOf s).blindCreep]
      | some a =>
        ((table.sectors.filter fun sec => sec.cls = .slow ∧ sec.contains a).map (·.limit))
          ++ ((blockingSectors s).filter fun sec => ¬ sec.contains a).map
            (fun sec => min 1000 ((distance a sec % 36000).toNat * table.gain / 100))
          ++ if ∃ sec ∈ blockingSectors s, sec.contains a then [table.creep] else []

theorem swingTerms_eq (s : State) (clockwise : Bool) : swingTerms s clockwise =
    zoneSwingTerm s :: walkSwingTerms s ++ swingTableTerms s (sectorDistance clockwise) := by
  unfold swingTerms swingTableTerms
  congr 1
  rcases swingOf s with _ | table
  · rfl
  rcases s.swing.corrected with _ | a
  · rfl
  simp [slowTerms, swingApproachTerms_eq, insideTerms, beq_eq_decide]

theorem swingTableTerms_refDecided (p : RefPayload) (s : State) :
    swingTableTerms (refDecided p s) = swingTableTerms s := by
  obtain ⟨hplant, -, hswing, -, -, hblocking, -⟩ := refDecided_observed p s
  funext distance
  simp only [swingTableTerms, hplant, hswing, hblocking, (refDecided_frame p s).2.1]

/-- The swing unit's limit of a direction: the least of the terms of R76. -/
theorem swingLimit_refDecided (p : RefPayload) (s : State) (clockwise : Bool) :
    swingLimit (refDecided p s) clockwise = minTerms
      ([((zoneInForce s).map (·.swingLimit)).getD (plantOf s).blindCreep]
        ++ (if (takeRef p s).walk.state = .walkIdle ∧ (takeRef p s).walk.cam = .clear then
            (walkOf s).toList.map (·.walkSwingLimit) else [])
        ++ swingTableTerms s (sectorDistance clockwise)) := by
  obtain ⟨hplant, -, -, hwalk, hzone, -, -⟩ := refDecided_observed p s
  rw [swingLimit, swingTerms_eq, swingTableTerms_refDecided, zoneSwingTerm_eq, walkSwingTerms_eq,
    hplant, hwalk, hzone, (takeRef_shaped p s).2.1]
  rfl

/-- Settles O25: each limit is computed from the terms as shaping begins, which are those of the state
before the REF but for the gates, the alarm list and the sequencer; the bounds follow term by term. -/
theorem limitsNeverExceedTerms : Obligations.LimitsNeverExceedTerms := by
  unfold Obligations.LimitsNeverExceedTerms
  intro f s hp hc least common blind record zone approach swing
  set p := readRef f
  have hlimits : (takeRef p s).shaper.limits = directionLimits (refDecided p s) :=
    congrArg Shaper.limits (takeRef_shaped p s).1
  obtain ⟨hplant, -, hswingOf, hwalkOf, hzoneOf, hblocking, -⟩ := refDecided_observed p s
  obtain ⟨-, hangle, -, -⟩ := refDecided_frame p s
  have hrecord : record = zoneInForce s := by
    rw [zoneInForce_eq]
    simp only [record]
    cases s.tables.active.zone <;> rfl
  have hcommon (m : Motion) : common (takeRef p s) m = commonTerms (refDecided p s) m :=
    (commonTerms_refDecided p s m).symm
  have hzone : zoneTerms (refDecided p s) = 
      { raise := zone (·.raise), lower := zone (·.lower), haulIn := zone (·.haulIn),
        payOut := zone (·.payOut) } := by
    simp only [zoneTerms_eq, hzoneOf, hplant, zone, hrecord, blind]
  have happroach : drumApproach (refDecided p s) = approach := drumApproach_refDecided p s
  have hswing (clockwise : Bool) : swing (takeRef p s) (sectorDistance clockwise)
      = swingLimit (refDecided p s) clockwise := by
    rw [swingLimit_refDecided, ← hrecord]
    rfl
  have hstep : (if (takeRef p s).walk.state = .stepping then
      (walkOf s).toList.map (·.propelLimit) else []) = propelTerms (refDecided p s) := by
    rw [propelTerms_eq, hwalkOf, (takeRef_shaped p s).2.1]
  have hderate {m : Motion} {a : Attrs} (h : a ∈ listedNaming (takeRef p s) .restrict m) :=
    directionLimits_le_common (derate_mem_commonTerms ((takeRef_observed p s).2.1 ▸ h))
  refine ⟨takeRef p s, exec_refTaken hp hc, ?_⟩
  simp only [hcommon, hlimits, hstep]
  refine ⟨?raise, ?lower, ?haulIn, ?payOut, ?cw, ?ccw, rfl, minTerms_le _, fun w hw ht => ?propel,
    fun a h => hderate h, fun a h => hderate h, fun a h => hderate h, fun a h => (hderate h).1,
    fun h => ?blind, fun table a sec ht ha hsec => ?sector⟩
  case cw => exact congrArg (fun x => minTerms (_ ++ [x])) (hswing true).symm
  case ccw => exact congrArg (fun x => minTerms (_ ++ [x])) (hswing false).symm
  case propel =>
    refine directionLimits_step_le ?_ ?_
    · rwa [← (takeRef_shaped p s).2.1]
    · rwa [walkOf, ← (takeRef_shaped p s).2.2.2]
  case blind =>
    rw [← hswingOf, ← hangle] at h
    rw [← hplant]
    exact ⟨directionLimits_swing_le (blindCreep_mem_swingTerms h true),
      directionLimits_swing_le (blindCreep_mem_swingTerms h false)⟩
  case sector =>
    rw [← hswingOf] at ht
    rw [← hangle] at ha
    rw [← hblocking] at hsec
    rw [← contains_iff, ← contains_eq_false_iff]
    exact ⟨fun hin => ⟨directionLimits_swing_le (creep_mem_swingTerms ht ha hsec hin true),
        directionLimits_swing_le (creep_mem_swingTerms ht ha hsec hin false)⟩,
      fun hout => ⟨directionLimits_swing_le_distance ht ha hsec hout true,
        directionLimits_swing_le_distance ht ha hsec hout false⟩⟩
  case raise | lower | haulIn | payOut =>
    simp only [directionLimits, hzone, approachTerms_eq, happroach]
    rfl

end Sys2Proof.Machine
end

section
/-! SUPPORT. The angle set and what follows it, and a STAT from SWING (R66, R68, R71, R73, R141). -/

namespace Sys2Proof.Machine

/-! ### The containing-sector set (R68, R71) -/

@[simp] theorem containingSet_length (sectors : List Sector) (angle : Option Nat) :
    (containingSet sectors angle).length = 16 := by simp [containingSet]

theorem containingSet_getD_iff {n : Nat} (hn : n < 16) (sectors : List Sector) (angle : Option Nat) :
    (containingSet sectors angle).getD n false = true ↔
      ∃ sec a, sectors[n]? = some sec ∧ angle = some a
        ∧ ((a : Int) - sec.start) % 36000 < ((sec.stop : Int) - sec.start) % 36000 := by
  rw [containingSet, List.getD_eq_getElem?_getD, List.getElem?_map, List.getElem?_range hn,
    Option.map_some, Option.getD_some]
  cases sectors[n]? <;> cases angle <;> simp [contains_iff]

/-! ### The angle set (R66, R68) -/

theorem setAngle_swing (raw : Option Nat) (s : State) : (setAngle raw s).swing
    = { s.swing with
        raw := raw, corrected := raw.map (correctedAngle (swingOrigin s))
        containing := containingSet (sectorsOf s) (raw.map (correctedAngle (swingOrigin s))) } := by
  simp [setAngle, handSectors, keepSectorSet, refreshSectors, sectorsOf, swingOf]

/-- The alarm unit keeps the set that is handed on (R141). -/
theorem setAngle_lastContaining (raw : Option Nat) (s : State) :
    (setAngle raw s).alarm.lastContaining = (setAngle raw s).swing.containing := by
  simp [setAngle, handSectors, keepSectorSet]

/-- Slot 7 holds whether the angle set lies in a blocking sector (R73). -/
theorem setAngle_slot_seven {raw : Option Nat} {s : State} (h : s.alarm.slots.length = 64) :
    (slotOf (setAngle raw s) 7).condition = sectorEntered (setAngle raw s) := by
  unfold setAngle handSectors
  rw [evaluateBound_internal (by decide)]
  exact (refreshSectors_slot_seven (by simpa using h)).trans
    (sectorEntered_congr (by simp) (by simp) (by simp)).symm

/-- A bound SECTOR source holds its sector's bit of the set that follows the angle (R141). -/
theorem setAngle_sectorSource {raw : Option Nat} {s : State} {k n : Nat} {d : AlarmDef}
    (hl : 12 + k < s.alarm.slots.length) (hd : (definitionsOf s)[k]? = some d)
    (hb : s.alarm.bound.getD k false = true) (hn : d.source = .sector n) :
    (slotOf (setAngle raw s) (12 + k)).condition = (setAngle raw s).swing.containing.getD n false := by
  unfold setAngle
  rw [handSectors_sectorSource (by simpa using hl) (by simpa [definitionsOf] using hd)
    (by simpa using hb) hn]
  simp

/-! ### A STAT from SWING -/

/-- The raw angle that a STAT gives: none while it is not valid, or not below a full turn (R66). -/
def rawAngle (p : StatPayload) : Option Nat :=
  if p.valid && p.position < 36000 then some p.position else none

theorem rawAngle_eq_some {p : StatPayload} (h : p.valid = true ∧ p.position < 36000) :
    rawAngle p = some p.position := by simp [rawAngle, h]

theorem rawAngle_eq_none {p : StatPayload} (h : ¬ (p.valid = true ∧ p.position < 36000)) :
    rawAngle p = none := by simpa [rawAngle] using h

/-- The state in which the angle of a STAT from SWING is set: the link's part is done. -/
abbrev swingBegun (f : List Byte) (s : State) : State := statBegun .swing (readStat f) s

/-- What a STAT from SWING leaves in the end, by what setting the angle leaves: the drive sources are
evaluated and the frame is passed on, and no more. -/
theorem takeStat_swing (f : List Byte) (s : State) :
    let y := setAngle (rawAngle (readStat f)) (swingBegun f s)
    (takeStat .swing f s).swing = y.swing ∧ (takeStat .swing f s).position = y.position
      ∧ (takeStat .swing f s).walk = y.walk ∧ (takeStat .swing f s).tables = y.tables
      ∧ (takeStat .swing f s).alarm.lastContaining = y.alarm.lastContaining
      ∧ ∀ n, n < 12 → slotOf (takeStat .swing f s) n = slotOf y n := by
  intro y
  have hy : takeStat .swing f s = offerCab { kind := .stat .swing, bytes := f }
      (evaluateBound (driveSource .swing (readStat f)) y) := rfl
  rw [hy]
  refine ⟨by simp, by simp, by simp, by simp, by simp, fun n hn => ?_⟩
  rw [slotOf_offerCab, evaluateBound_internal hn]

/-- A STAT from SWING sets the angle, and with it the containing-sector set, and no more of the swing unit. -/
theorem takeStat_swing_unit (f : List Byte) (s : State) : (takeStat .swing f s).swing
    = { s.swing with
        raw := rawAngle (readStat f)
        corrected := (rawAngle (readStat f)).map (correctedAngle (swingOrigin s))
        containing := containingSet (sectorsOf s)
          ((rawAngle (readStat f)).map (correctedAngle (swingOrigin s))) } := by
  rw [(takeStat_swing f s).1, setAngle_swing]
  simp [sectorsOf, swingOrigin, swingOf]

theorem blockingSectors_congr {s t : State} (h1 : t.swing.clear = s.swing.clear)
    (h2 : t.tables = s.tables) : blockingSectors t = blockingSectors s := by
  unfold blockingSectors sectorBlocks sectorsOf swingOf
  rw [h1, h2]

theorem takeStat_swing_slot_seven {f : List Byte} {s : State} (hl : s.alarm.slots.length = 64) :
    (slotOf (takeStat .swing f s) 7).condition = sectorEntered (takeStat .swing f s) := by
  obtain ⟨hswing, -, -, htables, -, hslot⟩ := takeStat_swing f s
  rw [hslot 7 (by decide), setAngle_slot_seven (by simpa using hl)]
  exact (sectorEntered_congr (by rw [hswing]) (by rw [hswing]) htables).symm

/-- No drive source is a SECTOR source: the evaluation of R140 leaves the bit that R141 handed on. -/
theorem takeStat_swing_sectorSource {f : List Byte} {s : State} {k n : Nat} {d : AlarmDef}
    (hl : 12 + k < s.alarm.slots.length) (hd : (definitionsOf s)[k]? = some d)
    (hb : s.alarm.bound.getD k false = true) (hn : d.source = .sector n) :
    (slotOf (takeStat .swing f s) (12 + k)).condition
      = (takeStat .swing f s).swing.containing.getD n false := by
  set y := setAngle (rawAngle (readStat f)) (swingBegun f s) with hy
  have hdefs : (definitionsOf y)[k]? = some d := by simpa [definitionsOf, hy] using hd
  have hbit : (slotOf y (12 + k)).condition = y.swing.containing.getD n false :=
    setAngle_sectorSource (by simpa using hl) (by simpa [definitionsOf] using hd) (by simpa using hb) hn
  calc (slotOf (takeStat .swing f s) (12 + k)).condition
      = (slotOf (evaluateBound (driveSource .swing (readStat f)) y) (12 + k)).condition :=
        congrArg Slot.condition (slotOf_offerCab _ _ _)
    _ = (slotOf y (12 + k)).condition := by
        rw [evaluateBound_condition _ (by simpa [hy] using hl), hdefs]
        simp [driveSource, hn]
    _ = y.swing.containing.getD n false := hbit
    _ = (takeStat .swing f s).swing.containing.getD n false := by rw [(takeStat_swing f s).1]

/-- Settles O26. -/
theorem swingStatSetsAngle : Obligations.SwingStatSetsAngle := by
  unfold Obligations.SwingStatSetsAngle
  intro f s hp hc hl raw valid
  have hunit := takeStat_swing_unit f s
  have hcorrected := congrArg SwingUnit.corrected hunit
  have hcontaining := congrArg SwingUnit.containing hunit
  have hclear : (takeStat .swing f s).swing.clear = s.swing.clear := by rw [hunit]
  obtain ⟨hswing, hposition, hwalk, htables, hkept, -⟩ := takeStat_swing f s
  refine ⟨takeStat .swing f s, exec_statTaken hp hc, fun h => ?valid, fun h => ?invalid, ?length,
    fun n hn => ?contains, ?seven, ?kept, fun k d n hk hd hb hn => ?source, hclear,
    ?load, ?position, ?walk⟩
  case valid =>
    have hraw : rawAngle (readStat f) = some raw := rawAngle_eq_some h
    rw [hunit, hraw]
    exact ⟨rfl, rfl⟩
  case invalid =>
    have hraw : rawAngle (readStat f) = none := rawAngle_eq_none h
    rw [hunit, hraw]
    exact ⟨rfl, rfl⟩
  case length => rw [hcontaining, containingSet_length]
  case contains =>
    rw [hcontaining, hcorrected]
    exact containingSet_getD_iff hn _ _
  case seven =>
    rw [takeStat_swing_slot_seven hl, sectorEntered_iff,
      blockingSectors_congr hclear (htables.trans (by simp))]
  case kept => rw [hkept, hswing, setAngle_lastContaining]
  case source => exact takeStat_swing_sectorSource (by omega) hd hb hn
  case load => rw [hunit]
  case position => simp [hposition]
  case walk => simp [hwalk]

end Sys2Proof.Machine
end

section
/-! SUPPORT. The load curve: its value up to the first point, past a segment and within one (R75). -/

namespace Sys2Proof.Machine

/-- The limit between two neighbouring points (R75): floor division, toward the smaller limit. -/
def segmentValue (p q : Nat × Nat) (x : Nat) : Int :=
  p.2 + ((x : Int) - p.1) * ((q.2 : Int) - p.2) / ((q.1 : Int) - p.1)

/-- What bounds both ends of a segment from below bounds its values. -/
theorem le_segmentValue {p q : Nat × Nat} {x : Nat} {lo : Int} (hp : p.1 ≤ x) (hq : x < q.1)
    (hlop : lo ≤ p.2) (hloq : lo ≤ q.2) : lo ≤ segmentValue p q x := by
  have hspan : (0 : Int) < (q.1 : Int) - p.1 := by omega
  have hrise : lo - p.2 ≤ ((x : Int) - p.1) * ((q.2 : Int) - p.2) / ((q.1 : Int) - p.1) := by
    rw [Int.le_ediv_iff_mul_le hspan]
    calc (lo - p.2) * ((q.1 : Int) - p.1)
        ≤ (lo - p.2) * ((x : Int) - p.1) := mul_le_mul_of_nonpos_left (by omega) (by omega)
      _ ≤ ((q.2 : Int) - p.2) * ((x : Int) - p.1) :=
        mul_le_mul_of_nonneg_right (by omega) (by omega)
      _ = ((x : Int) - p.1) * ((q.2 : Int) - p.2) := mul_comm _ _
  unfold segmentValue
  omega

/-- What bounds both ends of a segment from above bounds its values. -/
theorem segmentValue_le {p q : Nat × Nat} {x : Nat} {hi : Int} (hp : p.1 ≤ x) (hq : x < q.1)
    (hhip : p.2 ≤ hi) (hhiq : q.2 ≤ hi) : segmentValue p q x ≤ hi := by
  have hspan : (0 : Int) < (q.1 : Int) - p.1 := by omega
  have hrise : ((x : Int) - p.1) * ((q.2 : Int) - p.2) / ((q.1 : Int) - p.1) ≤ hi - p.2 := by
    apply Int.ediv_le_of_le_mul hspan
    calc ((x : Int) - p.1) * ((q.2 : Int) - p.2)
        ≤ ((x : Int) - p.1) * (hi - p.2) := mul_le_mul_of_nonneg_left (by omega) (by omega)
      _ ≤ ((q.1 : Int) - p.1) * (hi - p.2) := mul_le_mul_of_nonneg_right (by omega) (by omega)
      _ = (hi - p.2) * ((q.1 : Int) - p.1) := mul_comm _ _
  unfold segmentValue
  omega

theorem loadCurve_of_le_first {p : Nat × Nat} {rest : List (Nat × Nat)} {x : Nat} (h : x ≤ p.1) :
    loadCurve (p :: rest) x = p.2 := by
  cases rest with
  | nil => rfl
  | cons q rest => simp [loadCurve, h]

/-- Within its first segment the curve has the segment's value. At the segment's first point the curve takes
the point's own limit, which is the value there. -/
theorem loadCurve_of_first_segment {p q : Nat × Nat} {rest : List (Nat × Nat)} {x : Nat} (hp : p.1 ≤ x)
    (hq : x < q.1) : (loadCurve (p :: q :: rest) x : Int) = segmentValue p q x := by
  rcases hp.eq_or_lt with rfl | hlt
  · rw [loadCurve_of_le_first le_rfl]
    simp [segmentValue]
  · have hnonneg : 0 ≤ segmentValue p q x := le_segmentValue hp hq (by omega) (by omega)
    rw [loadCurve, if_neg (by omega), if_pos hq]
    exact Int.toNat_of_nonneg hnonneg

theorem loadCurve_past_first_segment {p q : Nat × Nat} {rest : List (Nat × Nat)} {x : Nat}
    (hpq : p.1 < q.1) (hq : q.1 ≤ x) : loadCurve (p :: q :: rest) x = loadCurve (q :: rest) x := by
  rw [loadCurve, if_neg (by omega), if_neg (by omega)]

/-- The points before one at or below x do not count. -/
theorem loadCurve_append {front rest : List (Nat × Nat)} {p : Nat × Nat} {x : Nat}
    (hs : (front ++ p :: rest).Pairwise fun p q => p.1 < q.1) (hp : p.1 ≤ x) :
    loadCurve (front ++ p :: rest) x = loadCurve (p :: rest) x := by
  induction front with
  | nil => rfl
  | cons a front ih =>
    obtain ⟨ha, hs⟩ := List.pairwise_cons.1 hs
    rw [← ih hs]
    cases front with
    | nil => exact loadCurve_past_first_segment (ha p (by simp)) hp
    | cons b front =>
      have hbp : b.1 < p.1 := (List.pairwise_cons.1 hs).1 p (by simp)
      exact loadCurve_past_first_segment (ha b (by simp)) (by omega)

/-- Limits that are at most 1000 give a curve that is. -/
theorem loadCurve_le_1000 {points : List (Nat × Nat)} (h : ∀ p ∈ points, p.2 ≤ 1000) (x : Nat) :
    loadCurve points x ≤ 1000 := by
  induction points with
  | nil => exact le_rfl
  | cons p rest ih =>
    obtain ⟨hp, hrest⟩ := List.forall_mem_cons.1 h
    rcases le_or_gt x p.1 with hx | hx
    · exact (loadCurve_of_le_first hx).trans_le hp
    cases rest with
    | nil => exact hp
    | cons q rest =>
      have hq : q.2 ≤ 1000 := hrest q (by simp)
      by_cases hseg : x < q.1
      · have hle : segmentValue p q x ≤ 1000 :=
          segmentValue_le hx.le hseg (by exact_mod_cast hp) (by exact_mod_cast hq)
        rw [← loadCurve_of_first_segment (rest := rest) hx.le hseg] at hle
        exact_mod_cast hle
      · rw [loadCurve, if_neg (by omega), if_neg hseg]
        exact ih hrest

/-- Settles O27. -/
theorem loadCurveFollowsItsPoints : Obligations.LoadCurveFollowsItsPoints := by
  unfold Obligations.LoadCurveFollowsItsPoints
  intro points hs hy
  refine ⟨loadCurve_le_1000 hy, ?first, ?last, ?segment⟩
  case first =>
    rintro x p rest rfl hx
    exact loadCurve_of_le_first hx
  case last =>
    intro x p hlast hx
    obtain ⟨front, rfl⟩ := List.getLast?_eq_some_iff.1 hlast
    rw [loadCurve_append hs hx]
    rfl
  case segment =>
    rintro x p q front back rfl hp hq
    rw [loadCurve_append hs hp]
    exact loadCurve_of_first_segment hp hq

end Sys2Proof.Machine
end

section
/-! SUPPORT. What the live records desire of the channels that the walk sequencer commands, and which
operations leave it as it is (R92, R128, R148). -/

namespace Sys2Proof.Machine

/-! ### Desired outputs (R128) -/

/-- The desired outputs of the live records, in table order. -/
def desires (s : State) : List (PerChannel (Option Bool)) := s.line.records.map (·.desired)

theorem desiredOf_eq (s : State) (b : Binding) :
    desiredOf s b = ((desires s)[b.station]?).bind (·.get b.channel) := by
  unfold desiredOf recordOf desires
  rw [List.getElem?_map]
  cases s.line.records[b.station]? <;> rfl

theorem desires_congr {s t : State} (h : t.line.records = s.line.records) : desires t = desires s := by
  rw [desires, h, desires]

theorem PerChannel.get_set {α : Type} (p : PerChannel α) (c c' : Channel) (x : α) :
    (p.set c x).get c' = if c' = c then x else p.get c' := by
  cases c <;> cases c' <;> rfl

theorem desires_setDesired (b : Binding) (v : Bool) (s : State) :
    desires (setDesired b v s) = (desires s).modify b.station (·.set b.channel (some v)) := by
  apply List.ext_getElem?
  intro n
  simp only [desires, setDesired, updateRecord, State.withLine_line, List.getElem?_map,
    List.getElem?_modify]
  split <;> cases s.line.records[n]? <;> rfl

theorem desiredOf_setDesired_same {b : Binding} {s : State} (h : b.station < s.line.records.length)
    (v : Bool) : desiredOf (setDesired b v s) b = some v := by
  have : b.station < (desires s).length := by simpa [desires] using h
  simp [desiredOf_eq, desires_setDesired, List.getElem?_eq_getElem this, PerChannel.get_set]

theorem desiredOf_setDesired_other {b b' : Binding} (h : b' ≠ b) (v : Bool) (s : State) :
    desiredOf (setDesired b v s) b' = desiredOf s b' := by
  simp only [desiredOf_eq, desires_setDesired, List.getElem?_modify]
  by_cases hs : b.station = b'.station
  · have hc : b'.channel ≠ b.channel := fun hc => h (by cases b; cases b'; simp_all)
    cases (desires s)[b'.station]? <;> simp [hs, PerChannel.get_set, hc]
  · simp [hs]

/-- A change of a live record that leaves its desired outputs. -/
theorem desires_updateRecord {f : LiveRecord → LiveRecord} (hf : ∀ r, (f r).desired = r.desired)
    (n : Nat) (s : State) : desires (updateRecord n f s) = desires s := by
  apply List.ext_getElem?
  intro m
  simp only [desires, updateRecord, State.withLine_line, List.getElem?_map, List.getElem?_modify]
  split <;> cases s.line.records[m]? <;> simp [hf]

/-! ### Operations that leave the sequencer's channels -/

/-- What the walk sequencer asks of its channels stands between two states: the same table is usable, and
each channel that it binds a command to is desired as before. -/
def KeepsCommands (s t : State) : Prop :=
  usableWalk t = usableWalk s ∧ ∀ b, walkOwns s b = true → desiredOf t b = desiredOf s b

theorem walkOwns_congr {s t : State} (h : usableWalk t = usableWalk s) : walkOwns t = walkOwns s := by
  funext b
  rw [walkOwns, h, walkOwns]

theorem KeepsCommands.refl (s : State) : KeepsCommands s s := ⟨rfl, fun _ _ => rfl⟩

theorem KeepsCommands.trans {s t u : State} (h : KeepsCommands s t) (h' : KeepsCommands t u) :
    KeepsCommands s u :=
  ⟨h'.1.trans h.1, fun b hb =>
    (h'.2 b (by rwa [walkOwns_congr h.1])).trans (h.2 b hb)⟩

/-- An operation that sets no desired output. -/
theorem keepsCommands_of_desires {s t : State} (hu : t.walk.usable = s.walk.usable)
    (ht : t.tables.active.walk = s.tables.active.walk) (hd : desires t = desires s) :
    KeepsCommands s t :=
  ⟨usableWalk_congr hu ht, fun b _ => by rw [desiredOf_eq, hd, desiredOf_eq]⟩

/-- An operation that reaches no live record. -/
theorem keepsCommands_of_records {s t : State} (hu : t.walk.usable = s.walk.usable)
    (ht : t.tables.active.walk = s.tables.active.walk) (hl : t.line.records = s.line.records) :
    KeepsCommands s t :=
  keepsCommands_of_desires hu ht (desires_congr hl)

theorem keepsCommands_closeGates (which : PerMotion Bool) (s : State) :
    KeepsCommands s (closeGates which s) := keepsCommands_of_records rfl rfl rfl

theorem keepsCommands_withAlarm (x : AlarmUnit) (s : State) : KeepsCommands s (s.withAlarm x) :=
  keepsCommands_of_records rfl rfl rfl

theorem keepsCommands_withSwing (x : SwingUnit) (s : State) : KeepsCommands s (s.withSwing x) :=
  keepsCommands_of_records rfl rfl rfl

theorem keepsCommands_withPosition (x : PositionUnit) (s : State) :
    KeepsCommands s (s.withPosition x) := keepsCommands_of_records rfl rfl rfl

theorem keepsCommands_setDesired {b : Binding} {s : State} (h : walkOwns s b = false) (v : Bool) :
    KeepsCommands s (setDesired b v s) := by
  refine ⟨usableWalk_congr (by simp) (by simp), fun b' hb' => desiredOf_setDesired_other ?_ v s⟩
  rintro rfl
  simp [h] at hb'

theorem keepsCommands_ite {s t u : State} {c : Prop} [Decidable c] (ht : c → KeepsCommands s t)
    (hu : KeepsCommands s u) : KeepsCommands s (if c then t else u) := by
  split
  · exact ht ‹_›
  · exact hu

theorem keepsCommands_foldl {α : Type} {g : State → α → State} (h : ∀ x a, KeepsCommands x (g x a))
    (l : List α) (s : State) : KeepsCommands s (l.foldl g s) :=
  foldl_keeps (KeepsCommands s) g (fun x a hx => hx.trans (h x a)) l s (.refl s)

/-- The alarm unit sets no channel that the walk sequencer owns (R148). -/
theorem keepsCommands_updateOutput (o : Option Binding) (before : Bool) (s : State) :
    KeepsCommands s (updateOutput o before s) := by
  unfold updateOutput
  split
  · exact .refl s
  · refine keepsCommands_ite (fun h => keepsCommands_setDesired ?_ _) (.refl s)
    simp only [Bool.and_eq_true, Bool.not_eq_true'] at h
    exact h.2

theorem keepsCommands_raiseSlot (n : Nat) (a : Attrs) (s : State) :
    KeepsCommands s (raiseSlot n a s) := by
  refine KeepsCommands.trans (keepsCommands_of_records ?_ ?_ ?_) (keepsCommands_updateOutput _ _ _)
  all_goals (repeat' split) <;> simp

theorem keepsCommands_removeEntry (n : Nat) (a : Attrs) (s : State) :
    KeepsCommands s (removeEntry n a s) :=
  KeepsCommands.trans (keepsCommands_of_records (by simp) (by simp) (by simp))
    (keepsCommands_updateOutput _ _ _)

theorem keepsCommands_returnEntry (n : Nat) (a : Attrs) (e : Entry) (s : State) :
    KeepsCommands s (returnEntry n a e s) := by
  have hlog : KeepsCommands s (logEvent .return' n s) :=
    keepsCommands_of_records (by simp) (by simp) (by simp)
  unfold returnEntry
  split
  · split
    · exact hlog.trans (keepsCommands_of_records (by simp) (by simp) (by simp))
    · exact hlog.trans (keepsCommands_removeEntry n a _)
  · exact hlog.trans (keepsCommands_removeEntry n a _)
  · exact .refl s

theorem keepsCommands_setSlot (n : Nat) (x : Slot) (s : State) : KeepsCommands s (setSlot n x s) :=
  keepsCommands_of_records (by simp) (by simp) (by simp)

theorem keepsCommands_evaluate (n : Nat) (v : Bool) (s : State) : KeepsCommands s (evaluate n v s) := by
  have hstored := keepsCommands_setSlot n { slotOf s n with condition := v } s
  unfold evaluate
  split
  · exact .refl s
  rename_i a ha
  dsimp only
  split
  · split
    · exact hstored.trans (keepsCommands_of_records (by simp) (by simp) (by simp))
    · exact hstored.trans (keepsCommands_returnEntry _ _ _ _)
  · split
    · split
      · exact hstored
      · split
        · exact hstored.trans (keepsCommands_raiseSlot n a _)
        · exact hstored.trans (keepsCommands_setSlot _ _ _)
    · exact hstored.trans (keepsCommands_setSlot _ _ _)

theorem keepsCommands_removeListed (n : Nat) (s : State) : KeepsCommands s (removeListed n s) :=
  keepsCommands_removeEntry _ _ _

theorem keepsCommands_resetSlot (n : Nat) (s : State) : KeepsCommands s (resetSlot n s) :=
  (keepsCommands_ite (fun _ => keepsCommands_removeListed n s) (.refl s)).trans
    (keepsCommands_setSlot _ _ _)

theorem keepsCommands_evaluateBound (value : AlarmDef → Bool → Option Bool) (s : State) :
    KeepsCommands s (evaluateBound value s) := by
  refine keepsCommands_foldl (fun x d => keepsCommands_ite (fun _ => ?_) (.refl x)) _ s
  split
  · exact keepsCommands_evaluate _ _ x
  · exact .refl x

theorem keepsCommands_settleBinding (s : State) : KeepsCommands s (settleBinding s) :=
  (keepsCommands_foldl (fun x _ => keepsCommands_ite (fun _ => keepsCommands_resetSlot _ x) (.refl x))
    _ s).trans (keepsCommands_withAlarm _ _)

theorem keepsCommands_settleAlarms (s : State) : KeepsCommands s (settleAlarms s) :=
  (keepsCommands_settleBinding s).trans (keepsCommands_evaluate _ _ _)

theorem keepsCommands_dropSlots (which : Nat → Bool) (s : State) :
    KeepsCommands s (dropSlots which s) :=
  (keepsCommands_foldl (fun x n => keepsCommands_removeListed n x) _ s).trans
    (keepsCommands_withAlarm _ _)

/-- Setting a list of channels, none of which the walk sequencer owns. -/
theorem keepsCommands_setAll {v : State → Binding → Bool} (l : List Binding) (s : State)
    (h : ∀ b ∈ l, walkOwns s b = false) :
    KeepsCommands s (l.foldl (fun acc b => setDesired b (v acc b) acc) s) := by
  refine List.foldlRecOn l _ (.refl s) fun x hx b hb => hx.trans (keepsCommands_setDesired ?_ _)
  rw [walkOwns_congr hx.1]
  exact h b hb

theorem walkOwns_of_ownedOutputs {s : State} {b : Binding} (h : b ∈ ownedOutputs s) :
    walkOwns s b = false := by
  simpa using (List.mem_filter.1 h).2

theorem keepsCommands_setOwned (s : State) : KeepsCommands s (setOwned s) :=
  keepsCommands_setAll _ s fun _ => walkOwns_of_ownedOutputs

theorem keepsCommands_restoreOwned (s : State) : KeepsCommands s (restoreOwned s) :=
  keepsCommands_setAll _ s fun _ hb => walkOwns_of_ownedOutputs (List.mem_filter.1 hb).1

/-! ### The units (R33, R68, R83, R110) -/

theorem keepsCommands_refreshSectors (s : State) : KeepsCommands s (refreshSectors s) :=
  (keepsCommands_withSwing _ s).trans (keepsCommands_evaluate _ _ _)

theorem keepsCommands_handSectors (s : State) : KeepsCommands s (handSectors s) :=
  (keepsCommands_withAlarm _ s).trans (keepsCommands_evaluateBound _ _)

theorem keepsCommands_setAngle (raw : Option Nat) (s : State) :
    KeepsCommands s (setAngle raw s) :=
  (keepsCommands_withSwing { s.swing with
    raw := raw, corrected := raw.map (correctedAngle (swingOrigin s)) } s).trans
    ((keepsCommands_refreshSectors _).trans (keepsCommands_handSectors _))

theorem keepsCommands_updateClearance (p : Option HandedPosition) (s : State) :
    KeepsCommands s (updateClearance p s) := by
  unfold updateClearance
  dsimp only
  split
  · exact .refl s
  · exact (keepsCommands_withSwing _ s).trans (keepsCommands_refreshSectors _)

theorem keepsCommands_handPosition (s : State) : KeepsCommands s (handPosition s) := by
  have hkept : KeepsCommands s (positionKept s) :=
    (keepsCommands_updateClearance (presentPosition s) s).trans (keepsCommands_withAlarm _ _)
  exact ((hkept.trans (keepsCommands_evaluateBound _ _)).trans (keepsCommands_evaluate _ _ _)).trans
    (keepsCommands_evaluate _ _ _)

theorem keepsCommands_makeAttempt (s : State) : KeepsCommands s (makeAttempt s) := by
  unfold makeAttempt
  split
  · exact .refl s
  · exact (keepsCommands_withPosition _ s).trans (keepsCommands_handPosition _)

theorem keepsCommands_deliverPayout (m : Motion) (p : StatPayload) (s : State) :
    KeepsCommands s (deliverPayout m p s) :=
  (keepsCommands_of_records (t := writePayout m p s) (by simp) (by simp) (by simp)).trans
    ((keepsCommands_evaluate _ _ _).trans (keepsCommands_makeAttempt _))

/-! ### The station line (R115, R120, R123) -/

@[simp] theorem desires_charge (n : Nat) (ok : Bool) (s : State) : desires (charge n ok s) = desires s := by
  have hrecord : ∀ r, (chargeRecord ok r).desired = r.desired := fun r => by
    unfold chargeRecord
    (repeat' split) <;> rfl
  unfold charge
  split
  · rfl
  · dsimp only
    split
    · exact desires_updateRecord hrecord n s
    · exact (desires_congr (by rw [evaluate_internal_line _ _ (by decide)])).trans
        (desires_updateRecord hrecord n s)

@[simp] theorem desires_setFlight (f : Flight) (s : State) : desires (setFlight f s) = desires s := rfl

@[simp] theorem desires_nextTransaction (r : Round) (n : Nat) (rest : List Job) (s : State) :
    desires (nextTransaction r n rest s) = desires s := desires_congr (by simp)

theorem desires_completeWrite (x : PickedAnswer) (r : Round) (n : Nat) (v : PerChannel Bool)
    (rest : List Job) (s : State) : desires (completeWrite x r n v rest s) = desires s := by
  unfold completeWrite
  split
  · split <;> simp [desires_updateRecord]
  · simp [desires_updateRecord]

theorem desires_completeCondition (x : ConditionAnswer) (r : Round) (n : Nat) (rest : List Job)
    (s : State) : desires (completeCondition x r n rest s) = desires s := by
  unfold completeCondition
  split <;> simp [desires_updateRecord]

theorem desires_completeRead (x : PickedAnswer) (r : Round) (n : Nat) (rest : List Job) (s : State) :
    desires (completeRead x r n rest s) = desires s := by
  unfold completeRead
  split
  · dsimp only
    split <;> simp [desires_updateRecord, recordStatus]
  · simp

theorem desires_completion {record : State → State} (h : ∀ s, desires (record s) = desires s)
    (ofKind : Transaction → Bool) (s : State) : desires (completion ofKind record s) = desires s := by
  unfold completion
  split
  · exact h s
  · split <;> rfl

theorem desires_writeOutputsDone (x : PickedAnswer) (s : State) :
    desires (writeOutputsDone x s) = desires s := by
  refine desires_completion (fun s => ?_) _ s
  unfold writeOutputsRecorded
  split
  · split
    · exact desires_completeWrite _ _ _ _ _ s
    · rfl
  · rfl
  · rfl

theorem desires_writeConditionDone (x : ConditionAnswer) (s : State) :
    desires (writeConditionDone x s) = desires s := by
  refine desires_completion (fun s => ?_) _ s
  unfold writeConditionRecorded
  split
  · split
    · exact desires_completeCondition _ _ _ _ s
    · rfl
  · rfl
  · rfl

theorem desires_readClearingDone (x : PickedAnswer) (s : State) :
    desires (readClearingDone x s) = desires s := by
  refine desires_completion (fun s => ?_) _ s
  unfold readClearingRecorded
  split
  · split
    · exact desires_completeRead _ _ _ _ s
    · rfl
  · rfl
  · rfl

/-- A round takes the desired outputs as it finds them (R123). -/
theorem desires_startRound (s : State) : desires (startRound s) = desires s := by
  have htaken : (s.line.records.map fun r =>
      if (writeEntry r).isSome then { r with outputPending := false } else r).map (·.desired)
        = desires s := by
    rw [List.map_map]
    refine List.map_congr_left fun r _ => ?_
    dsimp only [Function.comp]
    split <;> rfl
  simp only [startRound]
  split
  · exact desires_congr (by simp)
  · split
    · exact (desires_congr (beginSweep_frame _ _).2.2.2.2.2.2.2.2.2.2.2.1).trans htaken
    · exact htaken

end Sys2Proof.Machine
end

section
/-! SUPPORT. Every command keeps the two command channels desired as the walk sequencer's state requires
(R88, R92, R110, R111). -/

namespace Sys2Proof.Machine

/-! ### What the invariant reads -/

theorem stationCount_congr {s t : State} (h : t.tables.active.station = s.tables.active.station) :
    stationCount t = stationCount s := by
  simp [stationCount, stationOf, h]

theorem walkUsable_congr {s t : State} (hw : t.tables.active.walk = s.tables.active.walk)
    (hs : t.tables.active.station = s.tables.active.station) : walkUsable t = walkUsable s := by
  simp [walkUsable, walkOf, stationOf, hw, hs]

theorem usableWalk_eq_some {s : State} {w : WalkTable} (h : usableWalk s = some w) :
    s.walk.usable = true ∧ walkOf s = some w := by
  unfold usableWalk at h
  split at h
  · exact ⟨‹_›, h⟩
  · cases h

/-- The bindings of a usable table name enrolled stations (R88). -/
theorem station_lt_of_walkUsable {s : State} {w : WalkTable} (hu : walkUsable s = true)
    (hw : walkOf s = some w) {b : Binding} (hb : b ∈ walkBindings w) : b.station < stationCount s := by
  unfold walkUsable at hu
  rw [hw] at hu
  unfold stationCount
  cases hs : stationOf s with
  | none => simp [hs] at hu
  | some t =>
    simp only [hs, List.all_eq_true, decide_eq_true_eq] at hu
    exact hu b hb

theorem walkOwns_commands {s : State} {w : WalkTable} (h : usableWalk s = some w) :
    walkOwns s w.digCommand = true ∧ walkOwns s w.walkCommand = true := by
  simp [walkOwns, h]

/-- The invariant stands where the sequencer keeps its state, its table and what it asks of its channels. -/
theorem CommandsInv.of_kept {s t : State} (h : CommandsInv s) (hk : KeepsCommands s t)
    (hx : t.walk.state = s.walk.state) (hy : t.walk.sub = s.walk.sub)
    (hu : t.walk.usable = s.walk.usable) (hw : t.tables.active.walk = s.tables.active.walk)
    (hs : t.tables.active.station = s.tables.active.station)
    (hl : t.line.records.length = s.line.records.length) : CommandsInv t := by
  obtain ⟨hlen, husable, hfit⟩ := h
  refine ⟨by rw [hl, hlen, stationCount_congr hs], by rwa [hu, walkUsable_congr hw hs], fun w h => ?_⟩
  rw [hk.1] at h
  obtain ⟨hdig, hwalk⟩ := walkOwns_commands h
  unfold CommandsFit
  rw [hx, hy, hk.2 _ hdig, hk.2 _ hwalk]
  exact hfit w h

theorem CommandsInv.of_same {s t : State} (h : CommandsInv s) (hk : KeepsCommands s t)
    (hw : t.walk = s.walk) (ht : t.tables = s.tables)
    (hl : t.line.records.length = s.line.records.length) : CommandsInv t :=
  h.of_kept hk (by rw [hw]) (by rw [hw]) (by rw [hw]) (by rw [ht]) (by rw [ht]) hl

/-- An operation that reaches neither the sequencer nor a live record. -/
theorem CommandsInv.of_records {s t : State} (h : CommandsInv s) (hw : t.walk = s.walk)
    (ht : t.tables = s.tables) (hl : t.line.records = s.line.records) : CommandsInv t :=
  h.of_same (keepsCommands_of_records (by rw [hw]) (by rw [ht]) hl) hw ht (by rw [hl])

/-- An operation that sets no desired output. -/
theorem CommandsInv.of_desires {s t : State} (h : CommandsInv s) (hw : t.walk = s.walk)
    (ht : t.tables = s.tables) (hd : desires t = desires s) : CommandsInv t :=
  h.of_same (keepsCommands_of_desires (by rw [hw]) (by rw [ht]) hd) hw ht
    (by simpa [desires] using congrArg List.length hd)

/-! ### Setting the commands (R87, R92) -/

/-- The active table binds the two commands to different channels (R87). -/
def CommandsApart (s : State) : Prop := ∀ w, walkOf s = some w → w.digCommand ≠ w.walkCommand

theorem CommandsApart.congr {s t : State} (h : CommandsApart s)
    (ht : t.tables.active.walk = s.tables.active.walk) : CommandsApart t := by
  unfold CommandsApart walkOf
  rw [ht]
  exact h

theorem channelOf_injective {m n : Nat} (hm : m ≤ 1) (hn : n ≤ 1) (h : channelOf m = channelOf n) :
    m = n := by
  interval_cases m <;> interval_cases n <;> simp_all [channelOf]

/-- The binding checks of R87 see to it: the second binding differs from the first. -/
theorem readWalk_commands_ne {image : Image} (h : imageValid .walk image = true) :
    (readWalk image).digCommand ≠ (readWalk image).walkCommand := by
  have hfirst : validateWalk image = none := by
    simp only [imageValid, validateContent, Bool.and_eq_true] at h
    simpa using h.2
  have hall (c : FieldCheck) (hc : c ∈ (List.range 4).flatMap (bindingChecks image)) : c.2 = true := by
    unfold validateWalk firstFailure at hfirst
    rw [Option.map_eq_none_iff, List.find?_eq_none] at hfirst
    simpa using hfirst c (List.mem_append_right _ hc)
  have hmem (k : Nat) (hk : k < 4) (c : FieldCheck) (hc : c ∈ bindingChecks image k) : c.2 = true :=
    hall c (List.mem_flatMap.2 ⟨k, List.mem_range.2 hk, hc⟩)
  have hdig : u8At image 21 ≤ 1 := by
    simpa using hmem 0 (by decide) (21, _) (List.mem_cons_of_mem _ (List.mem_singleton.2 rfl))
  have hwalk : u8At image 23 ≤ 1 := by
    simpa using hmem 1 (by decide) (23, _) (List.mem_cons_of_mem _ (List.mem_singleton.2 rfl))
  have hne := hmem 1 (by decide) (22, _) (List.mem_cons_self ..)
  intro he
  obtain ⟨hs, hc⟩ := (Binding.mk.injEq ..).mp he
  have hcode : u8At image 21 = u8At image 23 := channelOf_injective hdig hwalk hc
  simp_all

theorem commandsApart_of_images {s : State} (h : ImagesInv s) : CommandsApart s := by
  intro w hw
  obtain ⟨image, himage, rfl⟩ := Option.map_eq_some_iff.1 hw
  exact readWalk_commands_ne (h.1 .walk image himage)

/-- The commands are set as the sequencer's state requires (R92). -/
theorem desiredOf_setCommands {s : State} {w : WalkTable} {dig walk : Bool}
    (hu : usableWalk s = some w) (hc : desiredCommands s.walk.state s.walk.sub = some (dig, walk))
    (hd : w.digCommand.station < s.line.records.length)
    (hw : w.walkCommand.station < s.line.records.length)
    (hne : w.digCommand ≠ w.walkCommand ∨ dig = walk) :
    desiredOf (setCommands s) w.digCommand = some dig
      ∧ desiredOf (setCommands s) w.walkCommand = some walk := by
  have hset : setCommands s = setDesired w.walkCommand walk (setDesired w.digCommand dig s) := by
    simp [setCommands, hu, hc]
  rw [hset]
  refine ⟨?_, desiredOf_setDesired_same (by simpa using hw) walk⟩
  by_cases he : w.digCommand = w.walkCommand
  · rw [he, hne.resolve_left (absurd he), desiredOf_setDesired_same (by simpa using hw)]
  · rw [desiredOf_setDesired_other he, desiredOf_setDesired_same hd]

theorem desiredCommands_isSome {x : SeqState} (h : x ≠ .startup) (y : SubStep) :
    ∃ dig walk, desiredCommands x y = some (dig, walk) := by
  cases x with
  | startup => exact absurd rfl h
  | dig | walkIdle | stepping | shoeHold | transferFault => exact ⟨_, _, rfl⟩
  | transferOut | transferBack => cases y <;> exact ⟨_, _, rfl⟩

theorem commandsInv_setCommands {s : State} (hlen : s.line.records.length = stationCount s)
    (hu : s.walk.usable = true → walkUsable s = true) (ha : CommandsApart s)
    (hx : s.walk.state ≠ .startup) : CommandsInv (setCommands s) := by
  have hcount : stationCount (setCommands s) = stationCount s := stationCount_congr (by simp)
  have husable : walkUsable (setCommands s) = walkUsable s := walkUsable_congr (by simp) (by simp)
  refine ⟨by rw [hcount, ← hlen]; simp, by rw [husable]; simpa using hu, fun w hw => ?_⟩
  rw [usableWalk_congr (s := s) (by simp) (by simp)] at hw
  obtain ⟨hon, htable⟩ := usableWalk_eq_some hw
  have hin {b : Binding} (hb : b ∈ walkBindings w) : b.station < s.line.records.length :=
    hlen ▸ station_lt_of_walkUsable (hu hon) htable hb
  obtain ⟨dig, walk, hc⟩ := desiredCommands_isSome hx s.walk.sub
  have hset := desiredOf_setCommands hw hc (hin (by simp [walkBindings])) (hin (by simp [walkBindings]))
    (.inl (ha w htable))
  unfold CommandsFit
  simpa [hc] using hset

/-- Entry to a state sets the commands (R92). -/
theorem CommandsInv.enterState {s : State} (h : CommandsInv s) (ha : CommandsApart s) {x : SeqState}
    (hx : x ≠ .startup) (y : SubStep) : CommandsInv (enterState x y s) := by
  obtain ⟨hlen, hu, -⟩ := h
  exact commandsInv_setCommands hlen hu ha hx

/-! ### What the rules of the sequencer do -/

theorem CommandsInv.closeGates {s : State} (h : CommandsInv s) (which : PerMotion Bool) :
    CommandsInv (closeGates which s) := h.of_records (by simp) (by simp) (by simp)

/-- A rule of the sequencer does nothing, enters TRANSFER_FAULT, or enters another state and closes
gates. -/
def Moves (s t : State) : Prop :=
  t = s ∨ t = enterFault s
    ∨ ∃ x y which, x ≠ SeqState.startup ∧ t = closeGates which (enterState x y s)

theorem moves_enterState {x : SeqState} (hx : x ≠ .startup) (y : SubStep) (s : State) :
    Moves s (enterState x y s) := .inr (.inr ⟨x, y, noMotions, hx, rfl⟩)

theorem moves_closing {x : SeqState} (hx : x ≠ .startup) (y : SubStep) (which : PerMotion Bool)
    (s : State) : Moves s (closeGates which (enterState x y s)) := .inr (.inr ⟨x, y, which, hx, rfl⟩)

theorem CommandsInv.moves {s t : State} (h : CommandsInv s) (ha : CommandsApart s) (hm : Moves s t) :
    CommandsInv t := by
  rcases hm with rfl | rfl | ⟨x, y, which, hx, rfl⟩
  · exact h
  · exact ((h.enterState ha (x := .transferFault) (by decide) .none).closeGates allMotions).of_same
      (keepsCommands_evaluate 8 true _) (by simp [enterFault]) (by simp) (by simp)
  · exact (h.enterState ha hx y).closeGates which

theorem moves_startupDecision (s : State) (w : WalkTable) : Moves s (startupDecision s w) := by
  have stays : Moves s s := .inl rfl
  have fault : Moves s (enterFault s) := .inr (.inl rfl)
  have enters {x : SeqState} (hx : x ≠ .startup) := moves_enterState hx .none s
  unfold startupDecision
  dsimp only
  split_ifs
  exacts [stays, fault, fault, fault, enters (by decide), enters (by decide), enters (by decide), fault]

theorem moves_roundAdvance (s : State) (w : WalkTable) : Moves s (roundAdvance s w) := by
  have stays : Moves s s := .inl rfl
  have fault : Moves s (enterFault s) := .inr (.inl rfl)
  have orStays {t : State} {c : Prop} [Decidable c] (ht : Moves s t) : Moves s (if c then t else s) := by
    split
    · exact ht
    · exact stays
  unfold roundAdvance
  dsimp only
  split
  · exact fault
  split
  · exact orStays fault
  · exact orStays fault
  · exact orStays fault
  · exact orStays fault
  · exact orStays (moves_enterState (by decide) _ s)
  · exact orStays (moves_closing (by decide) _ _ s)
  · exact orStays (moves_enterState (by decide) _ s)
  · exact orStays (moves_closing (by decide) _ _ s)
  · exact stays

/-- No REF takes the sequencer back to STARTUP: every branch of the rules of R95 to R109 keeps the state or
enters another by name. -/
theorem refDecision_ne_startup (p : RefPayload) {s : State} (h : s.walk.state ≠ .startup) :
    (refDecision p s).1.walk.state ≠ .startup := by
  unfold refDecision refInDig refInTransferOut refInWalkIdle refInStepping refInShoeHold refInFault
  dsimp only
  (repeat' split) <;> simp_all [enterState_walk]

theorem moves_refDecision (p : RefPayload) (s : State) : Moves s (refDecision p s).1 := by
  rcases refDecision_cases p s with he | ⟨-, he⟩ | ⟨x, y, he, -, -, hst, -⟩
  · exact .inl he
  · rw [he]
    exact moves_closing (by decide) _ _ s
  · have hx := refDecision_ne_startup p hst
    rw [he, enterState_walk] at hx
    rw [he]
    exact moves_enterState hx y s

/-- Setting a command to the state it is already desired in (R92). -/
theorem keepsCommands_setDesired_again {b : Binding} {v : Bool} {s : State}
    (h : desiredOf s b = some v) : KeepsCommands s (setDesired b v s) := by
  have hin : b.station < s.line.records.length := by
    by_contra hn
    simp [desiredOf, recordOf, List.getElem?_eq_none (not_lt.1 hn)] at h
  refine ⟨usableWalk_congr (by simp) (by simp), fun b' _ => ?_⟩
  by_cases he : b' = b
  · rw [he, desiredOf_setDesired_same hin, h]
  · exact desiredOf_setDesired_other he v s

theorem CommandsInv.requestAgain {s : State} {w : WalkTable} (h : CommandsInv s)
    (hw : usableWalk s = some w) : CommandsInv (requestAgain s w) := by
  refine h.of_same ?_ (by simp) (by simp) (by simp)
  have hfit := h.2.2 w hw
  unfold CommandsFit at hfit
  unfold Machine.requestAgain
  split
  · rename_i dig walk hc
    rw [hc] at hfit
    obtain ⟨hdig, hwalk⟩ := hfit
    refine keepsCommands_ite (fun _ => ?_) (.refl s)
    have hfirst : KeepsCommands s
        (if unsettled s w.digCommand dig then setDesired w.digCommand dig s else s) :=
      keepsCommands_ite (fun _ => keepsCommands_setDesired_again hdig) (.refl s)
    refine keepsCommands_ite (fun _ => hfirst.trans (keepsCommands_setDesired_again ?_)) hfirst
    rw [hfirst.2 _ (walkOwns_commands hw).2, hwalk]
  · exact .refl s

theorem CommandsInv.walkRound {s : State} (h : CommandsInv s) (ha : CommandsApart s) :
    CommandsInv (walkRound s) := by
  set s0 := s.withWalk { s.walk with delivered := deliveredNow s } with hs0
  have h0 : CommandsInv s0 :=
    h.of_kept (keepsCommands_of_records rfl rfl rfl) rfl rfl rfl rfl rfl rfl
  have ha0 : CommandsApart s0 := ha.congr rfl
  unfold Machine.walkRound
  rw [← hs0]
  dsimp only
  split
  · split
    · exact h0.enterState ha0 (by decide) .none
    · exact h0
  · rename_i w hw
    split
    · exact h0.moves ha0 (moves_startupDecision s0 w)
    · have hadvanced := h0.moves ha0 (moves_roundAdvance s0 w)
      have hreturned : CommandsInv (faultReturn s.walk.state (roundAdvance s0 w) w) :=
        hadvanced.of_same (keepsCommands_ite (fun _ => keepsCommands_evaluate _ _ _) (.refl _)) (by simp)
          (by simp) (by simp)
      refine hreturned.requestAgain ?_
      rw [usableWalk_congr (s := s0) (by simp) (by simp), hw]

theorem CommandsInv.setCam {s : State} (h : CommandsInv s) (ha : CommandsApart s) (c : CamPhase) :
    CommandsInv (setCam c s) := by
  unfold Machine.setCam
  dsimp only
  set s1 := s.withWalk { s.walk with
    cam := c
    stepCount := if s.walk.cam = .setting ∧ c = .clear then s.walk.stepCount + 1
      else s.walk.stepCount }
  have hcam : CommandsInv s1 :=
    h.of_kept (keepsCommands_of_records rfl rfl rfl) rfl rfl rfl rfl rfl rfl
  split_ifs
  · exact hcam.closeGates swingMotion
  · exact (hcam.enterState (ha.congr rfl) (by decide) .none).closeGates swingMotion
  · exact hcam

/-! ### Commits (R83, R89, R110, R157, R158, R182) -/

theorem keepsCommands_activate {k : Kind} (hk : k ≠ .walk) (image : Image) (s : State) :
    KeepsCommands s (activate k image s) := by
  refine keepsCommands_of_records rfl ?_ rfl
  cases k with
  | walk => exact absurd rfl hk
  | _ => rfl

theorem keepsCommands_swingCommitAngle (s : State) : KeepsCommands s (swingCommitAngle s) :=
  ((keepsCommands_withSwing { s.swing with
    corrected := s.swing.raw.map (correctedAngle (swingOrigin s))
    clear := List.replicate 16 false } s).trans (keepsCommands_refreshSectors _)).trans
    (keepsCommands_withAlarm _ _)

/-- A commit of a table that the sequencer does not read leaves its commands. -/
theorem keepsCommands_commitEffects {k : Kind} (hw : k ≠ .walk) (hs : k ≠ .station) (image : Image)
    (s : State) : KeepsCommands s (commitEffects k image s) := by
  have hactive := keepsCommands_activate hw image s
  cases k with
  | walk => exact absurd rfl hw
  | station => exact absurd rfl hs
  | plant | zone => exact hactive
  | geometry =>
    exact hactive.trans ((keepsCommands_withPosition _ _).trans ((keepsCommands_closeGates _ _).trans
      (keepsCommands_handPosition _)))
  | swing =>
    exact hactive.trans ((keepsCommands_swingCommitAngle _).trans ((keepsCommands_dropSlots _ _).trans
      ((keepsCommands_settleAlarms _).trans ((keepsCommands_evaluateBound _ _).trans
        (keepsCommands_closeGates _ _)))))
  | alarm =>
    exact (keepsCommands_dropSlots isLoaded s).trans ((keepsCommands_activate hw image _).trans
      ((keepsCommands_withAlarm _ _).trans ((keepsCommands_settleAlarms _).trans
        ((keepsCommands_evaluateBound _ _).trans (keepsCommands_evaluateBound _ _)))))

theorem commitEffects_unread {k : Kind} (hw : k ≠ .walk) (hs : k ≠ .station) (image : Image)
    (s : State) : (commitEffects k image s).walk = s.walk
      ∧ (commitEffects k image s).tables.active.walk = s.tables.active.walk
      ∧ (commitEffects k image s).tables.active.station = s.tables.active.station
      ∧ (commitEffects k image s).line.records.length = s.line.records.length := by
  cases k with
  | walk => exact absurd rfl hw
  | station => exact absurd rfl hs
  | _ => simp [commitEffects, commitSwing, commitAlarm, activate, PerKind.set]

/-- A commit in DIG settles the usability and sets the commands (R89, R110). -/
theorem commandsInv_walkSettlesCommit {s : State} (hlen : s.line.records.length = stationCount s)
    (ha : CommandsApart s) (hx : s.walk.state ≠ .startup) : CommandsInv (walkSettlesCommit s) := by
  refine commandsInv_setCommands (s := settleUsability s) (hlen.trans (stationCount_congr rfl).symm)
    (fun hu => ?_) (ha.congr rfl) hx
  have hsame : walkUsable (settleUsability s) = walkUsable s := walkUsable_congr rfl rfl
  rw [hsame]
  exact hu

theorem commandsInv_commitWalk {s : State} {image : Image} (h : CommandsInv s)
    (hi : imageValid .walk image = true) (hx : s.walk.state ≠ .startup) :
    CommandsInv (commitEffects .walk image s) := by
  have hset : CommandsInv (walkSettlesCommit (activate .walk image s)) := by
    refine commandsInv_walkSettlesCommit (h.1.trans (stationCount_congr rfl).symm) (fun w hw => ?_) hx
    cases hw
    exact readWalk_commands_ne hi
  exact (hset.of_same (keepsCommands_settleAlarms _) (by simp) (by simp) (by simp) :)

theorem stationCommitLine_records (onLine : Option Transaction) (s : State) :
    (stationCommitLine onLine s).line.records = freshRecords s := by
  unfold stationCommitLine
  dsimp only
  rw [evaluate_internal_line _ _ (by decide)]
  rfl

theorem commandsInv_commitStation {s : State} {image : Image} (ha : CommandsApart s)
    (hx : s.walk.state ≠ .startup) : CommandsInv (commitEffects .station image s) := by
  set s1 := stationCommitLine (lineTransaction s) (activate .station image s) with hs1
  have hlen : s1.line.records.length = stationCount s1 := by
    rw [hs1, stationCommitLine_records, freshRecords, List.length_replicate]
    exact (stationCount_congr (by simp)).symm
  have hset : CommandsInv (walkSettlesCommit s1) :=
    commandsInv_walkSettlesCommit hlen (ha.congr (by simp [hs1, activate, PerKind.set]))
      (by simpa [hs1] using hx)
  set s2 := dropSlots (loadedWith (walkSettlesCommit s1) touchesStation) (walkSettlesCommit s1)
    with hs2
  have hdropped : CommandsInv s2 :=
    hset.of_same (keepsCommands_dropSlots _ _) (by simp [hs2]) (by simp [hs2]) (by simp [hs2])
  have hsettled : CommandsInv (settleAlarms s2) :=
    hdropped.of_same (keepsCommands_settleAlarms _) (by simp) (by simp) (by simp)
  have howned : CommandsInv (setOwned (settleAlarms s2)) :=
    hsettled.of_same (keepsCommands_setOwned _) (by simp) (by simp) (by simp)
  exact howned.of_desires (startRound_frame _).2.2.2.2.2.1 (by simp [commitEffects, commitStation, hs2, hs1])
    (desires_startRound _)

theorem CommandsInv.commitTable {s : State} (h : CommandsInv s) (ha : CommandsApart s) {k : Kind}
    {image : Image} (hi : imageValid k image = true) (hadmitted : commitAdmitted s k = true) :
    CommandsInv (commitTable k image s) := by
  have hdig : k = .walk ∨ k = .station → s.walk.state ≠ .startup := by
    rintro (rfl | rfl) hx <;> simp [commitAdmitted, hx] at hadmitted
  have heffects : CommandsInv (commitEffects k image s) := by
    by_cases hw : k = .walk
    · subst hw
      exact commandsInv_commitWalk h hi (hdig (.inl rfl))
    · by_cases hs : k = .station
      · subst hs
        exact commandsInv_commitStation ha (hdig (.inr rfl))
      · obtain ⟨hwalk, htable, hstation, hlen⟩ := commitEffects_unread hw hs image s
        exact h.of_kept (keepsCommands_commitEffects hw hs image s) (by rw [hwalk]) (by rw [hwalk])
          (by rw [hwalk]) htable hstation hlen
  have hten := heffects.of_same (keepsCommands_evaluate 10 (tableAbsent (commitEffects k image s)) _)
    (by simp) (by simp) (by simp)
  exact hten.of_records (by simp [Machine.commitTable]) (by simp [Machine.commitTable])
    (by simp [Machine.commitTable])

theorem CommandsInv.tableCommit {s : State} (h : CommandsInv s) (hi : ImagesInv s) (tag : Byte)
    (p : List Byte) : CommandsInv (tableCommit tag p s).1 := by
  unfold Machine.tableCommit
  split
  · exact h
  split
  · exact h
  rename_i k image hst
  split
  · exact h
  split
  · exact h
  rename_i hadmitted _
  have hcommit := h.commitTable (commandsApart_of_images hi) (stagedFor_valid hi hst)
    (by simpa using hadmitted)
  dsimp only
  split
  · exact hcommit.of_records rfl rfl rfl
  · exact hcommit

/-! ### Requests (R128, R129, R147) -/

/-- A STATION OUTPUT that is taken names no channel that the walk sequencer owns (R129). -/
theorem keepsCommands_applyOutput {p : List Byte} {s : State}
    (h : ∀ c ∈ setPairs p ++ clearPairs p, pairOwned s c = false) (b : Binding) :
    KeepsCommands s (applyOutput p s b) := by
  unfold applyOutput
  dsimp only
  split
  · rename_i v hv
    refine keepsCommands_setDesired ?_ v
    have hnamed : (b.station, channelCode b.channel) ∈ setPairs p ++ clearPairs p := by
      by_contra hn
      rw [List.mem_append, not_or] at hn
      simp [newDesired, hn] at hv
    have hcode : channelOfCode (channelCode b.channel) = some b.channel := by
      cases b.channel <;> rfl
    have hfree := h _ hnamed
    simp only [pairOwned, hcode, Bool.or_eq_false_iff] at hfree
    exact hfree.1
  · exact .refl s

theorem pairOwned_congr {s t : State} (hu : usableWalk t = usableWalk s) (ht : t.tables = s.tables)
    (hb : t.alarm.bound = s.alarm.bound) : pairOwned t = pairOwned s := by
  funext c
  simp [pairOwned, walkOwns_congr hu, alarmOwns, definitionsOf, ht, hb]

theorem keepsCommands_stationOutput (p : List Byte) (s : State) :
    KeepsCommands s (stationOutput p s).1 := by
  unfold stationOutput
  dsimp only
  split_ifs with _ _ _ howned
  · exact .refl s
  · exact .refl s
  · exact .refl s
  · exact .refl s
  have hfree : ∀ c ∈ setPairs p ++ clearPairs p, pairOwned s c = false := by
    simpa only [Bool.not_eq_true, List.any_eq_false] using howned
  refine (foldl_keeps (fun x => KeepsCommands s x ∧ x.tables = s.tables
    ∧ x.alarm.bound = s.alarm.bound) _ (fun x b hx => ?_) _ s ⟨.refl s, rfl, rfl⟩).1
  obtain ⟨hk, ht, hb⟩ := hx
  refine ⟨hk.trans (keepsCommands_applyOutput ?_ b), by simpa using ht, by simpa using hb⟩
  rw [pairOwned_congr hk.1 ht hb]
  exact hfree

theorem keepsCommands_acknowledgeSlot (n : Nat) (s : State) :
    KeepsCommands s (acknowledgeSlot n s) := by
  unfold acknowledgeSlot
  split
  · exact .refl s
  · split
    · exact keepsCommands_of_records (by simp) (by simp) (by simp)
    · exact (keepsCommands_of_records (t := logEvent .ack n s) (by simp) (by simp) (by simp)).trans
        (keepsCommands_removeListed n _)
    · exact .refl s

theorem keepsCommands_alarmAcknowledge (p : List Byte) (s : State) :
    KeepsCommands s (alarmAcknowledge p s).1 := by
  unfold alarmAcknowledge
  split
  · exact .refl s
  · exact keepsCommands_foldl (fun x n => keepsCommands_acknowledgeSlot n x) _ s

/-- The owner of a request keeps the commands. -/
theorem CommandsInv.run {c : Instr} {q : Nat × Rules × List Byte} (hq : requestOf c = some q)
    {s : State} (hi : ImagesInv s) (h : CommandsInv s) (tag : Byte) (p : List Byte) :
    CommandsInv (q.2.1.run tag p s).1 := by
  cases c
  all_goals cases hq
  case tableCommit => exact h.tableCommit hi tag p
  case limitsSet =>
    change CommandsInv (limitsSet p s).1
    rcases limitsSet_cases p s with he | ⟨g, -, -, he⟩
    · rwa [he]
    · rw [he]
      exact h.of_records (by simp) (by simp) (by simp)
  case stationOutput =>
    exact h.of_same (keepsCommands_stationOutput p s) (by simp [stationOutputRules])
      (by simp [stationOutputRules]) (by simp [stationOutputRules])
  case alarmAcknowledge =>
    exact h.of_same (keepsCommands_alarmAcknowledge p s) (by simp [alarmAcknowledgeRules])
      (by simp [alarmAcknowledgeRules]) (by simp [alarmAcknowledgeRules])
  all_goals refine h.of_records ?_ ?_ ?_
  all_goals
    simp [identifyRules, tableStateRules, tableReadRules, tableBeginRules, tableBlockRules,
      tableEndRules, limitsReadRules, stationStatusRules, stationEnrollRules, alarmListReadRules,
      alarmReAnnounceRules, firstOutReadRules, firstOutClearRules, logReadRules, keySetRules,
      keyUnlockRules, keyClearRules, guardRules, freezeRules, restartRules, undefinedRules,
      readAnswer, refuse]

theorem CommandsInv.takeRequest {c : Instr} {q : Nat × Rules × List Byte} (hq : requestOf c = some q)
    {s : State} (hi : ImagesInv s) (h : CommandsInv s) :
    CommandsInv (takeRequest q.1 q.2.1 q.2.2 s) := by
  have hown : CommandsInv (checkRequest q.2.1 q.2.2 s).1 := by
    unfold checkRequest
    (repeat' split)
    · exact h
    · exact h
    · exact CommandsInv.run hq hi h _ _
  unfold Machine.takeRequest answerRequest
  (repeat' split)
  · exact hown.of_records (by simp) (by simp) (by simp)
  · exact hown.of_records (by simp) (by simp) (by simp)
  · exact h

/-! ### The link and the drives (R5, R14, R19, R20) -/

theorem CommandsInv.takeRef {s : State} (h : CommandsInv s) (ha : CommandsApart s) (p : RefPayload) :
    CommandsInv (takeRef p s) := by
  have hlink : CommandsInv (linkTakesRef p.cycle s) := by
    refine h.of_same ?_ (by simp) (by simp) (by simp)
    exact keepsCommands_ite (fun _ => KeepsCommands.trans (keepsCommands_of_records rfl rfl rfl)
      (keepsCommands_evaluate _ _ _)) (keepsCommands_of_records rfl rfl rfl)
  have hmoved := hlink.moves (ha.congr (by simp)) (moves_refDecision p _)
  have hdecided : CommandsInv (refDecided p s) :=
    hmoved.of_kept (keepsCommands_of_records rfl rfl rfl) rfl rfl rfl rfl rfl rfl
  exact hdecided.of_records (by simp [takeRef_eq, refForwarded]) (by simp [takeRef_eq, refForwarded])
    (by simp [takeRef_eq, refForwarded])

theorem CommandsInv.deliverTo {s : State} (h : CommandsInv s) (ha : CommandsApart s) (m : Motion)
    (p : StatPayload) : CommandsInv (deliverTo m p s) := by
  cases m with
  | hoist =>
    have hpayout := h.of_same (keepsCommands_deliverPayout .hoist p s) (by simp) (by simp) (by simp)
    exact (hpayout.of_records (t := deliverLoad p (deliverPayout .hoist p s)) (by simp) (by simp)
      (by simp) :)
  | drag => exact (h.of_same (keepsCommands_deliverPayout .drag p s) (by simp) (by simp) (by simp) :)
  | swing => exact (h.of_same (keepsCommands_setAngle _ s) (by simp) (by simp) (by simp) :)
  | propel => exact h.setCam ha _

theorem CommandsInv.takeStat {s : State} (h : CommandsInv s) (ha : CommandsApart s) (m : Motion)
    (f : List Byte) : CommandsInv (takeStat m f s) := by
  have hbegun : CommandsInv (statBegun m (readStat f) s) :=
    h.of_records (by simp) (by simp) (by simp)
  have hdelivered := hbegun.deliverTo (ha.congr (by simp)) m (readStat f)
  have hsources := hdelivered.of_same (keepsCommands_evaluateBound (driveSource m (readStat f)) _)
    (by simp) (by simp) (by simp)
  exact hsources.of_records (by simp [takeStat_eq]) (by simp [takeStat_eq]) (by simp [takeStat_eq])

theorem CommandsInv.fallSilent {s : State} (h : CommandsInv s) (ha : CommandsApart s) (m : Motion) :
    CommandsInv (fallSilent m s) := by
  have hm := silentSlot_lt m
  have hline : (silentBegun m s).line = s.line := by
    rw [silentBegun, evaluate_internal_line _ _ (by omega), State.withLink_line]
  have hbegun : CommandsInv (silentBegun m s) :=
    h.of_records (by simp [silentBegun]) (by simp [silentBegun]) (by rw [hline])
  rw [fallSilent_eq]
  cases m with
  | hoist | drag =>
    exact (hbegun.of_same (keepsCommands_evaluate 6 (travelExceeded _) _) (by simp) (by simp)
      (by simp) :)
  | swing => exact (hbegun.of_same (keepsCommands_setAngle none _) (by simp) (by simp) (by simp) :)
  | propel => exact hbegun.setCam (ha.congr (by simp [silentBegun])) _

theorem CommandsInv.enterHold {s : State} (h : CommandsInv s) : CommandsInv (enterHold s) := by
  have hline : (holdBegun s).line = s.line := by simp [holdBegun, evaluate_internal_line]
  exact h.of_records (by simp) (by simp) (by simp [enterHold_eq, hline])

/-! ### Starts and the supply (R111, R133, R174, R190, R191) -/

/-- The line begins with live records that desire nothing, as STARTUP requires (R111, R133). -/
theorem commandsInv_beginLine {s : State} (hx : s.walk.state = .startup)
    (hu : s.walk.usable = true → walkUsable s = true) : CommandsInv (beginLine s) := by
  have hstart : CommandsInv (lineStart s) := by
    refine ⟨?_, fun hon => ?_, fun w _ => ?_⟩
    · rw [stationCount_congr (s := s) (by simp)]
      exact List.length_replicate
    · rw [walkUsable_congr (s := s) (by simp) (by simp)]
      exact hu (by simpa using hon)
    · have hnone (b : Binding) : desiredOf (lineStart s) b = none := by
        have hrecords : desires (lineStart s) = List.replicate (stationCount s) (.both none) := by
          simp [desires, lineStart, freshRecords, freshRecord]
        rw [desiredOf_eq, hrecords, List.getElem?_replicate]
        split
        · cases b.channel <;> rfl
        · rfl
      unfold CommandsFit
      simp [hx, desiredCommands, hnone]
  exact hstart.of_desires (by simp [beginLine]) (by simp [beginLine]) (desires_startRound _)

theorem CommandsInv.restartEffect {s : State} (h : CommandsInv s) : CommandsInv (restartEffect s) := by
  rw [restartEffect_eq]
  refine commandsInv_beginLine (by simp [restartWalk, WalkSequencer.start]) fun hu => ?_
  rw [walkUsable_congr (s := s) (by simp) (by simp)]
  exact h.2.1 (by simpa [restartWalk] using hu)

/-- A power-on start settles the usability from the tables it finds (R88, R190). -/
theorem startedBlocks_usable (found : List FoundItem) (s : State) :
    (startedBlocks found s).walk.usable = walkUsable (startedBlocks found s) := by
  obtain ⟨x, hwalk, htables⟩ : ∃ x, (startedBlocks found s).walk = (settleUsability x).walk
      ∧ (startedBlocks found s).tables = x.tables :=
    ⟨_, by simp [startedBlocks, settleStart]; rfl, by simp [startedBlocks, settleStart]⟩
  rw [hwalk, walkUsable_congr (s := x) (by rw [htables]) (by rw [htables])]
  rfl

theorem commandsInv_powerOn (found : List FoundItem) (s : State) : CommandsInv (powerOn found s) := by
  rw [powerOn_eq]
  refine commandsInv_beginLine (by simp) fun hu => ?_
  rw [walkUsable_congr (s := startedBlocks found s) (by simp) (by simp), ← startedBlocks_usable]
  simpa using hu

/-- The completion of a retained write reaches no station: slot 11 has no output (R187). -/
theorem finishWrite_line (ok : Bool) (s : State) : (finishWrite ok s).line = s.line := by
  unfold finishWrite
  split
  · rfl
  · simp [evaluate_internal_line]

/-! ### Every command -/

theorem commandsInv_exec {c : Instr} {s t : State} (hi : ImagesInv s) (h : CommandsInv s)
    (he : exec c s = .next t) : CommandsInv t := by
  have ha := commandsApart_of_images hi
  rcases hq : requestOf c with _ | q
  case some =>
    rcases exec_requestOf hq he with rfl | rfl
    · exact h.takeRequest hq hi
    · exact h
  cases c with
  | frameDiscarded port f | mreqDiscarded f => cases he; exact h
  | refTakenFromCab f => exact keeps_of_guard h (fun _ => h.takeRef ha _) he
  | statTaken f =>
    refine keeps_of_guard h (fun _ => ?_) he
    split
    · exact h.takeStat ha _ _
    · exact h
    · exact h
  | cabSilenceTimerExpiry => exact keeps_of_guard h (fun _ => h.enterHold) he
  | driveSilenceTimerExpiry m => exact keeps_of_guard h (fun _ => h.fallSilent ha m) he
  | transferTimerExpiry => exact keeps_of_guard h (fun _ => h.moves ha (.inr (.inl rfl))) he
  | scanTimerExpiry =>
    refine keeps_of_guard h (fun _ => h.of_desires (by simp) (by simp) ?_) he
    unfold scanExpires
    dsimp only
    split
    · exact desires_startRound _
    · rfl
  | deferredRoundStart =>
    refine keeps_of_guard h (fun _ => h.of_desires (by simp) (by simp) ?_) he
    exact desires_startRound _
  | writeOutputs x =>
    exact keeps_of_guard h
      (fun _ => h.of_desires (by simp) (by simp) (desires_writeOutputsDone x s)) he
  | writeCondition x =>
    exact keeps_of_guard h
      (fun _ => h.of_desires (by simp) (by simp) (desires_writeConditionDone x s)) he
  | readClearing x =>
    exact keeps_of_guard h
      (fun _ => h.of_desires (by simp) (by simp) (desires_readClearingDone x s)) he
  | roundCompletion =>
    refine keeps_of_guard h (fun _ => ?_) he
    unfold roundDone
    split
    · split
      · rename_i r _ _
        have hsources := (h.walkRound ha).of_same
          (keepsCommands_evaluateBound (stationSource (walkRound s) r.readOk) _) (by simp) (by simp)
          (by simp)
        have hrestored := hsources.of_same (keepsCommands_restoreOwned _) (by simp) (by simp) (by simp)
        exact hrestored.of_records rfl rfl rfl
      · exact h
    · exact h
    · exact h
  | delayTimerExpiry n =>
    refine keeps_of_guard h (fun _ => h.of_same ?_ (by simp) (by simp) (by simp)) he
    unfold delayExpires
    split
    · exact keepsCommands_ite (fun _ => keepsCommands_raiseSlot _ _ s) (.refl s)
    · exact .refl s
  | retainedWriteCompletion ok =>
    exact keeps_of_guard h (fun _ => h.of_records (by simp) (by simp) (by rw [finishWrite_line])) he
  | restartTakesEffect => exact keeps_of_guard h (fun _ => h.restartEffect) he
  | powerOnStart found => cases he; exact commandsInv_powerOn found s
  | briefSupplyDipStart =>
    refine keeps_of_guard h (fun _ => h.of_records (by simp [dipStart]) (by simp [dipStart]) ?_) he
    rw [dipStart, finishWrite_line]
    rfl
  | briefSupplyDipEnd =>
    have hon : CommandsInv (s.withPower .on) := h.of_records rfl rfl rfl
    refine keeps_of_guard h (fun _ => ?_) he
    unfold dipEnd
    dsimp only
    split
    · exact hon.restartEffect
    · exact hon
  | supplyLoss =>
    cases he
    exact ⟨rfl, nofun, nofun⟩
  | passTraffic | transmissionCompletion | deferredConfirmationOffered | holdTimerExpiry
  | enrollmentSweepStart | seekIfPass | seekPass | timeCounterTick =>
    exact keeps_of_guard h (fun _ => h.of_records (by simp) (by simp) (by simp)) he
  | _ => simp [requestOf] at hq

theorem desiredCommands_not_both (x : SeqState) (y : SubStep) :
    desiredCommands x y ≠ some (true, true) := by
  cases x with
  | startup | dig | walkIdle | stepping | shoeHold | transferFault => simp [desiredCommands]
  | transferOut | transferBack => cases y <;> simp [desiredCommands]

/-- Settles O28. -/
theorem commandsInvKept : Obligations.CommandsInvKept := by
  refine ⟨fun _ _ _ hi h he => commandsInv_exec hi h he, fun s w h hw ⟨hdig, hwalk⟩ => ?_⟩
  have hfit := h.2.2 w hw
  unfold CommandsFit at hfit
  rw [hdig, hwalk] at hfit
  split at hfit
  · simp at hfit
  · rename_i hc
    simp only [Option.some.injEq] at hfit
    exact desiredCommands_not_both _ _ (by rw [hc, ← hfit.1, ← hfit.2])

end Sys2Proof.Machine
end

section
/-! SUPPORT. The expiry of the transfer timer: TRANSFER_FAULT (R96, R104, R108). -/

namespace Sys2Proof.Machine

/-! ### Gates at an evaluation (R57, R144) -/

/-- An evaluation leaves the shaper, or, at a raise of class TRIP, closes every gate. -/
theorem evaluate_shaper_cases (n : Nat) (v : Bool) (s : State) : (evaluate n v s).shaper = s.shaper
    ∨ (evaluate n v s).shaper = { s.shaper with gates := ⟨.gated, .gated, .gated, .gated⟩ } := by
  cases v with
  | false => exact .inl (evaluate_false_shaper n s)
  | true =>
    unfold evaluate
    split
    · exact .inl rfl
    rename_i a _
    dsimp only
    split
    · exact .inl (by simp [setSlot])
    · rw [if_pos rfl]
      split_ifs
      · exact .inl rfl
      · rw [raiseSlot_shaper]
        by_cases hc : a.cls = .trip
        · exact .inr (by rw [if_pos hc]; rfl)
        · exact .inl (by rw [if_neg hc]; rfl)
      · exact .inl rfl

/-- No evaluation opens a gate. -/
theorem evaluate_gated {m : Motion} {s : State} (h : s.shaper.gates.get m = .gated) (n : Nat)
    (v : Bool) : (evaluate n v s).shaper.gates.get m = .gated := by
  rcases evaluate_shaper_cases n v s with he | he <;> rw [he]
  · exact h
  · cases m <;> rfl

theorem evaluateBound_gated {m : Motion} {s : State} (h : s.shaper.gates.get m = .gated)
    (value : AlarmDef → Bool → Option Bool) :
    (evaluateBound value s).shaper.gates.get m = .gated := by
  refine foldl_keeps (fun x => x.shaper.gates.get m = .gated) _ (fun x d hx => ?_) _ s h
  dsimp only
  split
  · split
    · exact evaluate_gated hx _ _
    · exact hx
  · exact hx

/-! ### TRANSFER_FAULT (R104, R108) -/

theorem enterFault_walk (s : State) : (enterFault s).walk
    = { s.walk with state := .transferFault, sub := .none, transferTimer := none } := by
  simp [enterFault, enterState_walk]

theorem enterFault_gates (s : State) :
    (enterFault s).shaper.gates = ⟨.gated, .gated, .gated, .gated⟩ := by
  rcases evaluate_shaper_cases 8 true (closeGates allMotions (enterState .transferFault .none s))
    with he | he <;> exact congrArg Shaper.gates he

theorem enterFault_slot_eight {s : State} (h : s.alarm.slots.length = 64) :
    (slotOf (enterFault s) 8).condition = true :=
  evaluate_condition_internal true (by decide) (by simp [h])

/-- Slot 8 has no output: only the commands reach a station. -/
theorem enterFault_line (s : State) :
    (enterFault s).line = (enterState .transferFault .none s).line := by
  simp [enterFault, evaluate_internal_line]

/-- Both commands are de-energised (R108). -/
theorem enterFault_commands {s : State} {w : WalkTable} (hlen : s.line.records.length = stationCount s)
    (hu : s.walk.usable = true → walkUsable s = true) (hw : usableWalk s = some w) :
    desiredOf (enterFault s) w.digCommand = some false
      ∧ desiredOf (enterFault s) w.walkCommand = some false := by
  obtain ⟨hon, htable⟩ := usableWalk_eq_some hw
  have hin {b : Binding} (hb : b ∈ walkBindings w) : b.station < s.line.records.length :=
    hlen ▸ station_lt_of_walkUsable (hu hon) htable hb
  have hset := desiredOf_setCommands (dig := false) (walk := false)
    (s := s.withWalk { s.walk with state := .transferFault, sub := .none, transferTimer := none })
    hw rfl (hin (by simp [walkBindings])) (hin (by simp [walkBindings])) (.inr rfl)
  rw [desiredOf_eq, desiredOf_eq, desires_congr (congrArg StationLine.records (enterFault_line s)),
    ← desiredOf_eq, ← desiredOf_eq]
  exact hset

/-- Settles O29. -/
theorem transferTimeoutIsFault : Obligations.TransferTimeoutIsFault := by
  unfold Obligations.TransferTimeoutIsFault
  intro s hp ht hslots hlen hu
  have hexec : exec .transferTimerExpiry s = .next (enterFault s) := by
    simp [exec, execTransferTimerExpiry, powered, hp, ht]
  have hline : (enterFault s).line = { s.line with records := (enterFault s).line.records } := by
    apply StationLine.eq_of_records <;> simp
  have hrecords : (enterFault s).line.records.map undesired = s.line.records.map undesired := by
    rw [enterFault_line, enterState_undesired]
  refine ⟨enterFault s, hexec, enterFault_walk s, enterFault_gates s, ?_, ?_,
    enterFault_slot_eight hslots, fun w hw => enterFault_commands hlen hu hw,
    ?_, ?_, ?_, ?_, ?_, ?_, ?_, hline, hrecords⟩ <;> simp

end Sys2Proof.Machine
end

section
/-! SUPPORT. A STAT from PROPEL: the cam phase, the step count and the phase-change rules (R90, R91,
R105). -/

namespace Sys2Proof.Machine

/-- What a cam phase does to the sequencer (R90, R91, R105). -/
theorem setCam_walk (c : CamPhase) (s : State) :
    (setCam c s).walk.cam = c
      ∧ (setCam c s).walk.stepCount = (if s.walk.cam = .setting ∧ c = .clear then s.walk.stepCount + 1
        else s.walk.stepCount)
      ∧ (setCam c s).walk.state
        = (if s.walk.state = .shoeHold ∧ c = .clear then .walkIdle else s.walk.state) := by
  unfold setCam
  dsimp only
  split_ifs <;> simp_all [enterState_walk]

/-- The SWING gate closes where the phase becomes CLEAR (R105). -/
theorem setCam_swing_gate {c : CamPhase} {s : State}
    (h : (s.walk.state = .walkIdle ∧ s.walk.cam ≠ .clear ∧ c = .clear)
      ∨ (s.walk.state = .shoeHold ∧ c = .clear)) :
    (setCam c s).shaper.gates.get .swing = .gated := by
  unfold setCam
  dsimp only
  split
  · rfl
  · rename_i hidle
    rw [if_pos (h.resolve_left hidle)]
    rfl

/-- A STAT from PROPEL sets the cam phase; the drive sources are evaluated and the frame is passed on. -/
theorem takeStat_propel (f : List Byte) (s : State) :
    let y := setCam (camPhaseOf (walkOf s) (readStat f).valid (readStat f).position)
      (statBegun .propel (readStat f) s)
    takeStat .propel f s = offerCab { kind := .stat .propel, bytes := f }
      (evaluateBound (driveSource .propel (readStat f)) y) := by
  have hw : walkOf (statBegun .propel (readStat f) s) = walkOf s := by simp [walkOf]
  rw [takeStat_eq, deliverTo, deliverCam, hw]

/-- The cam phase of an angle, in the order of R90. -/
theorem camPhaseOf_some (w : WalkTable) (valid : Bool) (angle : Nat) : camPhaseOf (some w) valid angle
    = if valid = false ∨ 3600 ≤ angle then .unknown
      else if w.c4 ≤ angle ∨ angle < w.c1 then .clear
      else if angle < w.c2 then .bearing
      else if angle < w.c3 then .carried
      else .setting := by
  simp [camPhaseOf, or_comm]

/-- Settles O31. -/
theorem propelStatTurnsCam : Obligations.PropelStatTurnsCam := by
  unfold Obligations.PropelStatTurnsCam
  intro f s hp hc angle phase
  have hphase : camPhaseOf (walkOf s) (readStat f).valid (readStat f).position = phase := by
    simp only [phase]
    cases walkOf s with
    | none => rfl
    | some w => exact camPhaseOf_some w _ _
  have htake := takeStat_propel f s
  rw [hphase] at htake
  set u := statBegun .propel (readStat f) s with hu
  have hwalk : u.walk = s.walk := by simp [hu]
  obtain ⟨hcam, hcount, hstate⟩ := setCam_walk phase u
  have hkept : (takeStat .propel f s).walk = (setCam phase u).walk := by simp [htake]
  rw [hwalk] at hcount hstate
  refine ⟨takeStat .propel f s, exec_statTaken hp hc, by rw [hkept, hcam], by rw [hkept, hcount],
    by rw [hkept, hstate], fun h => ?gate, ?_, ?_, ?_, ?_, ?_⟩
  case gate =>
    rw [← hwalk] at h
    rw [htake, (offerCab_frame _ _).2.2.1]
    exact evaluateBound_gated (m := .swing) (setCam_swing_gate h) _
  all_goals simp [htake, hu]

end Sys2Proof.Machine
end

section
/-! SUPPORT. The state in which the walk sequencer judges a REF, and what a decision leaves of the sequencer
(R5, R13, R94, R145). -/

namespace Sys2Proof.Machine

/-! ### The active list as the sequencer hears it (R13, R145) -/

theorem linkTakesRef_line (c : Nat) (s : State) : (linkTakesRef c s).line = s.line := by
  unfold linkTakesRef
  split <;> simp [evaluate_internal_line]

/-- The return of the condition of slot 0, which is latched, in the three states of its entry (R145). -/
theorem evaluate_zero_false_list_eq (s : State) : (evaluate 0 false s).alarm.list =
    match (entryOf s 0).map (·.state) with
    | some .raisedUnack =>
      s.alarm.list.map fun e => if e.slot = 0 then { e with state := .returnedUnack } else e
    | some .raisedAck => s.alarm.list.filter (·.slot != 0)
    | _ => s.alarm.list := by
  have hlatched : (internalSlot 0).latched = true := rfl
  unfold evaluate
  rw [attrsOf_internal s (by decide)]
  rcases entryOf s 0 with _ | e
  · rfl
  · rcases hstate : e.state <;>
      simp [returnEntry, hstate, hlatched, setEntryState, removeEntry_alarm, setSlot, logEvent]

theorem filter_unacknowledged {l : List Entry} (h : ∀ e ∈ l, e.slot = 0 → e.state ≠ .raisedAck) :
    (l.filter fun e => ¬ (e.slot = 0 ∧ e.state = .raisedAck)) = l :=
  List.filter_eq_self.2 fun e he => decide_eq_true fun ⟨hs, ha⟩ => h e he hs ha

theorem map_returned {l : List Entry} (h : ∀ e ∈ l, e.slot = 0 → e.state = .returnedUnack) :
    (l.map fun e => if e.slot = 0 then { e with state := .returnedUnack } else e) = l := by
  refine (List.map_congr_left fun e he => ?_).trans (List.map_id l)
  split
  · rename_i hs
    rw [← h e he hs]
    rfl
  · rfl

/-- The same by the entries one by one: there is at most one of slot 0, whose state decides (R13, R145). -/
theorem evaluate_zero_false_list {s : State} (hd : (s.alarm.list.map (·.slot)).Nodup) :
    (evaluate 0 false s).alarm.list
      = (s.alarm.list.filter fun e => ¬ (e.slot = 0 ∧ e.state = .raisedAck)).map fun e =>
          if e.slot = 0 then { e with state := .returnedUnack } else e := by
  rw [evaluate_zero_false_list_eq]
  rcases hentry : entryOf s 0 with _ | e
  · have hno := entryOf_none.1 hentry
    have hall {q : Entry → Prop} : ∀ e ∈ s.alarm.list, e.slot = 0 → q e :=
      fun e he hs => absurd hs (hno e he)
    rw [filter_unacknowledged hall, map_returned hall]
    rfl
  have honly : ∀ e' ∈ s.alarm.list, e'.slot = 0 → e'.state = e.state := fun e' he' hs =>
    congrArg Entry.state (List.inj_on_of_nodup_map hd he' (entryOf_mem hentry)
      (hs.trans (entryOf_some_slot hentry).symm))
  rw [Option.map_some]
  cases hstate : e.state with
  | raisedUnack =>
    rw [filter_unacknowledged fun e' he' hs => by simp [honly e' he' hs, hstate]]
  | raisedAck =>
    have hfilter : (s.alarm.list.filter fun e => ¬ (e.slot = 0 ∧ e.state = .raisedAck))
        = s.alarm.list.filter (·.slot != 0) :=
      List.filter_congr fun e' he' => by
        by_cases hs : e'.slot = 0 <;> simp [hs, honly e' he', hstate]
    rw [hfilter]
    exact (map_returned fun e' he' hs => absurd hs (by simpa using (List.mem_filter.1 he').2)).symm
  | returnedUnack =>
    rw [filter_unacknowledged fun e' he' hs => by simp [honly e' he' hs, hstate],
      map_returned fun e' he' hs => (honly e' he' hs).trans hstate]

theorem linkTakesRef_list {s : State}
    (hd : s.link.cabState = .hold → (s.alarm.list.map (·.slot)).Nodup) (c : Nat) :
    (linkTakesRef c s).alarm.list = listHeard s := by
  unfold linkTakesRef listHeard
  dsimp only
  split
  · rename_i hh
    exact evaluate_zero_false_list (hd hh)
  · rfl

/-! ### What a decision leaves of the sequencer (R94, R96) -/

/-- The state in which the sequencer judges a REF: the link has taken it. -/
abbrev refHeard (p : RefPayload) (s : State) : State := linkTakesRef p.cycle s

theorem takeRef_walk (p : RefPayload) (s : State) : (takeRef p s).walk
    = { (refDecision p (refHeard p s)).1.walk with refusal := (refDecision p (refHeard p s)).2 } :=
  (takeRef_shaped p s).2.1

theorem takeRef_stays {p : RefPayload} {s : State} {n : Nat}
    (h : refDecision p (refHeard p s) = (refHeard p s, n)) :
    (takeRef p s).walk = { s.walk with refusal := n } := by
  simp [takeRef_walk, h]

theorem takeRef_enters {p : RefPayload} {s : State} {x : SeqState} {y : SubStep} {n : Nat}
    (h : refDecision p (refHeard p s) = (enterState x y (refHeard p s), n)) :
    (takeRef p s).walk = { s.walk with
      state := x, sub := y
      transferTimer := if y = .none then none else (walkOf s).map (·.stepTimeout), refusal := n } := by
  simp [takeRef_walk, h, enterState_walk, walkOf]

/-- Entry to a sub-step, with the table's timeout (R96). -/
theorem takeRef_enters_subStep {p : RefPayload} {s : State} {w : WalkTable} {x : SeqState}
    {y : SubStep} {n : Nat} (h : refDecision p (refHeard p s) = (enterState x y (refHeard p s), n))
    (hy : y ≠ .none) (hw : usableWalk s = some w) :
    (takeRef p s).walk = { s.walk with
      state := x, sub := y, transferTimer := some w.stepTimeout, refusal := n } := by
  rw [takeRef_enters h, if_neg hy, (usableWalk_eq_some hw).2]
  rfl

/-! ### What the decisions read (R86, R93, R94) -/

theorem settled_iff (s : State) (b : Binding) (v : Bool) : settled s b v = true ↔ SettledTo s b v := by
  unfold settled SettledTo
  cases recordOf s b.station <;> simp [and_assoc]

theorem settledTo_congr {s t : State} (h : t.line = s.line) : SettledTo t = SettledTo s := by
  funext b v
  simp [SettledTo, recordOf, h]

theorem feedback_congr {s t : State} (h : t.walk = s.walk) : feedback t = feedback s := by
  funext b
  simp [feedback, h]

theorem usableWalk_refHeard (p : RefPayload) (s : State) : usableWalk (refHeard p s) = usableWalk s :=
  usableWalk_congr (by simp) (by simp)

theorem arcContains_iff (start stop a : Nat) : arcContains start stop a = true ↔
    ((a : Int) - start) % 36000 < ((stop : Int) - start) % 36000 := by
  rw [arcContains, decide_eq_true_eq, arc, arc]
  omega

theorem inWindow_iff (s : State) (w : WalkTable) : inWindow s w = true ↔
    ∃ a, s.swing.corrected = some a ∧ arcContains w.windowStart w.windowEnd a = true := by
  unfold inWindow
  cases s.swing.corrected <;> simp

end Sys2Proof.Machine
end

section
/-! SUPPORT. A REF in DIG and in TRANSFER_FAULT: the walk conditions in order, and the exit (R97, R109). -/

namespace Sys2Proof.Machine

/-! ### The first condition that fails -/

/-- The walk conditions a REF is judged on are met: none fails first. -/
theorem firstFailed_eq_none {l : List (Nat × Bool)} {P : Nat → Prop}
    (hl : ∀ c ∈ l, c.2 = true ↔ P c.1) (h : ∀ n, P n) : firstFailed l = none := by
  rw [firstFailed, Option.map_eq_none_iff, List.find?_eq_none]
  intro c hc
  simp [(hl c hc).2 (h c.1)]

/-- In a list in order of number, the first that fails is the one that fails with none before it. -/
theorem firstFailed_eq_some {l : List (Nat × Bool)} {P : Nat → Prop}
    (hl : ∀ c ∈ l, c.2 = true ↔ P c.1) (hs : (l.map (·.1)).Pairwise (· < ·)) {n : Nat}
    (hn : n ∈ l.map (·.1)) (hbefore : ∀ k, k < n → P k) (h : ¬ P n) : firstFailed l = some n := by
  induction l with
  | nil => simp at hn
  | cons c l ih =>
    obtain ⟨hc, hl⟩ := List.forall_mem_cons.1 hl
    rw [List.map_cons, List.pairwise_cons] at hs
    obtain ⟨hless, hs⟩ := hs
    rcases List.mem_cons.1 hn with rfl | hn
    · have : c.2 = false := by simpa using mt hc.1 h
      simp [firstFailed, this]
    · have : c.2 = true := hc.2 (hbefore _ (hless n hn))
      have hrest := ih hl hs hn
      simpa [firstFailed, this] using hrest

/-! ### The walk conditions (R97) -/

theorem inBand_iff (s : State) (r : Int) : inBand s r = true ↔ r.natAbs ≤ (plantOf s).neutralBand := by
  simp [inBand]

theorem parked_iff (s : State) : parked s = true ↔ s.position.status = .resolved
    ∧ ∃ image, s.tables.active.zone = some image ∧ (readZone image s.position.zone).walkPark = true := by
  rw [parked, zoneInForce_eq]
  by_cases hs : s.position.status = .resolved <;> cases s.tables.active.zone <;> simp [hs]

theorem quietDrive_iff (s : State) (w : WalkTable) (m : Motion) : quietDrive s w m = true ↔
    (s.link.drives.get m).freshness = .fresh
      ∧ ∃ c, (s.link.drives.get m).current = some c ∧ c.natAbs ≤ w.currentThreshold := by
  unfold quietDrive isFresh
  cases (s.link.drives.get m).current <;> simp

theorem bindingsPresent_iff (s : State) (w : WalkTable) : bindingsPresent s w = true ↔
    ∀ b ∈ walkBindings w, ∃ r, recordOf s b.station = some r ∧ r.state = .present := by
  rw [bindingsPresent, List.all_eq_true]
  refine forall₂_congr fun b _ => ?_
  cases recordOf s b.station <;> simp

/-- Each condition of R97, with a usable table, is what its number stands for. -/
theorem walkConditions_iff {s : State} {w : WalkTable} (hw : usableWalk s = some w) (p : RefPayload) :
    ∀ c ∈ walkConditions s p, c.2 = true ↔ WalkCondition s p w c.1 := by
  simp only [walkConditions, hw, List.forall_mem_cons, List.not_mem_nil, false_imp_iff, implies_true,
    and_true, WalkCondition]
  refine ⟨trivial, ?_, ?_, parked_iff s, inWindow_iff s w, ?_, ?_, bindingsPresent_iff s w⟩
  · simp
  · simp [inBand_iff, and_assoc]
  · simp [quietDrive_iff]
  · simp

theorem walkConditions_numbers {s : State} {w : WalkTable} (hw : usableWalk s = some w)
    (p : RefPayload) : (walkConditions s p).map (·.1) = [1, 2, 3, 4, 5, 6, 7, 8] := by
  simp [walkConditions, hw]

/-- A number that stands for no condition never fails. -/
theorem mem_numbers_of_not_walkCondition {s : State} {p : RefPayload} {w : WalkTable} {n : Nat}
    (h : ¬ WalkCondition s p w n) : n ∈ [1, 2, 3, 4, 5, 6, 7, 8] := by
  by_contra hn
  refine h ?_
  unfold WalkCondition
  dsimp only
  split
  case h_8 => trivial
  all_goals exact absurd (by decide) hn

/-- What the walk conditions read. -/
theorem walkCondition_congr {s t : State} (hlist : t.alarm.list = s.alarm.list)
    (htables : t.tables = s.tables) (hposition : t.position = s.position) (hswing : t.swing = s.swing)
    (hdrives : t.link.drives = s.link.drives) (hwalk : t.walk = s.walk) (hline : t.line = s.line) :
    WalkCondition t = WalkCondition s := by
  funext p w n
  simp only [WalkCondition, classListed_congr hlist htables, plantOf_congr htables, htables, hposition,
    hswing, hdrives, feedback_congr hwalk, recordOf, hline]

theorem walkCondition_refHeard {s : State}
    (hd : s.link.cabState = .hold → (s.alarm.list.map (·.slot)).Nodup) (p : RefPayload) :
    WalkCondition (refHeard p s) = WalkCondition (heard s) :=
  walkCondition_congr (linkTakesRef_list hd _) (by simp [heard]) (by simp [heard]) (by simp [heard])
    (by simp [heard]) (by simp [heard]) (linkTakesRef_line _ s)

/-! ### A REF in DIG (R97) -/

theorem refDecision_dig {p : RefPayload} {s : State} (h : s.walk.state = .dig) :
    refDecision p s = refInDig p s := by simp [refDecision, h]

theorem refInDig_of_digMode {p : RefPayload} (h : p.walkMode = false) (s : State) :
    refInDig p s = (s, 0) := by simp [refInDig, h]

theorem refInDig_failed {p : RefPayload} {s : State} {n : Nat} (h : p.walkMode = true)
    (hf : firstFailed (walkConditions s p) = some n) : refInDig p s = (s, n) := by
  simp [refInDig, h, hf]

theorem refInDig_met {p : RefPayload} {s : State} (h : p.walkMode = true)
    (hf : firstFailed (walkConditions s p) = none) :
    refInDig p s = (enterState .transferOut .openingDig s, 0) := by simp [refInDig, h, hf]

/-- Without a usable table condition 1 fails. -/
theorem firstFailed_of_unusable {s : State} (h : usableWalk s = none) (p : RefPayload) :
    firstFailed (walkConditions s p) = some 1 := by
  rw [walkConditions, h]
  rfl

/-- The conditions judged are those of the state heard. -/
theorem walkConditions_refHeard_iff {s : State} {w : WalkTable}
    (hd : s.link.cabState = .hold → (s.alarm.list.map (·.slot)).Nodup) (hw : usableWalk s = some w)
    (p : RefPayload) : ∀ c ∈ walkConditions (refHeard p s) p,
      c.2 = true ↔ WalkCondition (heard s) p w c.1 := by
  rw [← walkCondition_refHeard hd p]
  exact walkConditions_iff (by rw [usableWalk_refHeard, hw]) p

theorem walkConditions_refHeard_numbers {s : State} {w : WalkTable} (hw : usableWalk s = some w)
    (p : RefPayload) : (walkConditions (refHeard p s) p).map (·.1) = [1, 2, 3, 4, 5, 6, 7, 8] :=
  walkConditions_numbers (by rw [usableWalk_refHeard, hw]) p

/-! ### A REF in TRANSFER_FAULT (R109) -/

theorem refDecision_fault {p : RefPayload} {s : State} (h : s.walk.state = .transferFault) :
    refDecision p s = refInFault p s := by simp [refDecision, h]

theorem refInFault_shut {s : State} (h : exitOpen s = false) (p : RefPayload) :
    refInFault p s = (s, 13) := by simp [refInFault, h]

theorem refInFault_back {p : RefPayload} {s : State} (h : exitOpen s = true) (hp : p.walkMode = false) :
    refInFault p s = (enterState .transferBack .closingDig s, 0) := by simp [refInFault, h, hp]

theorem refInFault_failed {p : RefPayload} {s : State} {n : Nat} (h : exitOpen s = true)
    (hp : p.walkMode = true)
    (hf : firstFailed ((walkConditions s p).filter fun c => c.1 != 7) = some n) :
    refInFault p s = (s, n) := by simp [refInFault, h, hp, hf]

theorem refInFault_out {p : RefPayload} {s : State} (h : exitOpen s = true) (hp : p.walkMode = true)
    (hf : firstFailed ((walkConditions s p).filter fun c => c.1 != 7) = none) :
    refInFault p s = (enterState .transferOut .closingWalk s, 0) := by simp [refInFault, h, hp, hf]

/-- The exit of TRANSFER_FAULT is open (R109). -/
def ExitOpen (s : State) (w : WalkTable) : Prop :=
  usableWalk s = some w ∧ (∀ e ∈ s.alarm.list, e.slot ≠ 8)
    ∧ feedback s w.digFeedback = .opened ∧ feedback s w.walkFeedback = .opened
    ∧ SettledTo s w.digCommand false ∧ SettledTo s w.walkCommand false

theorem exitOpen_iff (s : State) : exitOpen s = true ↔ ∃ w, ExitOpen s w := by
  unfold exitOpen ExitOpen
  cases usableWalk s with
  | none => simp
  | some w => simp [bothOpen, bothSettledOff, settled_iff, entryOf_none, and_assoc]

/-- The conditions that the exit asks for, all but condition 7. -/
theorem exitConditions_iff {l : List (Nat × Bool)} {P : Nat → Prop} (hl : ∀ c ∈ l, c.2 = true ↔ P c.1) :
    ∀ c ∈ l.filter (fun c => c.1 != 7), c.2 = true ↔ (c.1 ≠ 7 → P c.1) := by
  intro c hc
  obtain ⟨hc, h7⟩ := List.mem_filter.1 hc
  have h7 : c.1 ≠ 7 := by simpa using h7
  simp [hl c hc, h7]

/-- Settles O30. -/
theorem digLeftOnAllConditionsOnly : Obligations.DigLeftOnAllConditionsOnly := by
  unfold Obligations.DigLeftOnAllConditionsOnly
  refine ⟨fun f s hp hc hdig hd => ?dig, fun f s hp hc hfault hd => ?fault⟩
  case dig =>
    intro p
    have hrule : refDecision p (refHeard p s) = refInDig p (refHeard p s) :=
      refDecision_dig (by simpa using hdig)
    refine ⟨takeRef p s, exec_refTaken hp hc, fun hm => ?_, fun hm hn => ?_,
      fun w hm hw => ⟨fun hall => ?_, fun n hbefore hn => ?_⟩⟩
    · exact takeRef_stays (hrule.trans (refInDig_of_digMode hm _))
    · exact takeRef_stays (hrule.trans (refInDig_failed hm
        (firstFailed_of_unusable (by rw [usableWalk_refHeard, hn]) p)))
    · exact takeRef_enters_subStep (hrule.trans (refInDig_met hm
        (firstFailed_eq_none (walkConditions_refHeard_iff hd hw p) hall))) (by decide) hw
    · have hnumbers := walkConditions_refHeard_numbers hw p
      exact takeRef_stays (hrule.trans (refInDig_failed hm
        (firstFailed_eq_some (walkConditions_refHeard_iff hd hw p) (hnumbers ▸ by decide)
          (hnumbers ▸ mem_numbers_of_not_walkCondition hn) hbefore hn)))
  case fault =>
    intro p exit
    have hexit (w : WalkTable) : ExitOpen (refHeard p s) w ↔ exit w := by
      simp only [ExitOpen, exit, usableWalk_refHeard, linkTakesRef_list hd,
        feedback_congr (linkTakesRef_frame p.cycle s).2.2.2.1, settledTo_congr (linkTakesRef_line _ s)]
    have hrule : refDecision p (refHeard p s) = refInFault p (refHeard p s) :=
      refDecision_fault (by simpa using hfault)
    have hopen {w : WalkTable} (he : exit w) : exitOpen (refHeard p s) = true :=
      (exitOpen_iff _).2 ⟨w, (hexit w).2 he⟩
    refine ⟨takeRef p s, exec_refTaken hp hc, fun hno => ?_, fun w he hm => ?_,
      fun w he hm => ⟨fun hall => ?_, fun n h7 hbefore hn => ?_⟩⟩
    · have hshut : exitOpen (refHeard p s) = false := by
        rw [Bool.eq_false_iff, ne_eq, exitOpen_iff]
        exact fun ⟨w, he⟩ => hno w ((hexit w).1 he)
      exact takeRef_stays (hrule.trans (refInFault_shut hshut p))
    · exact takeRef_enters_subStep (hrule.trans (refInFault_back (hopen he) hm)) (by decide) he.1
    · exact takeRef_enters_subStep (hrule.trans (refInFault_out (hopen he) hm (firstFailed_eq_none
        (exitConditions_iff (walkConditions_refHeard_iff hd he.1 p)) hall))) (by decide) he.1
    · have hnumbers : ((walkConditions (refHeard p s) p).filter fun c => c.1 != 7).map (·.1)
          = [1, 2, 3, 4, 5, 6, 8] := by
        have := congrArg (List.filter (· != 7)) (walkConditions_refHeard_numbers he.1 p)
        rwa [List.filter_map] at this
      refine takeRef_stays (hrule.trans (refInFault_failed (hopen he) hm (firstFailed_eq_some
        (exitConditions_iff (walkConditions_refHeard_iff hd he.1 p)) (hnumbers ▸ by decide) ?_ hbefore
        fun himp => hn (himp h7))))
      have hmem := mem_numbers_of_not_walkCondition hn
      rw [hnumbers]
      simp only [List.mem_cons, List.not_mem_nil, or_false] at hmem ⊢
      omega

end Sys2Proof.Machine
end

section
/-! SUPPORT. A REF in the remaining states of the walk sequencer, and the references it leaves at rest (R51,
R95, R98 to R104, R107). -/

namespace Sys2Proof.Machine

/-! ### What a REF does in each state -/

theorem refDecision_startup {s : State} (h : s.walk.state = .startup) (p : RefPayload) :
    refDecision p s = (s, if p.walkMode then 14 else 0) := by simp [refDecision, h]

theorem refDecision_transferBack {s : State} (h : s.walk.state = .transferBack) (p : RefPayload) :
    refDecision p s = (s, if p.walkMode then 12 else 0) := by simp [refDecision, h]

theorem refDecision_transferOut_walk {p : RefPayload} {s : State} (h : s.walk.state = .transferOut)
    (hp : p.walkMode = true) : refDecision p s = (s, 0) := by
  simp [refDecision, h, refInTransferOut, hp]

/-- Mode DIG reverses a transfer out (R98, R99, R100): at once to CLOSING_DIG where the DIG contactor alone
was asked to open and the WALK command is settled de-energised, and otherwise by OPENING_WALK. -/
theorem refDecision_transferOut_dig {p : RefPayload} {s : State} {w : WalkTable}
    (h : s.walk.state = .transferOut) (hp : p.walkMode = false) (hw : usableWalk s = some w) :
    (s.walk.sub = .openingDig ∧ SettledTo s w.walkCommand false →
        refDecision p s = (enterState .transferBack .closingDig s, 0))
      ∧ (¬ (s.walk.sub = .openingDig ∧ SettledTo s w.walkCommand false) →
        refDecision p s = (enterState .transferBack .openingWalk s, 0)) := by
  have hrule : refDecision p s = if s.walk.sub = .openingDig ∧ settled s w.walkCommand false = true
      then (enterState .transferBack .closingDig s, 0)
      else (enterState .transferBack .openingWalk s, 0) := by
    simp [refDecision, h, refInTransferOut, hp, hw]
  rw [← settled_iff, hrule]
  exact ⟨fun hdirect => if_pos hdirect, fun hdirect => if_neg hdirect⟩

/-- Mode DIG in WALK_IDLE (R101). -/
theorem refDecision_walkIdle_dig {p : RefPayload} {s : State} (h : s.walk.state = .walkIdle)
    (hp : p.walkMode = false) : refDecision p s
      = if s.walk.cam = .clear then (enterState .transferBack .openingWalk s, 0) else (s, 10) := by
  simp [refDecision, h, refInWalkIdle, hp]

/-- Mode WALK in WALK_IDLE: the lever, the window and the cam phase in the order of R101. -/
theorem refDecision_walkIdle_walk {p : RefPayload} {s : State} {w : WalkTable}
    (h : s.walk.state = .walkIdle) (hp : p.walkMode = true) (hw : walkOf s = some w) : refDecision p s
      = if aboveBand s p.refs.propel = true then
          if inWindow s w = true then
            if s.walk.cam = .clear then (enterState .stepping .none s, 0) else (s, 10)
          else (s, 9)
        else (s, 0) := by
  simp only [refDecision, h, refInWalkIdle, hp, hw]
  cases inWindow s w <;> simp

theorem aboveBand_iff (s : State) (r : Int) :
    aboveBand s r = true ↔ ((plantOf s).neutralBand : Int) < r := by simp [aboveBand]

/-- In STEPPING and SHOE_HOLD the propel lever alone moves the sequencer (R102, R103). -/
theorem refDecision_stepping {p : RefPayload} {s : State}
    (h : s.walk.state = .stepping ∨ s.walk.state = .shoeHold) :
    (refDecision p s).1.walk.state
        = (if aboveBand s p.refs.propel = true then .stepping
          else if s.walk.state = .stepping ∧ s.walk.cam = .clear then .walkIdle
          else .shoeHold)
      ∧ (refDecision p s).2 = if p.walkMode then 0 else 11 := by
  rcases h with h | h
  · simp only [refDecision, h, refInStepping, stepCode]
    split_ifs <;> simp_all [enterState_walk]
  · simp only [refDecision, h, refInShoeHold, stepCode]
    split_ifs <;> simp_all [enterState_walk]

/-! ### What the decisions read, as the REF is heard -/

theorem aboveBand_refHeard (p : RefPayload) (s : State) : aboveBand (refHeard p s) = aboveBand s := by
  funext r
  rw [aboveBand, plantOf_congr (s := s) (by simp), aboveBand]

theorem inWindow_refHeard (p : RefPayload) (s : State) (w : WalkTable) :
    inWindow (refHeard p s) w = true ↔ ∃ a, s.swing.corrected = some a
      ∧ ((a : Int) - w.windowStart) % 36000 < ((w.windowEnd : Int) - w.windowStart) % 36000 := by
  simp [inWindow_iff, arcContains_iff]

/-! ### References at rest (R51, R104) -/

theorem takeRef_rest {p : RefPayload} {s : State} {m : Motion}
    (h : (refDecided p s).shaper.gates.get m ≠ .passing ∨ walkPermits (takeRef p s) m = false) :
    (takeRef p s).shaper.lastRefs.get m = 0 := by
  obtain ⟨hshaper, hwalk, -, -⟩ := takeRef_shaped p s
  rw [walkPermits_congr hwalk] at h
  rw [hshaper]
  exact forwardRefs_rest (zero_mem_commonTerms (h.imp_right fun hw => .inr (.inr hw))) _ _

/-- Outside DIG neither drum moves (R51). -/
theorem takeRef_drums_rest {p : RefPayload} {s : State} (h : (takeRef p s).walk.state ≠ .dig) :
    (takeRef p s).shaper.lastRefs.hoist = 0 ∧ (takeRef p s).shaper.lastRefs.drag = 0 :=
  ⟨takeRef_rest (m := .hoist) (.inr (by simpa [walkPermits] using h)),
    takeRef_rest (m := .drag) (.inr (by simpa [walkPermits] using h))⟩

/-- Outside STEPPING the propel motion rests (R51). -/
theorem takeRef_propel_rest {p : RefPayload} {s : State} (h : (takeRef p s).walk.state ≠ .stepping) :
    (takeRef p s).shaper.lastRefs.propel = 0 :=
  takeRef_rest (m := .propel) (.inr (by simpa [walkPermits] using h))

/-- The swing motion rests as STEPPING ends: WALK_IDLE would permit it, but its gate closes (R51, R104). -/
theorem takeRef_swing_rest {p : RefPayload} {s : State} (hdig : (takeRef p s).walk.state ≠ .dig)
    (hidle : (takeRef p s).walk.state = .walkIdle → s.walk.state = .stepping) :
    (takeRef p s).shaper.lastRefs.swing = 0 := by
  refine takeRef_rest (m := .swing) ?_
  by_cases hx : (takeRef p s).walk.state = .walkIdle
  · refine .inl fun hopen => ((refDecided_gate p s .swing).1 hopen).2 ⟨rfl, hidle hx, ?_⟩
    rw [← (takeRef_shaped p s).2.1, hx]
  · exact .inr (by simp [walkPermits, hdig, hx])

/-- Settles O32. -/
theorem steppingFollowsTheLever : Obligations.SteppingFollowsTheLever := by
  unfold Obligations.SteppingFollowsTheLever
  refine ⟨fun f s hp hc hs => ?lever, fun f s hp hc => ?others⟩
  case lever =>
    intro p
    have hwalk : (refHeard p s).walk = s.walk := by simp
    obtain ⟨hstate, hcode⟩ := refDecision_stepping (p := p) (s := refHeard p s) (by rwa [hwalk])
    simp only [aboveBand_refHeard, hwalk, aboveBand_iff] at hstate
    have hstate' : (takeRef p s).walk.state = _ := (congrArg (·.state) (takeRef_walk p s)).trans hstate
    have hdig : (takeRef p s).walk.state ≠ .dig := by
      rw [hstate']
      split_ifs <;> simp
    have hidle : (takeRef p s).walk.state = .walkIdle → s.walk.state = .stepping := by
      rw [hstate']
      split_ifs with _ hx <;> simp [*]
    obtain ⟨hhoist, hdrag⟩ := takeRef_drums_rest hdig
    exact ⟨takeRef p s, exec_refTaken hp hc, hstate',
      (congrArg (·.refusal) (takeRef_walk p s)).trans hcode, by simp [takeRef_eq],
      by simp [takeRef_eq], takeRef_propel_rest, hhoist, hdrag, takeRef_swing_rest hdig hidle⟩
  case others =>
    intro p above
    have hwalk : (refHeard p s).walk = s.walk := by simp
    have habove : aboveBand (refHeard p s) p.refs.propel = true ↔ above := by
      rw [aboveBand_refHeard, aboveBand_iff]
    refine ⟨takeRef p s, exec_refTaken hp hc,
      fun hx => takeRef_stays (refDecision_startup (by rw [hwalk, hx]) p),
      fun hx => takeRef_stays (refDecision_transferBack (by rw [hwalk, hx]) p),
      fun hx hm => takeRef_stays (refDecision_transferOut_walk (by rw [hwalk, hx]) hm),
      fun w hx hm hw => ?out, fun w hx hw => ?idle⟩
    case out =>
      intro back direct
      obtain ⟨hback, hopening⟩ := refDecision_transferOut_dig (s := refHeard p s) (by rw [hwalk, hx]) hm
        (by rw [usableWalk_refHeard, hw])
      rw [hwalk, settledTo_congr (linkTakesRef_line _ s)] at hback hopening
      exact ⟨fun hd => takeRef_enters_subStep (hback hd) (by decide) hw,
        fun hd => takeRef_enters_subStep (hopening hd) (by decide) hw⟩
    case idle =>
      intro window
      have hdig (hm : p.walkMode = false) := refDecision_walkIdle_dig (s := refHeard p s)
        (by rw [hwalk, hx]) hm
      have hlever (hm : p.walkMode = true) := refDecision_walkIdle_walk (s := refHeard p s)
        (by rw [hwalk, hx]) hm (usableWalk_eq_some ((usableWalk_refHeard p s).trans hw)).2
      simp only [habove, inWindow_refHeard, hwalk] at hdig hlever
      refine ⟨fun hm hcam => ?_, fun hm hcam => ?_, fun hm ha => ?_, fun hm ha hin => ?_,
        fun hm ha hin hcam => ?_, fun hm ha hin hcam => ?_⟩
      · exact takeRef_enters_subStep ((hdig hm).trans (if_pos hcam)) (by decide) hw
      · exact takeRef_stays ((hdig hm).trans (if_neg hcam))
      · exact takeRef_stays ((hlever hm).trans (if_neg ha))
      · exact takeRef_stays ((hlever hm).trans ((if_pos ha).trans (if_neg hin)))
      · exact takeRef_stays ((hlever hm).trans ((if_pos ha).trans ((if_pos hin).trans (if_neg hcam))))
      · exact takeRef_enters ((hlever hm).trans ((if_pos ha).trans ((if_pos hin).trans (if_pos hcam))))

end Sys2Proof.Machine
end

section
/-! SUPPORT. A sweep over stations that answer cleanly: one pass, and the identities pass after pass (R116,
R117). -/

namespace Sys2Proof.Machine

/-! ### Identities bit by bit -/

/-- Two identities agree above bit k, where the first has 0 and the second 1. -/
def Diverge (i j : Identity) (k : Nat) : Prop :=
  i.getLsbD k = false ∧ j.getLsbD k = true ∧ ∀ q, k < q → i.getLsbD q = j.getLsbD q

theorem Diverge.lt {i j : Identity} {k : Nat} (h : Diverge i j k) : i.toNat < j.toNat :=
  Nat.lt_of_testBit k h.1 h.2.1 h.2.2

theorem Diverge.lt_width {i j : Identity} {k : Nat} (h : Diverge i j k) : k < 48 := by
  by_contra hk
  have := h.2.1
  rw [BitVec.getLsbD_of_ge _ _ (not_lt.1 hk)] at this
  cases this

/-- Two identities diverge at their highest bit that differs, or are the same. -/
theorem diverge_cases (i j : Identity) : i = j ∨ ∃ k, Diverge i j k ∨ Diverge j i k := by
  by_cases h : i = j
  · exact .inl h
  have hne : (i ^^^ j).toNat ≠ 0 := fun h0 => h (by
    have := BitVec.eq_of_toNat_eq (y := 0#48) h0
    simpa using this)
  obtain ⟨k, hk, hk'⟩ := Nat.exists_most_significant_bit hne
  have hbit (q : Nat) : (i ^^^ j).toNat.testBit q = (i.getLsbD q ^^ j.getLsbD q) :=
    BitVec.getLsbD_xor
  simp only [hbit] at hk hk'
  have hsame (q : Nat) (hq : k < q) : i.getLsbD q = j.getLsbD q := by simpa using hk' q hq
  refine .inr ⟨k, ?_⟩
  cases hi : i.getLsbD k
  · exact .inl ⟨hi, by simpa [hi] using hk, hsame⟩
  · exact .inr ⟨by simpa [hi] using hk, hi, fun q hq => (hsame q hq).symm⟩

theorem exists_diverge {i j : Identity} (h : i.toNat < j.toNat) : ∃ k, Diverge i j k := by
  rcases diverge_cases i j with rfl | ⟨k, hd | hd⟩
  · exact absurd h (lt_irrefl _)
  · exact ⟨k, hd⟩
  · exact absurd h hd.lt.le.not_gt

/-! ### One pass (R116, R117) -/

/-- Two identities agree at the positions from k + 1 to n − 1. -/
def AgreeBelow (n k : Nat) (i j : Identity) : Prop := ∀ q, k < q → q < n → i.getLsbD q = j.getLsbD q

/-- What the slots from position n − 1 down leave of the participants `ps`: one of them, i, such that the
part chose each bit of it that another participant, in step with i so far, contradicts; `low` is the lowest
position at which it chose 0, `before` that of the slots above. -/
def PassLeaves (sweep : Sweep) (n : Nat) (ps : List Identity) (before : Option Nat) (i : Identity)
    (low : Option Nat) : Prop :=
  i ∈ ps
    ∧ (∀ k j, k < n → j ∈ ps → AgreeBelow n k i j → j.getLsbD k ≠ i.getLsbD k →
        i.getLsbD k = chosenBit sweep k)
    ∧ (∀ k j, k < n → j ∈ ps → AgreeBelow n k i j → i.getLsbD k = false → j.getLsbD k = true →
        ∃ m, low = some m ∧ m ≤ k)
    ∧ (low = before ∨ ∃ m j, low = some m ∧ m < n ∧ j ∈ ps ∧ AgreeBelow n m i j
        ∧ i.getLsbD m = false ∧ j.getLsbD m = true)

/-- The slot at position n: where the participants differ the part chooses the bit sent, otherwise it is
theirs. -/
theorem slotBit_slotReads (sweep : Sweep) (n : Nat) {ps : List Identity} (h : ps ≠ []) :
    ∃ b both, slotBit sweep n (slotReads ps n) = some (b, both)
      ∧ (ps.filter fun i => i.getLsbD n == b) ≠ []
      ∧ (both = true → b = chosenBit sweep n ∧ ∃ j ∈ ps, j.getLsbD n = !b)
      ∧ (both = false → ∀ j ∈ ps, j.getLsbD n = b) := by
  obtain ⟨x, hx⟩ := List.exists_mem_of_ne_nil ps h
  have hfilter (b : Bool) (i : Identity) (hi : i ∈ ps) (hb : i.getLsbD n = b) :
      (ps.filter fun i => i.getLsbD n == b) ≠ [] :=
    List.ne_nil_of_mem (List.mem_filter.2 ⟨hi, by simp [hb]⟩)
  rcases hone : ps.all (·.getLsbD n) with _ | _
  · rcases hzero : ps.all (fun i => !i.getLsbD n) with _ | _
    · obtain ⟨z, hz, hzb⟩ : ∃ z ∈ ps, z.getLsbD n = false := by simpa using hone
      obtain ⟨o, ho, hob⟩ : ∃ o ∈ ps, o.getLsbD n = true := by simpa using hzero
      refine ⟨chosenBit sweep n, true, by simp [slotBit, slotReads, hone, hzero], ?_, ?_, nofun⟩
      all_goals cases hc : chosenBit sweep n
      exacts [hfilter _ z hz hzb, hfilter _ o ho hob, fun _ => ⟨rfl, o, ho, hob⟩,
        fun _ => ⟨rfl, z, hz, hzb⟩]
    · have hall : ∀ j ∈ ps, j.getLsbD n = false := by simpa using hzero
      exact ⟨false, false, by simp [slotBit, slotReads, hone, hzero], hfilter _ x hx (hall x hx), nofun,
        fun _ => hall⟩
  · have hall : ∀ j ∈ ps, j.getLsbD n = true := by simpa using hone
    have hzero : ps.all (fun i => !i.getLsbD n) = false := by simpa using ⟨x, hx, hall x hx⟩
    exact ⟨true, false, by simp [slotBit, slotReads, hone, hzero], hfilter _ x hx (hall x hx), nofun,
      fun _ => hall⟩

theorem AgreeBelow.of_succ {n k : Nat} {i j : Identity} (h : AgreeBelow (n + 1) k i j) :
    AgreeBelow n k i j := fun q hk hq => h q hk (Nat.lt_succ_of_lt hq)

theorem AgreeBelow.succ {n k : Nat} {i j : Identity} (h : AgreeBelow n k i j)
    (hn : i.getLsbD n = j.getLsbD n) : AgreeBelow (n + 1) k i j := fun q hk hq => by
  rcases Nat.lt_succ_iff_lt_or_eq.1 hq with hq | rfl
  · exact h q hk hq
  · exact hn

/-- One slot more: what the slots below leave of those in step is what the slots leave of all. -/
theorem PassLeaves.succ {sweep : Sweep} {n : Nat} {ps : List Identity} {b both : Bool}
    {before low : Option Nat} {i : Identity}
    (hboth : both = true → b = chosenBit sweep n ∧ ∃ j ∈ ps, j.getLsbD n = !b)
    (hsame : both = false → ∀ j ∈ ps, j.getLsbD n = b)
    (h : PassLeaves sweep n (ps.filter fun j => j.getLsbD n == b)
      (if both && !b then some n else before) i low) :
    PassLeaves sweep (n + 1) ps before i low := by
  obtain ⟨hi, hchosen, hopen, hlow⟩ := h
  obtain ⟨hps, hib⟩ : i ∈ ps ∧ i.getLsbD n = b := by simpa using hi
  have inStep {j : Identity} (hj : j ∈ ps) {k : Nat} (hk : k < n) (ha : AgreeBelow (n + 1) k i j) :
      j ∈ ps.filter fun j => j.getLsbD n == b :=
    List.mem_filter.2 ⟨hj, by simpa [hib] using (ha n hk (Nat.lt_succ_self n)).symm⟩
  refine ⟨hps, fun k j hk hj ha hd => ?_, fun k j hk hj ha hi0 hj1 => ?_, ?_⟩
  · rcases Nat.lt_succ_iff_lt_or_eq.1 hk with hk | rfl
    · exact hchosen k j hk (inStep hj hk ha) ha.of_succ hd
    · cases both
      · exact absurd ((hsame rfl j hj).trans hib.symm) hd
      · rw [hib, (hboth rfl).1]
  · rcases Nat.lt_succ_iff_lt_or_eq.1 hk with hk | rfl
    · exact hopen k j hk (inStep hj hk ha) ha.of_succ hi0 hj1
    · have hb : b = false := hib.symm.trans hi0
      cases both
      · rw [hsame rfl j hj, hb] at hj1
        cases hj1
      · rcases hlow with hl | ⟨m, -, hl, hm, -⟩
        · exact ⟨k, by simpa [hb] using hl, le_rfl⟩
        · exact ⟨m, hl, hm.le⟩
  · rcases hlow with hl | ⟨m, j, hl, hm, hj, ha, hi0, hj1⟩
    · cases hc : both && !b
      · exact .inl (by simpa [hc] using hl)
      · simp only [Bool.and_eq_true, Bool.not_eq_true'] at hc
        obtain ⟨hbt, hbf⟩ := hc
        obtain ⟨-, j, hj, hjb⟩ := hboth hbt
        refine .inr ⟨n, j, by simpa [hbt, hbf] using hl, Nat.lt_succ_self n, hj, ?_, ?_, ?_⟩
        · intro q hq hq'
          omega
        · rw [hib, hbf]
        · simpa [hbf] using hjb
    · obtain ⟨hj, hjb⟩ : j ∈ ps ∧ j.getLsbD n = b := by simpa using hj
      exact .inr ⟨m, j, hl, Nat.lt_succ_of_lt hm, hj, ha.succ (hib.trans hjb.symm), hi0, hj1⟩

/-- The slots of a pass in which stations take part leave one of them (R116). -/
theorem passSlots_passReads (sweep : Sweep) :
    ∀ (n : Nat) (ps : List Identity) (sent : Nat) (before : Option Nat), ps ≠ [] →
      ∃ i low, passSlots sweep n (passReads sweep n ps) sent before
          = some (2 ^ n * sent + i.toNat % 2 ^ n, low)
        ∧ PassLeaves sweep n ps before i low
  | 0, ps, sent, before, h => by
    obtain ⟨i, hi⟩ := List.exists_mem_of_ne_nil ps h
    refine ⟨i, before, by simp [passSlots, Nat.mod_one], hi, ?_, ?_, .inl rfl⟩
    · exact fun k j hk => absurd hk (Nat.not_lt_zero k)
    · exact fun k j hk => absurd hk (Nat.not_lt_zero k)
  | n + 1, ps, sent, before, h => by
    obtain ⟨b, both, hslot, hne, hboth, hsame⟩ := slotBit_slotReads sweep n h
    obtain ⟨i, low, hrest, hleaves⟩ := passSlots_passReads sweep n (ps.filter fun i => i.getLsbD n == b)
      (2 * sent + b.toNat) (if both && !b then some n else before) hne
    have hib : i.getLsbD n = b := by simpa using (List.mem_filter.1 hleaves.1).2
    refine ⟨i, low, ?_, hleaves.succ hboth hsame⟩
    have hvalue : 2 ^ n * (2 * sent + b.toNat) + i.toNat % 2 ^ n
        = 2 ^ (n + 1) * sent + i.toNat % 2 ^ (n + 1) := by
      have hmod : i.toNat % 2 ^ (n + 1) = i.toNat % 2 ^ n + 2 ^ n * b.toNat := by
        rw [Nat.mod_pow_succ, ← hib, BitVec.getLsbD, Nat.toNat_testBit]
      rw [hmod, pow_succ]
      ring
    simp only [passReads, hslot, passSlots, List.headD_cons, List.tail_cons]
    rw [hrest, hvalue]

/-- The marker after a pass that yields i: at its position another participant first goes on above i, and
no participant goes on above i at a lower one; without a marker none does (R117). -/
def MarkerFits (ps : List Identity) (i : Identity) (marker : Option Nat) : Prop :=
  (∀ m, marker = some m → ∃ j ∈ ps, Diverge i j m)
    ∧ ∀ k, ∀ j ∈ ps, Diverge i j k → ∃ m, marker = some m ∧ m ≤ k

/-- A pass in which stations take part yields one of them: of the bits that another in step with it
contradicts, each is the one the part chose (R116, R117). -/
theorem runPass_passAnswer (sweep : Sweep) {ps : List Identity} (h : ps ≠ []) :
    ∃ i marker, runPass sweep (passAnswer sweep ps) = some (i, marker) ∧ i ∈ ps
      ∧ MarkerFits ps i marker
      ∧ ∀ k, ∀ j ∈ ps, (∀ q, k < q → i.getLsbD q = j.getLsbD q) → j.getLsbD k ≠ i.getLsbD k →
        i.getLsbD k = chosenBit sweep k := by
  obtain ⟨i, low, hpass, hi, hchosen, hopen, hlow⟩ := passSlots_passReads sweep 48 ps 0 none h
  have beyond {q : Nat} (hq : ¬ q < 48) (i j : Identity) : i.getLsbD q = j.getLsbD q := by
    rw [BitVec.getLsbD_of_ge _ _ (not_lt.1 hq), BitVec.getLsbD_of_ge _ _ (not_lt.1 hq)]
  refine ⟨i, low, ?_, hi, ⟨fun m hm => ?_, fun k j hj hd => ?_⟩, fun k j hj ha hd => ?_⟩
  · have hvalue : BitVec.ofNat 48 (2 ^ 48 * 0 + i.toNat % 2 ^ 48) = i := by
      rw [Nat.mul_zero, Nat.zero_add, Nat.mod_eq_of_lt i.isLt, BitVec.ofNat_toNat, BitVec.setWidth_eq]
    simp only [runPass, passAnswer, hpass, Option.map_some, hvalue]
  · rcases hlow with hl | ⟨m', j, hl, -, hj, ha, hi0, hj1⟩
    · rw [hl] at hm
      cases hm
    · obtain rfl : m' = m := by simpa [hl] using hm
      refine ⟨j, hj, hi0, hj1, fun q hq => ?_⟩
      by_cases hw : q < 48
      · exact ha q hq hw
      · exact beyond hw i j
  · exact hopen k j hd.lt_width hj (fun q hq _ => hd.2.2 q hq) hd.1 hd.2.1
  · refine hchosen k j ?_ hj (fun q hq _ => ha q hq) hd
    by_contra hk
    exact hd (beyond hk j i)

/-! ### Pass after pass (R117) -/

/-- The first pass yields the least of the participants. -/
theorem firstPass_least {ps : List Identity} (h : ps ≠ []) :
    ∃ i marker, runPass firstSweep (passAnswer firstSweep ps) = some (i, marker) ∧ i ∈ ps
      ∧ MarkerFits ps i marker ∧ ∀ j ∈ ps, i.toNat ≤ j.toNat := by
  obtain ⟨i, marker, hrun, hi, hfits, hchosen⟩ := runPass_passAnswer firstSweep h
  refine ⟨i, marker, hrun, hi, hfits, fun j hj => not_lt.1 fun hlt => ?_⟩
  obtain ⟨k, hj0, hi1, ha⟩ := exists_diverge hlt
  have := hchosen k j hj (fun q hq => (ha q hq).symm) (by simp [hj0, hi1])
  rw [hi1] at this
  cases this

/-- A pass after one that yielded p yields the least of the participants above p. -/
theorem nextPass_least {ps : List Identity} {p : Identity} {m : Nat} (hp : p ∈ ps)
    (hm : MarkerFits ps p (some m)) :
    ∃ i marker, runPass ⟨some m, p⟩ (passAnswer ⟨some m, p⟩ ps) = some (i, marker) ∧ i ∈ ps
      ∧ MarkerFits ps i marker ∧ p.toNat < i.toNat ∧ ∀ j ∈ ps, p.toNat < j.toNat → i.toNat ≤ j.toNat := by
  obtain ⟨i, marker, hrun, hi, hfits, hchosen⟩ :=
    runPass_passAnswer ⟨some m, p⟩ (List.ne_nil_of_mem hp)
  have habove {k : Nat} (hk : m < k) : chosenBit ⟨some m, p⟩ k = p.getLsbD k := by
    simp [chosenBit, hk]
  have hat : chosenBit ⟨some m, p⟩ m = true := by simp [chosenBit]
  have hbelow {k : Nat} (hk : k < m) : chosenBit ⟨some m, p⟩ k = false := by
    simp [chosenBit, hk.not_gt, hk.ne]
  obtain ⟨c, hc, hp0, hc1, hpc⟩ := hm.1 m rfl
  have hstep : Diverge p i m := by
    have hlead : ∀ q, m < q → p.getLsbD q = i.getLsbD q := by
      rcases diverge_cases p i with rfl | ⟨k, hd⟩
      · exact fun _ _ => rfl
      · have hagree : (∀ q, k < q → p.getLsbD q = i.getLsbD q) ∧ p.getLsbD k ≠ i.getLsbD k := by
          rcases hd with ⟨h0, h1, ha⟩ | ⟨h0, h1, ha⟩
          · exact ⟨ha, by simp [h0, h1]⟩
          · exact ⟨fun q hq => (ha q hq).symm, by simp [h0, h1]⟩
        have hk : k ≤ m := by
          by_contra hk
          rw [not_le] at hk
          exact hagree.2 ((habove hk).symm.trans
            (hchosen k p hp (fun q hq => (hagree.1 q hq).symm) hagree.2).symm)
        exact fun q hq => hagree.1 q (by omega)
    refine ⟨hp0, ?_, hlead⟩
    by_contra h0
    rw [Bool.not_eq_true] at h0
    have := hchosen m c hc (fun q hq => (hlead q hq).symm.trans (hpc q hq)) (by simp [h0, hc1])
    rw [h0, hat] at this
    cases this
  refine ⟨i, marker, hrun, hi, hfits, hstep.lt, fun j hj hpj => ?_⟩
  obtain ⟨k, hd⟩ := exists_diverge hpj
  obtain ⟨m', hm', hle⟩ := hm.2 k j hj hd
  obtain rfl : m = m' := by simpa using hm'
  rcases hle.lt_or_eq with hlt | rfl
  · exact (Diverge.lt (k := k) ⟨(hstep.2.2 k hlt).symm.trans hd.1, hd.2.1,
      fun q hq => (hstep.2.2 q (hlt.trans hq)).symm.trans (hd.2.2 q hq)⟩).le
  · refine not_lt.1 fun hji => ?_
    obtain ⟨q, hj0, hi1, ha⟩ := exists_diverge hji
    have hq : q < m := by
      by_contra hq
      rcases (not_lt.1 hq).lt_or_eq with hq | rfl
      · rw [← hd.2.2 q hq, hstep.2.2 q hq, hi1] at hj0
        cases hj0
      · rw [hd.2.1] at hj0
        cases hj0
    have := hchosen q j hj (fun r hr => (ha r hr).symm) (by simp [hj0, hi1])
    rw [hi1, hbelow hq] at this
    cases this

/-- A pass that yields i, and then the passes that yield what lies above i: they yield i and what lies above
it. -/
theorem sweepYields_pass {ps : List Identity} {n : Nat} {sweep : Sweep} {i : Identity} {marker : Option Nat}
    (hrun : runPass sweep (passAnswer sweep ps) = some (i, marker)) (hi : i ∈ ps)
    (hfits : MarkerFits ps i marker)
    (hrest : ∀ m, marker = some m → Ascending (sweepYields ps n ⟨some m, i⟩)
      ∧ ∀ j, j ∈ sweepYields ps n ⟨some m, i⟩ ↔ j ∈ ps ∧ i.toNat < j.toNat) :
    Ascending (sweepYields ps (n + 1) sweep)
      ∧ ∀ j, j ∈ sweepYields ps (n + 1) sweep ↔ j ∈ ps ∧ i.toNat ≤ j.toNat := by
  obtain ⟨rest, hyields, hasc, hmem⟩ : ∃ rest, sweepYields ps (n + 1) sweep = i :: rest
      ∧ Ascending rest ∧ ∀ j, j ∈ rest ↔ j ∈ ps ∧ i.toNat < j.toNat := by
    cases marker with
    | none =>
      refine ⟨[], by simp [sweepYields, hrun], .nil, fun j => ?_⟩
      refine iff_of_false List.not_mem_nil fun ⟨hj, hij⟩ => ?_
      obtain ⟨k, hd⟩ := exists_diverge hij
      obtain ⟨m, hm, -⟩ := hfits.2 k j hj hd
      cases hm
    | some m => exact ⟨_, by simp [sweepYields, hrun], hrest m rfl⟩
  rw [hyields]
  refine ⟨List.pairwise_cons.2 ⟨fun j hj => ((hmem j).1 hj).2, hasc⟩, fun j => ?_⟩
  rw [List.mem_cons, hmem]
  constructor
  · rintro (rfl | ⟨hj, hij⟩)
    · exact ⟨hi, le_rfl⟩
    · exact ⟨hj, hij.le⟩
  · rintro ⟨hj, hij⟩
    rcases hij.eq_or_lt with he | hlt
    · exact .inl (BitVec.eq_of_toNat_eq he.symm)
    · exact .inr ⟨hj, hlt⟩

/-- How many participants stand above an identity bounds the passes that go on after it. -/
def countAbove (ps : List Identity) (p : Identity) : Nat := ps.countP fun j => decide (p.toNat < j.toNat)

theorem countAbove_lt_length {ps : List Identity} {i : Identity} (hi : i ∈ ps) :
    countAbove ps i < ps.length := by
  refine lt_of_le_of_ne List.countP_le_length fun h => ?_
  simpa using List.countP_eq_length.1 h i hi

theorem countAbove_lt {ps : List Identity} {p i : Identity} (hi : i ∈ ps) (hpi : p.toNat < i.toNat) :
    countAbove ps i < countAbove ps p := by
  have hfilter : countAbove ps i = countAbove (ps.filter fun j => decide (p.toNat < j.toNat)) i := by
    rw [countAbove, countAbove, List.countP_filter]
    refine List.countP_congr fun j _ => ?_
    simp only [Bool.and_eq_true, decide_eq_true_eq]
    exact ⟨fun h => ⟨h, hpi.trans h⟩, fun h => h.1⟩
  rw [hfilter, countAbove.eq_def ps p, List.countP_eq_length_filter]
  exact countAbove_lt_length (List.mem_filter.2 ⟨hi, by simpa using hpi⟩)

/-- The sweep that goes on after p yields the participants above p, in ascending order. -/
theorem sweepYields_above {ps : List Identity} :
    ∀ (n : Nat) (p : Identity) (m : Nat), p ∈ ps → MarkerFits ps p (some m) → countAbove ps p ≤ n →
      Ascending (sweepYields ps n ⟨some m, p⟩)
        ∧ ∀ j, j ∈ sweepYields ps n ⟨some m, p⟩ ↔ j ∈ ps ∧ p.toNat < j.toNat
  | 0, p, m, hp, hm, hn => by
    obtain ⟨j, hj, hd⟩ := hm.1 m rfl
    exact absurd (countAbove_lt hj hd.lt) (by omega)
  | n + 1, p, m, hp, hm, hn => by
    obtain ⟨i, marker, hrun, hi, hfits, hpi, hleast⟩ := nextPass_least hp hm
    obtain ⟨hasc, hmem⟩ := sweepYields_pass (n := n) hrun hi hfits fun m' hm' =>
      sweepYields_above n i m' hi (hm' ▸ hfits) (by have := countAbove_lt hi hpi; omega)
    refine ⟨hasc, fun j => (hmem j).trans ?_⟩
    exact ⟨fun ⟨hj, hij⟩ => ⟨hj, hpi.trans_le hij⟩, fun ⟨hj, hpj⟩ => ⟨hj, hleast j hj hpj⟩⟩

/-- A pass in which no station takes part ends without an identity (R116). -/
theorem runPass_nobody (sweep : Sweep) : runPass sweep (passAnswer sweep []) = none := by
  simp [runPass, passAnswer, passReads, passSlots, slotReads, slotBit]

/-- A sweep yields the participants, each once, in ascending order (R116, R117). -/
theorem sweepYields_participants (ps : List Identity) (n : Nat) (hn : ps.length ≤ n) :
    Ascending (sweepYields ps n firstSweep) ∧ ∀ i, i ∈ sweepYields ps n firstSweep ↔ i ∈ ps := by
  rcases eq_or_ne ps [] with rfl | hne
  · have : sweepYields [] n firstSweep = [] := by
      cases n <;> simp [sweepYields, runPass_nobody]
    simp [this, Ascending]
  obtain ⟨i, marker, hrun, hi, hfits, hleast⟩ := firstPass_least hne
  have hlt := countAbove_lt_length hi
  cases n with
  | zero => omega
  | succ n =>
    obtain ⟨hasc, hmem⟩ := sweepYields_pass (n := n) hrun hi hfits fun m hm =>
      sweepYields_above n i m hi (hm ▸ hfits) (by omega)
    exact ⟨hasc, fun j => (hmem j).trans ⟨And.left, fun hj => ⟨hj, hleast j hj⟩⟩⟩

end Sys2Proof.Machine
end

section
/-! SUPPORT. What every command leaves of the lists of the sweeps (R124, R130), and of a transaction whose
round has ended (R132). -/

namespace Sys2Proof.Machine

/-! ### What the commands off the line leave of it -/

/-- Between two states the active STATION table, the found list, what is in flight and the transaction that
still finishes are as before. -/
def LineStays (s t : State) : Prop :=
  t.tables.active.station = s.tables.active.station ∧ t.line.found = s.line.found
    ∧ t.line.flight = s.line.flight ∧ t.line.finishing = s.line.finishing

theorem LineStays.refl (s : State) : LineStays s s := ⟨rfl, rfl, rfl, rfl⟩

theorem LineStays.sweepLists {s t : State} (h : LineStays s t) (hs : SweepListsInv s) : SweepListsInv t :=
  sweepListsInv_congr hs h.1 h.2.1 fun _ he => .inl (h.2.2.1 ▸ he)

theorem LineStays.finishing {s t : State} (h : LineStays s t) (hs : FinishingInv s) : FinishingInv t := by
  obtain ⟨-, -, hflight, hfinishing⟩ := h
  unfold FinishingInv
  rw [hflight, hfinishing]
  exact hs

/-- The commands that begin or complete something on the line, or start it. -/
def reachesLine : Instr → Bool
  | .scanTimerExpiry => true
  | .deferredRoundStart => true
  | .enrollmentSweepStart => true
  | .writeOutputs _ => true
  | .writeCondition _ => true
  | .readClearing _ => true
  | .seekIfPass _ => true
  | .seekPass _ => true
  | .roundCompletion => true
  | .restartTakesEffect => true
  | .powerOnStart _ => true
  | .briefSupplyDipEnd => true
  | .supplyLoss => true
  | .tableCommit _ => true
  | .stationEnroll _ => true
  | _ => false

/-- No owner of a request reaches the line but those of TABLE COMMIT and STATION ENROLL. -/
theorem requestOf_line {c : Instr} {q : Nat × Rules × List Byte} (hq : requestOf c = some q)
    (hc : reachesLine c = false) (tag : Byte) (p : List Byte) (s : State) :
    LineStays s (q.2.1.run tag p s).1 := by
  cases c
  all_goals cases hq
  case tableCommit | stationEnroll => cases hc
  all_goals
    simp [LineStays, identifyRules, tableStateRules, tableReadRules, tableBeginRules, tableBlockRules,
      tableEndRules, limitsReadRules, limitsSetRules, stationStatusRules, stationOutputRules,
      alarmListReadRules, alarmAcknowledgeRules, alarmReAnnounceRules, firstOutReadRules,
      firstOutClearRules, logReadRules, keySetRules, keyUnlockRules, keyClearRules, guardRules,
      freezeRules, restartRules, undefinedRules, readAnswer, refuse]

/-- What holds of the state a request's owner leaves, and is kept where only its answer is added, holds
after the request. -/
theorem takeRequest_keeps {P : State → Prop} (hp : ∀ {s t : State}, LineStays s t → P s → P t)
    {s : State} (hs : P s) {r : Rules} (hrun : ∀ tag p, P (r.run tag p s).1) (code : Nat)
    (f : List Byte) : P (takeRequest code r f s) := by
  have hown : P (checkRequest r f s).1 := by
    unfold checkRequest
    (repeat' split)
    · exact hs
    · exact hs
    · exact hrun _ _
  unfold takeRequest answerRequest
  (repeat' split)
  · exact hp (by simp [LineStays]) hown
  · exact hp (by simp [LineStays]) hown
  · exact hs

theorem LineStays.trans {s t u : State} (h : LineStays s t) (h' : LineStays t u) : LineStays s u :=
  ⟨h'.1.trans h.1, h'.2.1.trans h.2.1, h'.2.2.1.trans h.2.2.1, h'.2.2.2.trans h.2.2.2⟩

/-- A command that does not reach the line leaves it. -/
theorem lineStays_exec {c : Instr} {s t : State} (hc : reachesLine c = false) (he : exec c s = .next t) :
    LineStays s t := by
  have stays := LineStays.refl s
  rcases hq : requestOf c with _ | q
  case some =>
    rcases exec_requestOf hq he with rfl | rfl
    · exact takeRequest_keeps (P := LineStays s) (fun h hs => hs.trans h) stays
        (fun tag p => requestOf_line hq hc tag p s) _ _
    · exact stays
  cases c with
  | frameDiscarded | mreqDiscarded => cases he; exact stays
  | statTaken f =>
    refine keeps_of_guard stays (fun _ => ?_) he
    split
    · simp [LineStays, takeStat_eq]
    · exact stays
    · exact stays
  | refTakenFromCab f =>
    exact keeps_of_guard stays (fun _ => by simp [LineStays, takeRef_eq, refForwarded, refDecided]) he
  | briefSupplyDipStart =>
    exact keeps_of_guard stays (fun _ => by simp [LineStays, dipStart]) he
  | passTraffic | transmissionCompletion | deferredConfirmationOffered | cabSilenceTimerExpiry
  | holdTimerExpiry | driveSilenceTimerExpiry | transferTimerExpiry | delayTimerExpiry
  | timeCounterTick | retainedWriteCompletion =>
    exact keeps_of_guard stays (fun _ => by simp [LineStays]) he
  | _ => simp [requestOf, reachesLine] at hq hc

/-! ### The lists of the sweeps at the commands of the line (R124, R130) -/

/-- Between two states the table is kept, the found list is kept or emptied, and what is in flight is kept,
or becomes a round, or nothing. -/
def SweepMoves (s t : State) : Prop :=
  t.tables = s.tables ∧ (t.line.found = s.line.found ∨ t.line.found = [])
    ∧ (t.line.flight = s.line.flight ∨ t.line.flight = .idle ∨ ∃ r, t.line.flight = .round r)

/-- Without stations found, and with no enrollment sweep in flight but that before, the lists are in
order. -/
theorem sweepListsInv_of_empty {t : State} (hf : t.line.found = [])
    (he : ∀ e, t.line.flight = .enroll e → Ascending e.list ∧ e.list.length ≤ 32) : SweepListsInv t := by
  refine ⟨by simp [hf], ?_, by simp [hf], he⟩
  unfold foundIdentities
  split <;> simp [hf, Ascending]

theorem SweepMoves.sweepLists {s t : State} (h : SweepMoves s t) (hs : SweepListsInv s) :
    SweepListsInv t := by
  obtain ⟨htables, hfound, hflight⟩ := h
  have henroll : ∀ e, t.line.flight = .enroll e → s.line.flight = .enroll e := by
    rintro e he
    rcases hflight with hf | hf | ⟨r, hf⟩ <;> simp_all
  rcases hfound with hf | hf
  · exact sweepListsInv_congr hs (by rw [htables]) hf fun e he => .inl (henroll e he)
  · exact sweepListsInv_of_empty hf fun e he => hs.2.2.2 e (henroll e he)

theorem SweepMoves.refl (s : State) : SweepMoves s s := ⟨rfl, .inl rfl, .inl rfl⟩

/-- What comes after an operation that leaves the line's lists. -/
theorem SweepMoves.after {s u t : State} (h : SweepMoves u t) (hu : u.tables = s.tables)
    (hfound : u.line.found = s.line.found) (hflight : u.line.flight = s.line.flight) : SweepMoves s t := by
  unfold SweepMoves at h
  rwa [hu, hfound, hflight] at h

/-- A round starts at its completion, its sweep or its writes (R122, R123). -/
theorem startRound_flight (s : State) : ∃ r, (startRound s).line.flight = .round r ∧ r.readOk = []
    ∧ (s.tables.active.station ≠ none → r.stage = .writing ∨ r.stage = .sweeping) := by
  unfold startRound
  dsimp only
  split
  · exact ⟨_, rfl, rfl, fun h => absurd (by assumption) h⟩
  · split
    · exact ⟨_, rfl, rfl, fun _ => .inr rfl⟩
    · exact ⟨_, rfl, rfl, fun _ => .inl rfl⟩

theorem startRound_found (s : State) :
    (startRound s).line.found = s.line.found ∨ (startRound s).line.found = [] := by
  unfold startRound
  dsimp only
  split
  · exact .inl rfl
  · split
    · exact .inr rfl
    · exact .inl rfl

theorem sweepMoves_startRound (s : State) : SweepMoves s (startRound s) :=
  let ⟨r, hr, _⟩ := startRound_flight s
  ⟨by simp, startRound_found s, .inr (.inr ⟨r, hr⟩)⟩

theorem sweepMoves_beginCompletion (r : Round) (s : State) : SweepMoves s (beginCompletion r s) :=
  ⟨rfl, .inl rfl, .inr (.inr ⟨_, rfl⟩)⟩

theorem sweepMoves_beginRotation (r : Round) (s : State) : SweepMoves s (beginRotation r s) := by
  unfold beginRotation
  split
  · exact ⟨rfl, .inl rfl, .inr (.inr ⟨_, rfl⟩)⟩
  · exact sweepMoves_beginCompletion r s

theorem sweepMoves_nextTransaction (r : Round) (n : Nat) (rest : List Job) (s : State) :
    SweepMoves s (nextTransaction r n rest s) := by
  unfold nextTransaction
  split
  · exact ⟨rfl, .inl rfl, .inr (.inr ⟨_, rfl⟩)⟩
  · split
    · exact ⟨rfl, .inr rfl, .inr (.inr ⟨_, rfl⟩)⟩
    · exact .refl s
    · exact sweepMoves_beginRotation r s
    · exact (sweepMoves_beginCompletion r _).after rfl rfl rfl
    · exact .refl s

theorem sweepMoves_completeWrite (x : PickedAnswer) (r : Round) (n : Nat) (v : PerChannel Bool)
    (rest : List Job) (s : State) : SweepMoves s (completeWrite x r n v rest s) := by
  have next (u : State) := sweepMoves_nextTransaction r n rest u
  unfold completeWrite
  split
  · split <;> exact (next _).after (by simp) (by simp) (by simp)
  · exact (next _).after (by simp) (by simp) (by simp)

theorem sweepMoves_completeCondition (x : ConditionAnswer) (r : Round) (n : Nat) (rest : List Job)
    (s : State) : SweepMoves s (completeCondition x r n rest s) := by
  unfold completeCondition
  split <;> exact (sweepMoves_nextTransaction r n rest _).after (by simp) (by simp) (by simp)

theorem sweepMoves_completeRead (x : PickedAnswer) (r : Round) (n : Nat) (rest : List Job) (s : State) :
    SweepMoves s (completeRead x r n rest s) := by
  unfold completeRead
  split
  · dsimp only
    split
    · exact ⟨by simp, .inl (by simp), .inr (.inr ⟨_, rfl⟩)⟩
    · exact (sweepMoves_nextTransaction _ n rest _).after (by simp) (by simp) (by simp)
  · exact (sweepMoves_nextTransaction r n rest _).after (by simp) (by simp) (by simp)

/-- A completion keeps what its recording keeps, and what does not read the transaction that finishes. -/
theorem completion_keeps {P : State → Prop} {ofKind : Transaction → Bool} {record : State → State}
    {s : State} (hs : P s) (hfree : P (s.withLine { s.line with finishing := none }))
    (hrecord : s.line.finishing = none → P (record s)) : P (completion ofKind record s) := by
  unfold completion
  split
  · exact hrecord (by assumption)
  · split
    · exact hfree
    · exact hs

theorem SweepListsInv.completion {s : State} (h : SweepListsInv s) {ofKind : Transaction → Bool}
    {record : State → State} (hrecord : SweepListsInv (record s)) :
    SweepListsInv (completion ofKind record s) :=
  completion_keeps h (sweepListsInv_congr h rfl rfl fun _ he => .inl he) fun _ => hrecord

theorem sweepListsInv_beginLine (s : State) : SweepListsInv (beginLine s) := by
  obtain ⟨r, hr, -⟩ := startRound_flight (lineStart s)
  refine sweepListsInv_of_empty ?_ fun e he => ?_
  · rcases startRound_found (lineStart s) with h | h
    · exact h
    · exact h
  · rw [beginLine, hr] at he
    cases he

/-- A commit of another table leaves the line's lists (R182). -/
theorem lineStays_commitTable {k : Kind} (hk : k ≠ .station) (image : Image) (s : State) :
    LineStays s (commitTable k image s) := by
  have heffects : LineStays s (commitEffects k image s) := by
    cases k with
    | station => exact absurd rfl hk
    | _ => simp [LineStays, commitEffects, commitSwing, commitAlarm, activate, PerKind.set]
  exact heffects.trans (by simp [LineStays, Machine.commitTable])

/-- A STATION commit starts a new round before its first transaction (R132). -/
theorem commitTable_station_line (image : Image) (s : State) :
    (commitTable .station image s).line.found = []
      ∧ (commitTable .station image s).line.finishing = lineTransaction s
      ∧ ∃ r, (commitTable .station image s).line.flight = .round r
        ∧ (r.stage = .writing ∨ r.stage = .sweeping) ∧ r.readOk = [] := by
  set u := setOwned (settleAlarms (dropSlots (loadedWith (walkSettlesCommit (stationCommitLine
    (lineTransaction s) (activate .station image s))) touchesStation)
    (walkSettlesCommit (stationCommitLine (lineTransaction s) (activate .station image s))))) with hu
  have hline : (commitTable .station image s).line.found = (startRound u).line.found
      ∧ (commitTable .station image s).line.finishing = (startRound u).line.finishing
      ∧ (commitTable .station image s).line.flight = (startRound u).line.flight := by
    simp [commitTable, commitEffects, commitStation, hu]
  obtain ⟨hfound, hfinishing, hflight⟩ := hline
  have hufound : u.line.found = [] := by simp [hu, stationCommitLine]
  obtain ⟨r, hr, hok, hstage⟩ := startRound_flight u
  refine ⟨?_, ?_, r, hflight.trans hr, hstage ?_, hok⟩
  · rw [hfound]
    rcases startRound_found u with h | h
    · exact h.trans hufound
    · exact h
  · rw [hfinishing]
    simp [hu]
  · simp [hu, activate, PerKind.set]

/-- An owner of TABLE COMMIT refuses, or commits the image that is staged. -/
theorem tableCommit_cases (tag : Byte) (p : List Byte) (s : State) : (tableCommit tag p s).1 = s
    ∨ ∃ k image, commitAdmitted s k = true ∧ LineStays (commitTable k image s) (tableCommit tag p s).1 := by
  unfold tableCommit
  split
  · exact .inl rfl
  split
  · exact .inl rfl
  split
  · exact .inl rfl
  split
  · exact .inl rfl
  rename_i k image _ hadmitted _
  refine .inr ⟨k, image, by simpa using hadmitted, ?_⟩
  dsimp only
  split
  · exact ⟨rfl, rfl, rfl, rfl⟩
  · exact .refl _

theorem SweepListsInv.tableCommit {s : State} (h : SweepListsInv s) (tag : Byte) (p : List Byte) :
    SweepListsInv (tableCommit tag p s).1 := by
  rcases tableCommit_cases tag p s with he | ⟨k, image, -, hstays⟩
  · rwa [he]
  refine hstays.sweepLists ?_
  by_cases hk : k = .station
  · subst hk
    obtain ⟨hfound, -, r, hr, -⟩ := commitTable_station_line image s
    exact sweepListsInv_of_empty hfound fun e he => by simp [hr] at he
  · exact (lineStays_commitTable hk image s).sweepLists h

/-- A STATION ENROLL begins with an empty enrollment list, or waits (R130). -/
theorem stationEnroll_cases (tag : Byte) (s : State) : LineStays s (stationEnroll tag s).1
    ∨ (s.line.flight = .idle ∧ (stationEnroll tag s).1.line
      = { s.line with enrollWaiting := false, flight := .enroll { sweep := firstSweep, list := [] } }) := by
  unfold stationEnroll
  split
  · exact .inl (.refl s)
  split
  · exact .inl (.refl s)
  dsimp only
  split
  · rename_i hidle
    refine .inr ⟨?_, rfl⟩
    simp only [lineIdle, lineBusy, Bool.not_eq_true'] at hidle
    split at hidle
    · assumption
    · cases hidle
    · cases hidle
  · exact .inl ⟨rfl, rfl, rfl, rfl⟩

theorem SweepListsInv.stationEnroll {s : State} (h : SweepListsInv s) (tag : Byte) :
    SweepListsInv (stationEnroll tag s).1 := by
  rcases stationEnroll_cases tag s with hstays | ⟨-, hline⟩
  · exact hstays.sweepLists h
  · refine sweepListsInv_congr h (by simp) (by simp) fun e he => .inr ?_
    simp only [hline, Flight.enroll.injEq] at he
    rw [← he]

theorem sweepListsInv_exec {c : Instr} {s t : State} (hi : ImagesInv s) (h : SweepListsInv s)
    (he : exec c s = .next t) : SweepListsInv t := by
  rcases hc : reachesLine c with _ | _
  · exact (lineStays_exec hc he).sweepLists h
  cases c with
  | scanTimerExpiry =>
    refine keeps_of_guard h (fun _ => SweepMoves.sweepLists ?_ h) he
    unfold scanExpires
    dsimp only
    split
    · exact (sweepMoves_startRound _).after rfl rfl rfl
    · exact ⟨rfl, .inl rfl, .inl rfl⟩
  | deferredRoundStart =>
    refine keeps_of_guard h (fun _ => SweepMoves.sweepLists ?_ h) he
    exact (sweepMoves_startRound _).after rfl rfl rfl
  | enrollmentSweepStart =>
    refine keeps_of_guard h (fun _ => ?_) he
    refine sweepListsInv_congr h rfl rfl fun e he => .inr ?_
    simp only [startEnrollment, State.withLine_line, Flight.enroll.injEq] at he
    rw [← he]
  | writeOutputs x =>
    refine keeps_of_guard h (fun _ => h.completion (SweepMoves.sweepLists ?_ h)) he
    unfold writeOutputsRecorded
    split
    · split
      · exact sweepMoves_completeWrite ..
      · exact .refl s
    · exact .refl s
    · exact .refl s
  | writeCondition x =>
    refine keeps_of_guard h (fun _ => h.completion (SweepMoves.sweepLists ?_ h)) he
    unfold writeConditionRecorded
    split
    · split
      · exact sweepMoves_completeCondition ..
      · exact .refl s
    · exact .refl s
    · exact .refl s
  | readClearing x =>
    refine keeps_of_guard h (fun _ => h.completion (SweepMoves.sweepLists ?_ h)) he
    unfold readClearingRecorded
    split
    · split
      · exact sweepMoves_completeRead ..
      · exact .refl s
    · exact .refl s
    · exact .refl s
  | seekIfPass x =>
    refine keeps_of_guard h (fun _ => h.completion ?_) he
    unfold seekIfRecorded
    split
    · split
      · exact sweepListsInv_completeSeekIf hi h x _ (by assumption)
      · exact h
    · exact h
    · exact h
  | seekPass x =>
    refine keeps_of_guard h (fun _ => h.completion ?_) he
    unfold seekRecorded
    split
    · exact sweepListsInv_completeSeek h x _ (by assumption)
    · exact h
    · exact h
  | roundCompletion =>
    refine keeps_of_guard h (fun _ => SweepMoves.sweepLists ?_ h) he
    unfold roundDone
    split
    · split
      · exact ⟨by simp, .inl (by simp), .inr (.inl rfl)⟩
      · exact .refl s
    · exact .refl s
    · exact .refl s
  | restartTakesEffect => exact keeps_of_guard h (fun _ => sweepListsInv_beginLine _) he
  | powerOnStart found => cases he; exact sweepListsInv_beginLine _
  | briefSupplyDipEnd =>
    refine keeps_of_guard h (fun _ => ?_) he
    unfold dipEnd
    dsimp only
    split
    · exact sweepListsInv_beginLine _
    · exact (LineStays.refl s).sweepLists h
  | supplyLoss => cases he; exact sweepListsInv_of_empty rfl nofun
  | tableCommit f =>
    cases he
    exact takeRequest_keeps LineStays.sweepLists h (fun tag p => h.tableCommit tag p) _ f
  | stationEnroll f =>
    cases he
    exact takeRequest_keeps LineStays.sweepLists h (fun tag _ => h.stationEnroll tag) _ f
  | _ => cases hc

/-! ### A transaction whose round has ended, at the commands of the line (R132) -/

theorem finishingInv_of_none {t : State} (h : t.line.finishing = none) : FinishingInv t := by
  intro x hx
  rw [h] at hx
  cases hx

/-- A recording that leaves no transaction behind keeps what a completion finds. -/
theorem FinishingInv.completion {s : State} (h : FinishingInv s) {ofKind : Transaction → Bool}
    {record : State → State} (hrecord : (record s).line.finishing = s.line.finishing) :
    FinishingInv (completion ofKind record s) :=
  completion_keeps h (finishingInv_of_none rfl) fun hn => finishingInv_of_none (hrecord.trans hn)

/-- While a transaction finishes, something is in flight: a round that is not due to complete. -/
theorem FinishingInv.inFlight {s : State} (h : FinishingInv s) : s.line.finishing = none
    ∨ ∃ r, s.line.flight = .round r ∧ (r.stage = .writing ∨ r.stage = .sweeping) := by
  cases hx : s.line.finishing with
  | none => exact .inl rfl
  | some x =>
    obtain ⟨-, r, hr, hstage, -⟩ := h x hx
    exact .inr ⟨r, hr, hstage⟩

/-- What starts on a free line finds no transaction there. -/
theorem FinishingInv.of_idle {s t : State} (h : FinishingInv s) (hidle : s.line.flight = .idle)
    (ht : t.line.finishing = s.line.finishing) : FinishingInv t := by
  rcases h.inFlight with hn | ⟨r, hr, -⟩
  · exact finishingInv_of_none (ht.trans hn)
  · rw [hidle] at hr
    cases hr

theorem finishingInv_beginLine (s : State) : FinishingInv (beginLine s) :=
  finishingInv_of_none (by simp [beginLine, lineStart, StationLine.start])

/-- No pass of an enrollment sweep is on the line where a STATION commit is admitted (R132). -/
theorem FinishingInv.lineTransaction {s : State} (h : FinishingInv s)
    (ha : commitAdmitted s .station = true) (sweep : Sweep) :
    Machine.lineTransaction s ≠ some (.seek sweep) := by
  intro hx
  unfold Machine.lineTransaction at hx
  cases hf : s.line.finishing with
  | some x =>
    rw [hf] at hx
    exact (h x hf).1 sweep (by simpa using hx)
  | none =>
    have hflight : flightTransaction s = some (.seek sweep) := by simpa [hf] using hx
    simp only [commitAdmitted, enrollBusy, Bool.and_eq_true, Bool.not_eq_true', Bool.or_eq_false_iff] at ha
    obtain ⟨-, -, hnot⟩ := ha
    unfold flightTransaction at hflight
    (repeat' split at hflight) <;> simp_all

theorem FinishingInv.tableCommit {s : State} (h : FinishingInv s) (tag : Byte) (p : List Byte) :
    FinishingInv (tableCommit tag p s).1 := by
  rcases tableCommit_cases tag p s with he | ⟨k, image, hadmitted, hstays⟩
  · rwa [he]
  refine hstays.finishing ?_
  by_cases hk : k = .station
  · subst hk
    obtain ⟨-, hfinishing, hround⟩ := commitTable_station_line image s
    intro x hx
    rw [hfinishing] at hx
    exact ⟨fun sweep hs => h.lineTransaction hadmitted sweep (hs ▸ hx), hround⟩
  · exact (lineStays_commitTable hk image s).finishing h

theorem FinishingInv.stationEnroll {s : State} (h : FinishingInv s) (tag : Byte) :
    FinishingInv (stationEnroll tag s).1 := by
  rcases stationEnroll_cases tag s with hstays | ⟨hidle, hline⟩
  · exact hstays.finishing h
  · exact h.of_idle hidle (by rw [hline])

theorem nothingInFlight_iff (s : State) : nothingInFlight s = true ↔ s.line.flight = .idle := by
  simp [nothingInFlight]

theorem finishingInv_exec {c : Instr} {s t : State} (h : FinishingInv s) (he : exec c s = .next t) :
    FinishingInv t := by
  rcases hc : reachesLine c with _ | _
  · exact (lineStays_exec hc he).finishing h
  cases c with
  | scanTimerExpiry =>
    refine keeps_of_guard h (fun _ => ?_) he
    unfold scanExpires
    dsimp only
    split
    · rename_i hfree
      rw [Bool.and_eq_true, nothingInFlight_iff] at hfree
      exact h.of_idle hfree.1 (by simp)
    · exact LineStays.finishing ⟨rfl, rfl, rfl, rfl⟩ h
  | deferredRoundStart =>
    refine keeps_of_guard h (fun hfree => ?_) he
    simp only [Bool.and_eq_true, nothingInFlight_iff] at hfree
    exact h.of_idle hfree.1.2 (by simp)
  | enrollmentSweepStart =>
    refine keeps_of_guard h (fun hfree => ?_) he
    simp only [Bool.and_eq_true, nothingInFlight_iff] at hfree
    exact h.of_idle hfree.2 rfl
  | writeOutputs x =>
    refine keeps_of_guard h (fun _ => h.completion ?_) he
    unfold writeOutputsRecorded
    (repeat' split) <;> simp
  | writeCondition x =>
    refine keeps_of_guard h (fun _ => h.completion ?_) he
    unfold writeConditionRecorded
    (repeat' split) <;> simp
  | readClearing x =>
    refine keeps_of_guard h (fun _ => h.completion ?_) he
    unfold readClearingRecorded
    (repeat' split) <;> simp
  | seekIfPass x =>
    refine keeps_of_guard h (fun _ => h.completion ?_) he
    unfold seekIfRecorded
    (repeat' split) <;> simp
  | seekPass x =>
    refine keeps_of_guard h (fun _ => h.completion ?_) he
    unfold seekRecorded
    (repeat' split) <;> simp
  | roundCompletion =>
    refine keeps_of_guard h (fun _ => ?_) he
    rcases h.inFlight with hn | ⟨r, hr, hstage⟩
    · exact finishingInv_of_none (by simpa using hn)
    · have hnot : r.stage ≠ .completing := by rcases hstage with hx | hx <;> simp [hx]
      have hsame : roundDone s = s := by simp [roundDone, hr, hnot]
      rwa [hsame]
  | restartTakesEffect => exact keeps_of_guard h (fun _ => finishingInv_beginLine _) he
  | powerOnStart found => cases he; exact finishingInv_beginLine _
  | briefSupplyDipEnd =>
    refine keeps_of_guard h (fun _ => ?_) he
    unfold dipEnd
    dsimp only
    split
    · exact finishingInv_beginLine _
    · exact h
  | supplyLoss => cases he; exact finishingInv_of_none rfl
  | tableCommit f =>
    cases he
    exact takeRequest_keeps LineStays.finishing h (fun tag p => h.tableCommit tag p) _ f
  | stationEnroll f =>
    cases he
    exact takeRequest_keeps LineStays.finishing h (fun tag _ => h.stationEnroll tag) _ f
  | _ => cases hc

/-- Settles O33. -/
theorem sweepYieldsAscending : Obligations.SweepYieldsAscending :=
  ⟨fun ps n hn => sweepYields_participants ps n hn, fun _ _ _ hi h he => sweepListsInv_exec hi h he,
    fun _ _ _ h he => finishingInv_exec h he⟩

end Sys2Proof.Machine
end

section
/-! SUPPORT. The picked transactions of a round: what is sent, what a reply says, what a completion leaves of
the live record and of the round (R114, R115, R120 to R127, R132). -/

namespace Sys2Proof.Machine

/-! ### Live records (R120, R121) -/

theorem recordOf_updateRecord_same (n : Nat) (f : LiveRecord → LiveRecord) (s : State) :
    recordOf (updateRecord n f s) n = (recordOf s n).map f := by
  simp [recordOf, updateRecord]

theorem recordOf_updateRecord_other {n k : Nat} (h : k ≠ n) (f : LiveRecord → LiveRecord) (s : State) :
    recordOf (updateRecord n f s) k = recordOf s k := by
  simp [recordOf, updateRecord, h.symm]

theorem recordOf_congr {s t : State} (h : t.line.records = s.line.records) (n : Nat) :
    recordOf t n = recordOf s n := by rw [recordOf, h, recordOf]

/-- Slot 9 has no output: charging a station reaches no record but its own. -/
theorem charge_records (n : Nat) (ok : Bool) (s : State) :
    (charge n ok s).line.records = (updateRecord n (chargeRecord ok) s).line.records := by
  unfold charge
  split
  · rename_i hnone
    have hbeyond : s.line.records.length ≤ n := List.getElem?_eq_none_iff.1 hnone
    exact (List.modify_eq_self hbeyond).symm
  · dsimp only
    split
    · rfl
    · rw [evaluate_internal_line _ _ (by decide)]

theorem recordOf_charge_same (n : Nat) (ok : Bool) (s : State) :
    recordOf (charge n ok s) n = (recordOf s n).map (chargeRecord ok) := by
  rw [recordOf_congr (charge_records n ok s), recordOf_updateRecord_same]

theorem recordOf_charge_other {n k : Nat} (h : k ≠ n) (ok : Bool) (s : State) :
    recordOf (charge n ok s) k = recordOf s k := by
  rw [recordOf_congr (charge_records n ok s), recordOf_updateRecord_other h]

/-- Slot 9 holds what it holds of the live records (R121). -/
def MissingShown (s : State) : Prop :=
  s.alarm.slots.length = 64 ∧ (slotOf s 9).condition = stationMissing s

/-- The states of the live records, in table order. -/
def stationStates (s : State) : List StationState := s.line.records.map (·.state)

theorem stationMissing_eq (s : State) : stationMissing s = (stationStates s).any (· == .missing) := by
  simp [stationMissing, stationStates, List.any_map, Function.comp_def]

theorem MissingShown.congr {s t : State} (h : MissingShown s) (ha : t.alarm = s.alarm)
    (hl : stationStates t = stationStates s) : MissingShown t := by
  unfold MissingShown slotOf
  rw [ha, stationMissing_eq, hl, ← stationMissing_eq]
  exact h

theorem stationStates_updateRecord {f : LiveRecord → LiveRecord} {n : Nat} {s : State}
    (hf : ∀ r, recordOf s n = some r → (f r).state = r.state) :
    stationStates (updateRecord n f s) = stationStates s := by
  apply List.ext_getElem?
  intro m
  simp only [stationStates, updateRecord, State.withLine_line, List.getElem?_map, List.getElem?_modify]
  split
  · rename_i hm
    subst hm
    cases hr : s.line.records[n]? with
    | none => rfl
    | some r => simp [hf r hr]
  · simp

/-- A charge re-evaluates slot 9 where it changes the station's state (R121). -/
theorem MissingShown.charge {s : State} (h : MissingShown s) (n : Nat) (ok : Bool) :
    MissingShown (charge n ok s) := by
  unfold Machine.charge
  split
  · exact h
  · rename_i r hr
    dsimp only
    split
    · rename_i hsame
      refine h.congr rfl (stationStates_updateRecord fun r' hr' => ?_)
      obtain rfl : r = r' := by simpa [hr] using hr'
      exact hsame
    · have hline : (evaluate 9 (stationMissing (updateRecord n (chargeRecord ok) s))
          (updateRecord n (chargeRecord ok) s)).line = (updateRecord n (chargeRecord ok) s).line :=
        evaluate_internal_line _ _ (by decide)
      have hlen : (updateRecord n (chargeRecord ok) s).alarm.slots.length = 64 := h.1
      refine ⟨by simpa using h.1, ?_⟩
      rw [evaluate_condition_internal _ (by decide) (by omega), stationMissing_eq (evaluate _ _ _),
        stationStates, hline, ← stationStates, ← stationMissing_eq]

/-! ### What is sent (R114) -/

/-- The six bytes of an identity, low byte first. -/
theorem identityBytes_eq (i : Identity) :
    identityBytes i = (List.range 6).map fun k => i.extractLsb' (8 * k) 8 := by
  have hb (k : Nat) : BitVec.ofNat 8 (i.toNat / 2 ^ k) = i.extractLsb' k 8 := by
    apply BitVec.eq_of_toNat_eq
    rw [BitVec.toNat_ofNat, BitVec.extractLsb'_toNat, Nat.shiftRight_eq_div_pow]
  have h0 := hb 0
  have h8 := hb 8
  have h16 := hb 16
  have h24 := hb 24
  have h32 := hb 32
  have h40 := hb 40
  norm_num at h0 h8 h16 h24 h32 h40
  simp [identityBytes, u16, List.range_succ, Nat.div_div_eq_div_mul, h0, h8, h16, h24, h32, h40]

/-- The transaction at the head of a round's jobs is the one the part has on the line, and is sent as R114
has it. -/
theorem sentTo_job {s : State} {r : Round} {j : Job} {rest : List Job} (hn : s.line.finishing = none)
    (hf : s.line.flight = .round r) (hj : r.jobs = j :: rest) (hs : r.stage ≠ .sweeping)
    (hc : r.stage ≠ .completing) : SentTo s (jobStation j) (jobCommand j) := by
  intro table i ht hi
  refine ⟨.picked i j, ?_, fun reads => ⟨rfl, ?_⟩⟩
  · unfold lineTransaction flightTransaction
    rw [hn, hf]
    cases hst : r.stage with
    | sweeping => exact absurd hst hs
    | completing => exact absurd hst hc
    | writing | reading | rotating => simp [hst, hj, ht, hi]
  · simp [sentInTransaction, sentAfterRollCall, identityBytes_eq, List.map_map, Function.comp_def]

/-! ### A transaction whose round has ended (R132) -/

/-- A completion records no outcome of a transaction that still finishes. -/
theorem completion_notRecorded {P : Transaction → Prop} {ofKind : Transaction → Bool}
    {record : State → State} {run : State → Host.Outcome State Fault Refusal}
    (hrun : ∀ s, run s = .next (if powered s then completion ofKind record s else s))
    (hkind : ∀ x, P x ↔ ofKind x = true) : OutcomeNotRecorded P run := by
  intro s x hp hx
  have hon : powered s = true := by simpa [powered] using hp
  simp only [hrun, hon, completion, hx, hkind, if_true]
  exact ⟨fun h => by simp [h], fun h => by simp [h]⟩

/-- With nothing left to finish, a completion is of what is in flight. -/
theorem completion_recorded {ofKind : Transaction → Bool} {record : State → State} {s : State}
    (hp : s.power ≠ .off) (hn : s.line.finishing = none) :
    (if powered s then completion ofKind record s else s) = record s := by
  have hon : powered s = true := by simpa [powered] using hp
  simp [hon, completion, hn]

/-! ### Replies (R114, 10.5) -/

theorem checkedReply_eq_some {bytes body : List Byte} :
    checkedReply bytes = some body ↔ bytes = body ++ checkBytes body := by
  unfold checkedReply
  dsimp only
  constructor
  · intro h
    split at h
    · rename_i hc
      obtain rfl := Option.some.inj h
      rw [← hc.2, List.take_append_drop]
    · cases h
  · rintro rfl
    simp [checkBytes_length]

theorem replyByte_eq_some {answer : PickedAnswer} {b : Byte} :
    replyByte answer = some b ↔ answer = .reply ([b] ++ checkBytes [b]) := by
  cases answer with
  | noPulse | noReply => simp [replyByte]
  | reply bytes =>
    rw [PickedAnswer.reply.injEq, ← checkedReply_eq_some, replyByte]
    split <;> simp_all

/-- A reply that is of no status byte is no reply of the command (log entry 46). -/
theorem replyByte_eq_none {answer : PickedAnswer}
    (h : ∀ b : Byte, answer ≠ .reply ([b] ++ checkBytes [b])) : replyByte answer = none :=
  Option.eq_none_iff_forall_ne_some.2 fun b hb => h b (replyByte_eq_some.1 hb)

/-! ### The round goes on (R123 to R127) -/

theorem beginRotation_none {r : Round} {s : State} (h : ∀ k, k < stationCount s → k ∈ s.line.found) :
    (beginRotation r s).line.flight = .round { r with stage := .completing, jobs := [] } := by
  have hnone : (rotationOrder (stationCount s) s.line.pointer).find?
      (fun n => !s.line.found.contains n) = none := by
    rw [List.find?_eq_none]
    intro n hn
    obtain ⟨k, hk, rfl⟩ := List.mem_map.1 hn
    have hlt := List.mem_range.1 hk
    simpa using h _ (Nat.mod_lt _ (by omega))
  rw [beginRotation, hnone]
  rfl

theorem beginRotation_some {r : Round} {s : State} {d start : Nat}
    (hstart : start = if s.line.pointer < stationCount s then s.line.pointer else 0)
    (hd : d < stationCount s) (hnot : (start + d) % stationCount s ∉ s.line.found)
    (hbefore : ∀ e, e < d → (start + e) % stationCount s ∈ s.line.found) :
    (beginRotation r s).line.flight = .round
      { r with stage := .rotating, jobs := [.readClearing ((start + d) % stationCount s)] } := by
  have hsome : (rotationOrder (stationCount s) s.line.pointer).find?
      (fun n => !s.line.found.contains n) = some ((start + d) % stationCount s) := by
    rw [rotationOrder, ← hstart, List.find?_map, List.find?_range_eq_some.2 ⟨?_, ?_, ?_⟩,
      Option.map_some]
    · simpa using hnot
    · simpa using hd
    · simpa using hbefore
  rw [beginRotation, hsome]
  rfl

/-- After the last transaction of a step the round moves on, whatever the completion left of the records. -/
theorem roundMoved_nextTransaction {r : Round} {n : Nat} {s u t : State}
    (hcount : stationCount u = stationCount s) (hfound : u.line.found = s.line.found)
    (hpointer : u.line.pointer = s.line.pointer) (ht : t.line = (nextTransaction r n [] u).line) :
    RoundMoved r n s t := by
  unfold RoundMoved
  dsimp only
  rw [ht, ← hcount, ← hfound, ← hpointer]
  unfold nextTransaction
  split
  · rename_i hs
    simp [hs, beginSweep, setFlight]
  · rename_i hs
    simp only [hs, beginRotation_frame, true_and]
    exact ⟨beginRotation_none, fun d hd hnot hbefore => beginRotation_some rfl hd hnot hbefore⟩
  · rename_i hs
    simp [hs, beginCompletion, setFlight, pointerAfter]
  · trivial
  · trivial

theorem nextTransaction_cons {rest : List Job} (h : rest ≠ []) (r : Round) (n : Nat) (s : State) :
    (nextTransaction r n rest s).line.flight = .round { r with jobs := rest } := by
  cases rest with
  | nil => exact absurd rfl h
  | cons j rest => rfl

end Sys2Proof.Machine
end

section
/-! SUPPORT. The completions of READ CLEARING, WRITE OUTPUTS and WRITE CONDITION (R115, R120 to R127,
R132). -/

namespace Sys2Proof.Machine

/-- What a completion of a picked transaction leaves of the station's record and of the round: the record
is brought up to date and charged, another record stays, and the round goes on, or moves on after the last
transaction of a step (R115, R120). -/
def Charged (n : Nat) (ok : Bool) (f : LiveRecord → LiveRecord) (r : Round) (rest : List Job)
    (s t : State) : Prop :=
  recordOf t n = (recordOf s n).map (fun x => chargeRecord ok (f x))
    ∧ (rest ≠ [] → t.line.flight = .round { r with jobs := rest })
    ∧ (rest = [] → RoundMoved r n s t)
    ∧ ∀ k, k ≠ n → recordOf t k = recordOf s k

theorem nextTransaction_charged (n : Nat) (ok : Bool) (f : LiveRecord → LiveRecord) (r : Round)
    (rest : List Job) (s : State) :
    Charged n ok f r rest s (nextTransaction r n rest (charge n ok (updateRecord n f s))) := by
  have hrecord (k : Nat) := recordOf_congr (s := charge n ok (updateRecord n f s))
    (nextTransaction_frame r n rest _).2.2.2.2.2.2.2.2.2.2.2.1 k
  refine ⟨?_, fun hr => nextTransaction_cons hr r n _, ?_, fun k hk => ?_⟩
  · rw [hrecord, recordOf_charge_same, recordOf_updateRecord_same, Option.map_map]
    rfl
  · rintro rfl
    exact roundMoved_nextTransaction (stationCount_congr (by simp)) (by simp) (by simp) rfl
  · rw [hrecord, recordOf_charge_other hk, recordOf_updateRecord_other hk]

/-- Where nothing is recorded a charge alone remains. -/
theorem updateRecord_id (n : Nat) (s : State) : updateRecord n id s = s := by
  rw [updateRecord, List.modify_id]
  rfl

/-! ### READ CLEARING (R115, R121, R125) -/

theorem exec_readClearing {answer : PickedAnswer} {s : State} {r : Round} {n : Nat} {rest : List Job}
    (hp : s.power ≠ .off) (hn : s.line.finishing = none) (hf : s.line.flight = .round r)
    (hj : r.jobs = .readClearing n :: rest) :
    exec (.readClearing answer) s = .next (completeRead answer r n rest s) := by
  have hrun : exec (.readClearing answer) s
      = .next (if powered s then readClearingDone answer s else s) := rfl
  rw [hrun, readClearingDone, completion_recorded hp hn, readClearingRecorded, hf]
  simp only [hj]

theorem isReadClearing_iff (x : Transaction) :
    (∃ i n, x = .picked i (.readClearing n)) ↔ isReadClearing x = true := by
  unfold isReadClearing
  split <;> simp_all

/-- A read that is recorded is charged as a success, and the station joins the read list (R115, R127). -/
theorem completeRead_success {answer : PickedAnswer} {b : Byte} (hb : replyByte answer = some b)
    (h6 : b.getLsbD 6 = false) (r : Round) (n : Nat) (rest : List Job) (s : State) :
    Charged n true (recordStatus b) { r with readOk := r.readOk ++ [n] } rest s
      (completeRead answer r n rest s) := by
  have he : completeRead answer r n rest s = nextTransaction { r with readOk := r.readOk ++ [n] } n rest
      (charge n true (updateRecord n (recordStatus b) s)) := by
    simp only [completeRead, hb, h6, Bool.false_eq_true, if_false]
  rw [he]
  exact nextTransaction_charged n true _ _ rest s

/-- A read that shows the power-up flag owes a WRITE CONDITION, which follows at once (R115, R125). -/
theorem completeRead_powerUp {answer : PickedAnswer} {b : Byte} (hb : replyByte answer = some b)
    (h6 : b.getLsbD 6 = true) (r : Round) (n : Nat) (rest : List Job) (s : State) :
    completeRead answer r n rest s
      = setFlight (.round { r with jobs := .writeCondition n :: rest, readOk := r.readOk ++ [n] })
        (updateRecord n (fun x => { x with conditionPending := true })
          (charge n true (updateRecord n (recordStatus b) s))) := by
  simp only [completeRead, hb, h6, if_true]

theorem completeRead_missed {answer : PickedAnswer} (hb : replyByte answer = none) (r : Round) (n : Nat)
    (rest : List Job) (s : State) : Charged n false id r rest s (completeRead answer r n rest s) := by
  have he : completeRead answer r n rest s = nextTransaction r n rest (charge n false s) := by
    simp [completeRead, hb]
  rw [he]
  have := nextTransaction_charged n false id r rest s
  rwa [updateRecord_id] at this

/-- A read reaches no record but that of its station. -/
theorem completeRead_other {n k : Nat} (hk : k ≠ n) (answer : PickedAnswer) (r : Round) (rest : List Job)
    (s : State) : recordOf (completeRead answer r n rest s) k = recordOf s k := by
  cases hb : replyByte answer with
  | none => exact (completeRead_missed hb r n rest s).2.2.2 k hk
  | some b =>
    cases h6 : b.getLsbD 6 with
    | false => exact (completeRead_success hb h6 r n rest s).2.2.2 k hk
    | true =>
      rw [completeRead_powerUp hb h6, recordOf_congr (setFlight_frame _ _).2.2.2.2.2.2.2.2.2.2.2.1,
        recordOf_updateRecord_other hk, recordOf_charge_other hk, recordOf_updateRecord_other hk]

theorem MissingShown.completeRead {s : State} (h : MissingShown s) (answer : PickedAnswer) (r : Round)
    (n : Nat) (rest : List Job) : MissingShown (completeRead answer r n rest s) := by
  have hread (b : Byte) : MissingShown (Machine.charge n true (updateRecord n (recordStatus b) s)) :=
    (h.congr (t := updateRecord n (recordStatus b) s) rfl
      (stationStates_updateRecord fun _ _ => rfl)).charge n true
  have hstates {u v : State} (hl : v.line.records = u.line.records) : stationStates v = stationStates u := by
    rw [stationStates, hl, stationStates]
  unfold Machine.completeRead
  split
  · rename_i b _
    dsimp only
    split
    · exact (hread b).congr rfl (stationStates_updateRecord fun _ _ => rfl)
    · exact (hread b).congr (by simp) (hstates (by simp))
  · exact (h.charge n false).congr (by simp) (hstates (by simp))

/-- Settles O34. -/
theorem readClearingIsRecorded : Obligations.ReadClearingIsRecorded := by
  unfold Obligations.ReadClearingIsRecorded
  refine ⟨fun answer => completion_notRecorded (fun _ => rfl) isReadClearing_iff, ?_⟩
  intro answer s r n rest x hp hn hf hj hx
  refine ⟨sentTo_job hn hf hj, _, exec_readClearing hp hn hf hj, fun b hb => ?_, fun hb => ?_,
    fun k hk => completeRead_other hk answer r rest s,
    fun hlen h9 => (MissingShown.completeRead ⟨hlen, h9⟩ answer r n rest).2, ?_⟩
  · have hreply := replyByte_eq_some.2 hb
    cases h6 : b.getLsbD 6 with
    | false =>
      obtain ⟨hrecord, hgoes, hmoves, -⟩ := completeRead_success hreply h6 r n rest s
      refine ⟨?_, nofun, fun _ => hgoes, fun _ => hmoves⟩
      rw [hrecord, hx, Bool.or_false]
      simp only [Option.map_some, chargeRecord, recordStatus, if_true, h6]
    | true =>
      rw [completeRead_powerUp hreply h6]
      refine ⟨?_, fun _ => rfl, nofun, nofun⟩
      rw [recordOf_congr (setFlight_frame _ _).2.2.2.2.2.2.2.2.2.2.2.1, recordOf_updateRecord_same,
        recordOf_charge_same, recordOf_updateRecord_same, hx, Bool.or_true]
      simp only [Option.map_some, chargeRecord, recordStatus, if_true, h6]
  · obtain ⟨hrecord, hgoes, hmoves, -⟩ := completeRead_missed (replyByte_eq_none hb) r n rest s
    refine ⟨?_, hgoes, hmoves⟩
    rw [hrecord, hx]
    rfl
  · simp [hn]

/-! ### WRITE OUTPUTS (R115, R123) -/

theorem exec_writeOutputs {answer : PickedAnswer} {s : State} {r : Round} {n : Nat} {v : PerChannel Bool}
    {rest : List Job} (hp : s.power ≠ .off) (hn : s.line.finishing = none) (hf : s.line.flight = .round r)
    (hj : r.jobs = .writeOutputs n v :: rest) :
    exec (.writeOutputs answer) s = .next (completeWrite answer r n v rest s) := by
  have hrun : exec (.writeOutputs answer) s
      = .next (if powered s then writeOutputsDone answer s else s) := rfl
  rw [hrun, writeOutputsDone, completion_recorded hp hn, writeOutputsRecorded, hf]
  simp only [hj]

theorem isWriteOutputs_iff (x : Transaction) :
    (∃ i n v, x = .picked i (.writeOutputs n v)) ↔ isWriteOutputs x = true := by
  unfold isWriteOutputs
  split <;> simp_all

/-- An echo of the outputs written: one byte with them in bits 2 and 3 (R115, 10.5). -/
def OutputsEchoed (answer : PickedAnswer) (v : PerChannel Bool) : Prop :=
  ∃ b : Byte, answer = .reply ([b] ++ checkBytes [b]) ∧ b.getLsbD 2 = v.a ∧ b.getLsbD 3 = v.b

theorem completeWrite_echoed {answer : PickedAnswer} {v : PerChannel Bool} (h : OutputsEchoed answer v)
    (r : Round) (n : Nat) (rest : List Job) (s : State) :
    Charged n true (fun x => { x with held := ⟨some v.a, some v.b⟩ }) r rest s
      (completeWrite answer r n v rest s) := by
  obtain ⟨b, hb, ha, hb'⟩ := h
  have he : completeWrite answer r n v rest s = nextTransaction r n rest (charge n true
      (updateRecord n (fun x => { x with held := ⟨some v.a, some v.b⟩ }) s)) := by
    simp only [completeWrite, replyByte_eq_some.2 hb, ha, hb', and_self, if_true]
  rw [he]
  exact nextTransaction_charged n true _ r rest s

theorem completeWrite_missed {answer : PickedAnswer} {v : PerChannel Bool} (h : ¬ OutputsEchoed answer v)
    (r : Round) (n : Nat) (rest : List Job) (s : State) :
    Charged n false (fun x => { x with outputPending := true }) r rest s
      (completeWrite answer r n v rest s) := by
  have he : completeWrite answer r n v rest s = nextTransaction r n rest (charge n false
      (updateRecord n (fun x => { x with outputPending := true }) s)) := by
    unfold completeWrite
    split
    · rename_i b hb
      exact if_neg fun hv => h ⟨b, replyByte_eq_some.1 hb, hv⟩
    · rfl
  rw [he]
  exact nextTransaction_charged n false _ r rest s

/-! ### WRITE CONDITION (R115, R123, R125) -/

theorem exec_writeCondition {answer : ConditionAnswer} {s : State} {r : Round} {n : Nat}
    {rest : List Job} (hp : s.power ≠ .off) (hn : s.line.finishing = none) (hf : s.line.flight = .round r)
    (hj : r.jobs = .writeCondition n :: rest) :
    exec (.writeCondition answer) s = .next (completeCondition answer r n rest s) := by
  have hrun : exec (.writeCondition answer) s
      = .next (if powered s then writeConditionDone answer s else s) := rfl
  rw [hrun, writeConditionDone, completion_recorded hp hn, writeConditionRecorded, hf]
  simp only [hj]

theorem isWriteCondition_iff (x : Transaction) :
    (∃ i n, x = .picked i (.writeCondition n)) ↔ isWriteCondition x = true := by
  unfold isWriteCondition
  split <;> simp_all

theorem conditionEchoed_iff (answer : ConditionAnswer) :
    conditionEchoed answer = true ↔ answer = .reply ⟨.latch, .either, true⟩ true := by
  cases answer <;> simp [conditionEchoed, writtenCondition, and_comm]

theorem completeCondition_echoed {answer : ConditionAnswer} (h : conditionEchoed answer = true) (r : Round)
    (n : Nat) (rest : List Job) (s : State) :
    Charged n true (fun x => { x with conditionPending := false }) r rest s
      (completeCondition answer r n rest s) := by
  rw [completeCondition, if_pos h]
  exact nextTransaction_charged n true _ r rest s

theorem completeCondition_missed {answer : ConditionAnswer} (h : ¬ conditionEchoed answer = true) (r : Round)
    (n : Nat) (rest : List Job) (s : State) :
    Charged n false id r rest s (completeCondition answer r n rest s) := by
  rw [completeCondition, if_neg h]
  have := nextTransaction_charged n false id r rest s
  rwa [updateRecord_id] at this

/-- Settles O35. -/
theorem writesAreEchoedOrOwed : Obligations.WritesAreEchoedOrOwed := by
  unfold Obligations.WritesAreEchoedOrOwed
  refine ⟨fun answer => completion_notRecorded (fun _ => rfl) isWriteOutputs_iff,
    fun answer => completion_notRecorded (fun _ => rfl) isWriteCondition_iff, ?_⟩
  intro s r n rest x hp hn hf hx missed
  refine ⟨fun answer v hj => ?outputs, fun answer hj => ?condition⟩
  case outputs =>
    intro echoed
    refine ⟨sentTo_job hn hf hj, _, exec_writeOutputs hp hn hf hj, ?_⟩
    have hecho (h : OutputsEchoed answer v) := completeWrite_echoed h r n rest s
    have hmiss (h : ¬ OutputsEchoed answer v) := completeWrite_missed h r n rest s
    have hround : ∃ ok f, Charged n ok f r rest s (completeWrite answer r n v rest s) := by
      by_cases h : echoed
      · exact ⟨_, _, hecho h⟩
      · exact ⟨_, _, hmiss h⟩
    obtain ⟨ok, f, -, hgoes, hmoves, hother⟩ := hround
    refine ⟨fun h => (hecho h).1.trans (by rw [hx]; rfl), fun h => (hmiss h).1.trans (by rw [hx]; rfl),
      hgoes, hmoves, hother, ?_⟩
    simp [hn]
  case condition =>
    intro echoed
    refine ⟨sentTo_job hn hf hj, _, exec_writeCondition hp hn hf hj, ?_⟩
    have hiff := conditionEchoed_iff answer
    have hecho (h : conditionEchoed answer = true) := completeCondition_echoed h r n rest s
    have hmiss (h : ¬ conditionEchoed answer = true) := completeCondition_missed h r n rest s
    have hround : ∃ ok f, Charged n ok f r rest s (completeCondition answer r n rest s) := by
      by_cases h : conditionEchoed answer = true
      · exact ⟨_, _, hecho h⟩
      · exact ⟨_, _, hmiss h⟩
    obtain ⟨ok, f, -, hgoes, hmoves, hother⟩ := hround
    refine ⟨fun h => (hecho (hiff.2 h)).1.trans (by rw [hx]; rfl),
      fun h => (hmiss (mt hiff.1 h)).1.trans (by rw [hx]; rfl), hgoes, hmoves, hother, ?_⟩
    simp [hn]

end Sys2Proof.Machine
end

section
/-! SUPPORT. The scan timer, the deferred start, and the passes of the conditional sweep (R117, R122 to
R126, R132). -/

namespace Sys2Proof.Machine

/-! ### The start of a round (R122, R123) -/

theorem startRound_eq (s : State) : startRound s = s.withLine (startRound s).line := by
  unfold startRound
  dsimp only
  split
  · rfl
  · split <;> rfl

/-- Taking the write list clears the pending flag of each station whose outputs can be written (R123). -/
theorem writeEntry_taken (r : LiveRecord) :
    (if (writeEntry r).isSome then { r with outputPending := false } else r)
      = { r with outputPending := r.outputPending && (writeValues r).isNone } := by
  unfold writeEntry
  cases hp : r.outputPending with
  | false => simp [← hp]
  | true => cases hv : writeValues r <;> simp [← hp]

theorem startRound_begun (s : State) : RoundBegun s (startRound s) := by
  unfold RoundBegun startRound
  dsimp only
  cases s.tables.active.station with
  | none => exact ⟨rfl, rfl⟩
  | some image =>
    have hrecords : (s.line.records.map fun r =>
        if (writeEntry r).isSome then { r with outputPending := false } else r)
        = s.line.records.map fun r =>
          { r with outputPending := r.outputPending && (writeValues r).isNone } :=
      List.map_congr_left fun r _ => writeEntry_taken r
    dsimp only
    rw [hrecords]
    by_cases hj : (s.line.records.zipIdx.flatMap fun (r, n) => writeJobs r n) = []
    · rw [if_pos hj, if_pos (List.isEmpty_iff.2 hj)]
      exact ⟨rfl, rfl, rfl⟩
    · rw [if_neg hj, if_neg (mt List.isEmpty_iff.1 hj)]
      exact ⟨rfl, rfl, rfl⟩

/-- A round begins as it does whatever the timer and the deferred start of the line are. -/
theorem roundBegun_congr {s u t : State} (h : RoundBegun u t) (ht : u.tables = s.tables)
    (hr : u.line.records = s.line.records) (hf : u.line.found = s.line.found) : RoundBegun s t := by
  unfold RoundBegun at h
  rw [ht, hr, hf] at h
  exact h

theorem nothingInFlight_false {s : State} (h : s.line.flight ≠ .idle) : nothingInFlight s = false :=
  Bool.eq_false_iff.2 (mt (nothingInFlight_iff s).1 h)

/-- An expiry on a free line starts a round, the timer restarted (R122). -/
theorem scanExpires_starts {s : State} (hf : s.line.flight = .idle) (he : s.line.enrollWaiting = false) :
    scanExpires s = startRound (s.withLine { s.line with scanTimer := some (scanPeriod s) }) := by
  simp [scanExpires, (nothingInFlight_iff s).2 hf, he]

/-- Otherwise it records a deferred start (R122; log entry 35). -/
theorem scanExpires_defers {s : State} (h : s.line.flight ≠ .idle ∨ s.line.enrollWaiting = true) :
    scanExpires s = s.withLine { s.line with
      scanTimer := some (scanPeriod s), deferredStart := true } := by
  have hbusy : (nothingInFlight s && !s.line.enrollWaiting) = false := by
    rcases h with hf | he
    · rw [nothingInFlight_false hf, Bool.false_and]
    · rw [he, Bool.not_true, Bool.and_false]
  simp [scanExpires, hbusy]

/-- Settles O36. -/
theorem scanTimerStartsRounds : Obligations.ScanTimerStartsRounds := by
  unfold Obligations.ScanTimerStartsRounds
  refine ⟨fun s hp ht => ?expiry, fun s hp hd hf he => ?deferred⟩
  case expiry =>
    have hexec : exec .scanTimerExpiry s = .next (scanExpires s) := by
      simp [exec, execScanTimerExpiry, powered, hp, ht]
    by_cases hfree : s.line.flight = .idle ∧ s.line.enrollWaiting = false
    · obtain ⟨hf, he⟩ := hfree
      rw [scanExpires_starts hf he] at hexec
      have htimer : (startRound (s.withLine { s.line with scanTimer := some (scanPeriod s) })).line.scanTimer
          = some (scanPeriod s) := by simp
      refine ⟨_, hexec, htimer, fun _ _ => ⟨?_, by simp, by simp⟩, fun h => ?_, ?_⟩
      · exact roundBegun_congr (startRound_begun _) rfl rfl rfl
      · simp [hf, he] at h
      · rw [startRound_eq]
        rfl
    · have hbusy : s.line.flight ≠ .idle ∨ s.line.enrollWaiting = true := by
        by_contra h
        simp only [not_or, not_not, Bool.not_eq_true] at h
        exact hfree h
      rw [scanExpires_defers hbusy] at hexec
      exact ⟨_, hexec, rfl, fun hf he => absurd ⟨hf, he⟩ hfree, fun _ => rfl, rfl⟩
  case deferred =>
    have hexec : exec .deferredRoundStart s
        = .next (startRound (s.withLine { s.line with deferredStart := false })) := by
      simp [exec, execDeferredRoundStart, powered, hp, hd, he, (nothingInFlight_iff s).2 hf]
    refine ⟨_, hexec, roundBegun_congr (startRound_begun _) rfl rfl rfl, by simp, by simp, by simp, ?_⟩
    rw [startRound_eq]
    rfl

/-! ### The passes of the conditional sweep (R116, R117, R124) -/

theorem exec_seekIfPass {answer : PassAnswer} {s : State} {r : Round} (hp : s.power ≠ .off)
    (hn : s.line.finishing = none) (hf : s.line.flight = .round r) (hs : r.stage = .sweeping) :
    exec (.seekIfPass answer) s = .next (completeSeekIf answer r s) := by
  have hrun : exec (.seekIfPass answer) s
      = .next (if powered s then seekIfDone answer s else s) := rfl
  rw [hrun, seekIfDone, completion_recorded hp hn, seekIfRecorded, hf]
  exact congrArg _ (if_pos hs)

theorem isSeekIf_iff (x : Transaction) : (∃ sweep, x = .seekIf sweep) ↔ isSeekIf x = true := by
  unfold isSeekIf
  split <;> simp_all

/-- The found list after a pass yields an identity (R124; log entries 40 and 43). -/
def foundAfter (s : State) (i : Identity) : List Nat :=
  if Joins (foundIdentities s) i then
    match stationIndex s i with
    | some n => s.line.found ++ [n]
    | none => s.line.found
  else s.line.found

theorem foundIdentity_eq (i : Identity) (s : State) :
    foundIdentity i s = s.withLine { s.line with found := foundAfter s i } := by
  unfold foundIdentity foundAfter
  by_cases hj : Joins (foundIdentities s) i
  · rw [if_pos ((joinsList_iff _ _).2 hj), if_pos hj]
    cases stationIndex s i <;> rfl
  · rw [if_neg (mt (joinsList_iff _ _).1 hj), if_neg hj]
    rfl

/-- What the round does next where its sweep has ended (R125, R126). -/
def readsNext (r : Round) (count pointer : Nat) (found : List Nat) : Flight :=
  if found ≠ [] then .round { r with stage := .reading, jobs := found.map .readClearing }
  else if count = 0 then .round { r with stage := .completing, jobs := [] }
  else .round { r with stage := .rotating, jobs := [.readClearing (if pointer < count then pointer else 0)] }

/-- With no station found the rotation begins at the pointer (R126). -/
theorem rotationOrder_head {count : Nat} (h : count ≠ 0) (pointer : Nat) :
    (rotationOrder count pointer).head? = some (if pointer < count then pointer else 0) := by
  obtain ⟨m, rfl⟩ := Nat.exists_eq_succ_of_ne_zero h
  have hlt : (if pointer < m + 1 then pointer else 0) < m + 1 := by
    split <;> omega
  rw [rotationOrder, List.range_succ_eq_map, List.map_cons, List.head?_cons, Nat.add_zero,
    Nat.mod_eq_of_lt hlt]

theorem beginReading_eq (r : Round) (s : State) : beginReading r s
    = s.withLine { s.line with flight := readsNext r (stationCount s) s.line.pointer s.line.found } := by
  unfold beginReading readsNext
  by_cases hfound : s.line.found = []
  · rw [if_pos (List.isEmpty_iff.2 hfound), if_neg (not_not.2 hfound)]
    have hfirst : (rotationOrder (stationCount s) s.line.pointer).find? (fun n => !s.line.found.contains n)
        = (rotationOrder (stationCount s) s.line.pointer).head? := by
      rw [hfound]
      cases rotationOrder (stationCount s) s.line.pointer <;> simp
    unfold beginRotation
    rw [hfirst]
    by_cases hc : stationCount s = 0
    · simp [hc, rotationOrder, beginCompletion, setFlight]
    · rw [rotationOrder_head hc, if_neg hc]
      rfl
  · rw [if_neg (mt List.isEmpty_iff.1 hfound), if_pos hfound]
    rfl

/-- Settles O37. -/
theorem seekIfPassFindsStations : Obligations.SeekIfPassFindsStations := by
  unfold Obligations.SeekIfPassFindsStations
  refine ⟨fun answer => completion_notRecorded (fun _ => rfl) isSeekIf_iff, ?_⟩
  intro answer s r hp hn hf hs listed reads
  refine ⟨_, exec_seekIfPass hp hn hf hs, fun i m hpass => ?_, fun i hpass => ?_, fun hpass => ?_⟩
  all_goals rw [completeSeekIf, hpass]
  · dsimp only
    rw [foundIdentity_eq]
    rfl
  · dsimp only
    rw [foundIdentity_eq, beginReading_eq]
    rfl
  · exact beginReading_eq r s

end Sys2Proof.Machine
end

section
/-! SUPPORT. STATION ENROLL, the sweep it starts, and its deferred confirmation (R10, R117, R130, R166,
R191). -/

namespace Sys2Proof.Machine

/-! ### The path of a request to its owner (R161, R163, R164) -/

/-- A request that is taken, of a length it may have and in a lock state that admits it, reaches its
owner. -/
theorem takeRequest_reaches {code : Nat} {r : Rules} {f : List Byte} {s : State}
    (ht : taken code f s = true) (hsized : r.sized (requestParams f) = true)
    (hadmits : admits r.admits s.mgmt.lock = true) : takeRequest code r f s
      = answerRequest code (requestTag f) (r.run (requestTag f) (requestParams f) s) := by
  simp [takeRequest, ht, checkRequest, hsized, hadmits]

/-- A request that its owner refuses changes nothing but what every answer changes (R38, R161, R162). -/
theorem answerRequest_refuse {code : Nat} {f : List Byte} {s : State} (ht : taken code f s = true)
    (tag : Byte) {o : ReqOutcome} (ho : o ≠ .accepted) :
    answerRequest code tag (refuse o s) = answeredOnly s code tag o [] false := by
  rw [refuse, answerRequest_now (power_of_taken ht), beq_eq_false_iff_ne.2 ho, Bool.and_false]

/-! ### STATION ENROLL (R130, R166) -/

theorem exec_stationEnroll {f : List Byte} {s : State} (ht : taken 0x0C f s = true)
    (hl : s.mgmt.lock = .open ∨ s.mgmt.lock = .unlocked) (hp : requestParams f = []) :
    exec (.stationEnroll f) s
      = .next (answerRequest 0x0C (requestTag f) (stationEnroll (requestTag f) s)) :=
  congrArg _ (takeRequest_reaches (r := stationEnrollRules) ht (by simp [stationEnrollRules, fixed, hp])
    (admits_changing hl))

theorem enrollBusy_iff (s : State) :
    enrollBusy s = true ↔ s.line.enrollWaiting = true ∨ ∃ e, s.line.flight = .enroll e := by
  unfold enrollBusy
  split <;> simp_all

theorem lineIdle_iff (s : State) : lineIdle s = true ↔ s.line.flight = .idle := by
  unfold lineIdle lineBusy
  split <;> simp_all

/-- An accepted STATION ENROLL is outstanding; its sweep starts on a free line and waits otherwise. -/
theorem stationEnroll_accepted {tag : Byte} {s : State} (hd : s.walk.state = .dig)
    (hb : enrollBusy s = false) : stationEnroll tag s
      = ((s.withMgmt { s.mgmt with outEnroll := some { code := 0x0C, tag := tag } }).withLine
          (if s.line.flight = .idle then
            { s.line with flight := .enroll { sweep := ⟨none, 0⟩, list := [] } }
          else { s.line with enrollWaiting := true }), .later) := by
  have hwaits : s.line.enrollWaiting = false := by
    simp only [enrollBusy, Bool.or_eq_false_iff] at hb
    exact hb.1
  unfold stationEnroll
  rw [if_neg (not_not.2 hd), if_neg (by simp [hb])]
  dsimp only
  by_cases hf : s.line.flight = .idle
  · rw [if_pos ((lineIdle_iff s).2 hf), if_pos hf]
    simp [startEnrollment, firstSweep, hwaits, State.withLine, State.withMgmt]
  · rw [if_neg (mt (lineIdle_iff s).1 hf), if_neg hf]
    rfl

/-! ### The end of the sweep, and its deferred confirmation (R10, R166, R191) -/

theorem enrollData_eq (more : Bool) (list : List Identity) : enrollData more list
    = [if more then 1 else 0, BitVec.ofNat 8 list.length] ++ list.flatMap identityBytes := by
  cases more <;> simp [enrollData, flagByte, countedList, u8, List.flatMap_def]

/-- The sweep has ended between two states with a list: the line is free, and a confirmation that is
outstanding has become due, or in a dip is discarded. -/
def EnrollEnded (s t : State) (list : List Identity) (more : Bool) : Prop :=
  t.line = { s.line with flight := .idle }
    ∧ ∀ o, s.mgmt.outEnroll = some o →
      (s.power = .on → t.mgmt = { s.mgmt with outEnroll := none, deferredStore := 0 }
        ∧ DeferredJoined
          { kind := .mcnf true
            bytes := buildMcnf o.code o.tag 0 s.mgmt.deferredStore
              ([if more then 1 else 0, BitVec.ofNat 8 list.length] ++ list.flatMap identityBytes) } s t)
        ∧ (s.power = .dip → t.mgmt = { s.mgmt with outEnroll := none } ∧ t.link = s.link)

/-- What joins the cab port reads the link alone. -/
theorem DeferredJoined.congr {q : QFrame} {s s' t t' : State} (h : DeferredJoined q s t)
    (hs : s'.link = s.link) (ht : t'.link = t.link) : DeferredJoined q s' t' := by
  unfold DeferredJoined
  rw [hs, ht]
  exact h

theorem endEnrollment_ended {s : State} (h : PortsInv s) (list : List Identity) (more : Bool) :
    EnrollEnded s (endEnrollment list more s) list more := by
  unfold EnrollEnded endEnrollment
  dsimp only
  cases ho : s.mgmt.outEnroll with
  | none =>
    have : (setFlight .idle s).mgmt.outEnroll = none := ho
    rw [this]
    exact ⟨rfl, nofun⟩
  | some o =>
    have : (setFlight .idle s).mgmt.outEnroll = some o := ho
    rw [this]
    dsimp only
    refine ⟨by simp [setFlight], fun o' ho' => ?_⟩
    obtain rfl := Option.some.inj ho'
    rw [enrollData_eq]
    refine ⟨fun hp => ?_, fun hp => ?_⟩
    · have hopen : portsOpen (setFlight .idle s) = true := by simp [portsOpen, hp]
      rw [confirm, if_pos hopen, if_pos rfl]
      refine ⟨by simp, ?_⟩
      have hports : PortsInv ((setFlight .idle s).withMgmt
          { (setFlight .idle s).mgmt with deferredStore := 0 }) := h.congr rfl rfl rfl rfl
      exact (offerDeferred_joined hports (by simpa using hp) rfl).congr rfl rfl
    · have hshut : ¬ portsOpen (setFlight .idle s) = true := by simp [portsOpen, hp]
      rw [confirm, if_neg hshut]
      exact ⟨rfl, rfl⟩

/-! ### The passes of the sweep (R117, R130) -/

theorem exec_seekPass {answer : PassAnswer} {s : State} {e : Enrollment} (hp : s.power ≠ .off)
    (hn : s.line.finishing = none) (hf : s.line.flight = .enroll e) :
    exec (.seekPass answer) s = .next (completeSeek answer e s) := by
  have hrun : exec (.seekPass answer) s = .next (if powered s then seekDone answer s else s) := rfl
  rw [hrun, seekDone, completion_recorded hp hn, seekRecorded, hf]

/-- The enrollment list after a pass yields an identity (R130; log entry 43). -/
def listAfter (listed : List Identity) (i : Identity) : List Identity :=
  if Joins listed i then listed ++ [i] else listed

/-- The enrollment sweep after a pass with a list: it ends without a marker (R117, R130). -/
def enrollOn (list : List Identity) (i : Identity) (s : State) : Option Nat → State
  | none => endEnrollment list false s
  | some m => s.withLine { s.line with flight := .enroll ⟨⟨some m, i⟩, list⟩ }

/-- A pass that yields an identity: a 33rd one ends the sweep, any other goes by the marker. -/
theorem completeSeek_some {answer : PassAnswer} {e : Enrollment} {i : Identity} {marker : Option Nat}
    (h : runPass e.sweep answer = some (i, marker)) (s : State) : completeSeek answer e s
      = if Joins e.list i ∧ e.list.length = 32 then endEnrollment e.list true s
        else enrollOn (listAfter e.list i) i s marker := by
  have hfull : (joinsList e.list i && e.list.length == enrollCap) = true
      ↔ Joins e.list i ∧ e.list.length = 32 := by
    simp [joinsList_iff, enrollCap]
  unfold completeSeek
  rw [h]
  dsimp only
  simp only [hfull, joinsList_iff]
  cases marker <;> rfl

/-- Settles O38. -/
theorem enrollmentListsTheLine : Obligations.EnrollmentListsTheLine := by
  unfold Obligations.EnrollmentListsTheLine
  refine ⟨fun f s ht hl hp hd hb => ?accepted, fun f s ht hl hp => ?refused, fun s hp hw hf => ?starts,
    fun answer s e hp hports hn hf => ?pass⟩
  case accepted =>
    rw [exec_stationEnroll ht hl hp, stationEnroll_accepted hd hb]
    rfl
  case refused =>
    refine ⟨fun hd => ?_, fun hd hb => ?_⟩
    · rw [exec_stationEnroll ht hl hp, stationEnroll, if_pos hd, answerRequest_refuse ht _ (by decide)]
    · rw [exec_stationEnroll ht hl hp, stationEnroll, if_neg (not_not.2 hd),
        if_pos ((enrollBusy_iff s).2 hb), answerRequest_refuse ht _ (by decide)]
  case starts =>
    have hon : powered s = true := by simpa [powered] using hp
    simp only [exec, execEnrollmentSweepStart, hon, hw, (nothingInFlight_iff s).2 hf, Bool.and_self, if_true]
    rfl
  case pass =>
    intro grown ended
    refine ⟨_, exec_seekPass hp hn hf, fun hpass => ?_, fun i marker hpass => ?_, ?_⟩
    · rw [completeSeek, hpass]
      exact endEnrollment_ended hports e.list false
    · rw [completeSeek_some hpass]
      refine ⟨fun hfull => ?_, fun hroom => ⟨?_, ?_⟩⟩
      · rw [if_pos hfull]
        exact endEnrollment_ended hports e.list true
      · rintro rfl
        rw [if_neg hroom]
        exact endEnrollment_ended hports (grown i) false
      · rintro m rfl
        rw [if_neg hroom]
        rfl
    · simp

end Sys2Proof.Machine
end

section
/-! SUPPORT. STATION OUTPUT: its refusals, and the channels it sets (R128, R129, R195). -/

namespace Sys2Proof.Machine

/-! ### The refusals (R129, R195) -/

/-- The lengths STATION OUTPUT may have follow from its counts (R163). -/
theorem outputSized_of_length {p : List Byte} (h : p.length = 2 + 2 * u8At p 0 + 2 * u8At p 1) :
    outputSized p = true := by
  have : 2 ≤ p.length := by omega
  simp [outputSized, this, ← h]

theorem exec_stationOutput {f : List Byte} {s : State} (ht : taken 0x0B f s = true)
    (hl : s.mgmt.lock = .open ∨ s.mgmt.lock = .unlocked)
    (hp : (requestParams f).length = 2 + 2 * u8At (requestParams f) 0 + 2 * u8At (requestParams f) 1) :
    exec (.stationOutput f) s
      = .next (answerRequest 0x0B (requestTag f) (stationOutput (requestParams f) s)) :=
  congrArg _ (takeRequest_reaches (r := stationOutputRules) ht (outputSized_of_length hp)
    (admits_changing hl))

theorem pairExists_iff (s : State) (c : Nat × Nat) :
    pairExists s c = true ↔ c.1 < stationCount s ∧ c.2 ≤ 1 := by
  have hcode : (channelOfCode c.2).isSome = true ↔ c.2 ≤ 1 := by
    match c.2 with
    | 0 | 1 => simp [channelOfCode]
    | n + 2 => simp [channelOfCode]
  rw [pairExists, Bool.and_eq_true, decide_eq_true_eq, hcode]

theorem channelOfCode_eq {n : Nat} (h : n ≤ 1) : channelOfCode n = some (channelOf n) := by
  match n, h with
  | 0, _ => rfl
  | 1, _ => rfl

theorem pairOwned_iff {s : State} {c : Nat × Nat} (h : c.2 ≤ 1) : pairOwned s c = true
    ↔ walkOwns s ⟨c.1, channelOf c.2⟩ = true ∨ alarmOwns s ⟨c.1, channelOf c.2⟩ = true := by
  simp [pairOwned, channelOfCode_eq h]

/-! ### The channels set (R129) -/

/-- What the request asks of a channel that has a desired output or none: nothing where it does not name
it. -/
def asked (p : List Byte) (b : Binding) (old : Option Bool) : Option Bool :=
  newDesired ((setPairs p).contains (b.station, channelCode b.channel))
    ((clearPairs p).contains (b.station, channelCode b.channel)) old

theorem applyOutput_eq (p : List Byte) (s : State) (b : Binding) : applyOutput p s b
    = match asked p b (desiredOf s b) with
      | some v => setDesired b v s
      | none => s := rfl

theorem desiredOf_applyOutput_same (p : List Byte) {s : State} {b : Binding}
    (h : b.station < s.line.records.length) :
    desiredOf (applyOutput p s b) b = (asked p b (desiredOf s b)).or (desiredOf s b) := by
  rw [applyOutput_eq]
  cases asked p b (desiredOf s b) with
  | none => rfl
  | some v => exact desiredOf_setDesired_same h v

theorem desiredOf_applyOutput_other (p : List Byte) {b b' : Binding} (h : b' ≠ b) (s : State) :
    desiredOf (applyOutput p s b) b' = desiredOf s b' := by
  rw [applyOutput_eq]
  cases asked p b (desiredOf s b) with
  | none => rfl
  | some v => exact desiredOf_setDesired_other h v s

/-- Channels gone through once each: each has what is asked of it, every other stays. -/
theorem desiredOf_applyOutputs (p : List Byte) (b : Binding) :
    ∀ (l : List Binding) (s : State), l.Nodup → b.station < s.line.records.length →
      desiredOf (l.foldl (applyOutput p) s) b
        = if b ∈ l then (asked p b (desiredOf s b)).or (desiredOf s b) else desiredOf s b
  | [], s, _, _ => rfl
  | a :: l, s, hd, hb => by
    obtain ⟨ha, hd⟩ := List.nodup_cons.1 hd
    rw [List.foldl_cons, desiredOf_applyOutputs p b l _ hd (by simpa using hb)]
    by_cases he : b = a
    · subst he
      rw [if_neg ha, if_pos List.mem_cons_self, desiredOf_applyOutput_same p hb]
    · rw [desiredOf_applyOutput_other p he]
      simp [he]

/-- The station of a table index has a record, its output pending. -/
def Pending (s : State) (n : Nat) : Prop := ∃ x, recordOf s n = some x ∧ x.outputPending = true

theorem pending_setDesired {b : Binding} {s : State} (h : b.station < s.line.records.length) (v : Bool) :
    Pending (setDesired b v s) b.station := by
  have hx : recordOf s b.station = some s.line.records[b.station] := List.getElem?_eq_getElem h
  exact ⟨_, by rw [setDesired, recordOf_updateRecord_same, hx, Option.map_some], rfl⟩

theorem Pending.setDesired {s : State} {n : Nat} (h : Pending s n) (b : Binding) (v : Bool) :
    Pending (setDesired b v s) n := by
  obtain ⟨x, hx, hp⟩ := h
  by_cases hn : n = b.station
  · subst hn
    exact pending_setDesired (List.getElem?_eq_some_iff.1 hx).1 v
  · exact ⟨x, (recordOf_updateRecord_other hn _ s).trans hx, hp⟩

theorem Pending.applyOutput {s : State} {n : Nat} (h : Pending s n) (p : List Byte) (b : Binding) :
    Pending (applyOutput p s b) n := by
  rw [applyOutput_eq]
  split
  · exact h.setDesired b _
  · exact h

theorem Pending.applyOutputs {n : Nat} (p : List Byte) :
    ∀ (l : List Binding) {s : State}, Pending s n → Pending (l.foldl (Machine.applyOutput p) s) n
  | [], _, h => h
  | b :: l, _, h => Pending.applyOutputs p l (h.applyOutput p b)

/-- A channel that the request names makes its station's output pending (R129). -/
theorem pending_applyOutputs {p : List Byte} {b : Binding} (h : ∀ old, (asked p b old).isSome = true)
    (l : List Binding) (s : State) (hb : b ∈ l) (hr : b.station < s.line.records.length) :
    Pending (l.foldl (applyOutput p) s) b.station := by
  induction l generalizing s with
  | nil => exact absurd hb List.not_mem_nil
  | cons a l ih =>
    rw [List.foldl_cons]
    rcases List.mem_cons.1 hb with rfl | hb
    · refine Pending.applyOutputs p l ?_
      obtain ⟨v, hv⟩ := Option.isSome_iff_exists.1 (h (desiredOf s b))
      rw [applyOutput_eq, hv]
      exact pending_setDesired hr v
    · exact ih _ hb (by simpa using hr)

theorem mem_allChannels {s : State} {b : Binding} : b ∈ allChannels s ↔ b.station < stationCount s := by
  obtain ⟨n, c⟩ := b
  cases c <;> simp [allChannels]

theorem nodup_allChannels (s : State) : (allChannels s).Nodup := by
  refine List.nodup_flatMap.2 ⟨fun n _ => by simp, ?_⟩
  refine List.nodup_range.imp fun {m n} hne => ?_
  simp [Function.onFun, Ne.symm hne]

/-- What the request sends back reads the desired outputs and the table. -/
theorem stationOutputData_congr {s t : State} (hr : t.line.records = s.line.records)
    (ht : t.tables = s.tables) (p : List Byte) : stationOutputData p t = stationOutputData p s := by
  have hd : desiredOf t = desiredOf s := by
    funext b
    rw [desiredOf, recordOf_congr hr, desiredOf]
  simp only [stationOutputData, hd, stationCount_congr (s := s) (t := t) (by rw [ht])]

theorem applyOutputs_undesired (p : List Byte) (l : List Binding) (s : State) :
    (l.foldl (applyOutput p) s).line.records.map undesired = s.line.records.map undesired := by
  refine foldl_keeps (fun x => x.line.records.map undesired = s.line.records.map undesired) _ ?_ l s rfl
  intro x b hx
  rw [applyOutput_eq]
  split
  · rw [setDesired_undesired, hx]
  · exact hx

theorem counts_iff {a b : Nat} : (decide (48 < a) || decide (48 < b)) = true ↔ ¬ (a ≤ 48 ∧ b ≤ 48) := by
  simp only [Bool.or_eq_true, decide_eq_true_eq]
  omega

/-- An accepted STATION OUTPUT goes through every channel of the table. -/
theorem stationOutput_accepted {p : List Byte} {s : State} (h0 : u8At p 0 ≤ 48) (h1 : u8At p 1 ≤ 48)
    (hst : (stationOf s).isSome = true)
    (hnamed : ∀ c ∈ setPairs p ++ clearPairs p, c.1 < stationCount s ∧ c.2 ≤ 1)
    (hfree : ∀ c ∈ setPairs p ++ clearPairs p, walkOwns s ⟨c.1, channelOf c.2⟩ = false
      ∧ alarmOwns s ⟨c.1, channelOf c.2⟩ = false) :
    stationOutput p s = ((allChannels s).foldl (applyOutput p) s,
      .now .accepted (stationOutputData p ((allChannels s).foldl (applyOutput p) s))) := by
  have hexists : ¬ (setPairs p ++ clearPairs p).any (fun c => !pairExists s c) = true := by
    simp only [List.any_eq_true, not_exists, not_and, Bool.not_eq_true', Bool.not_eq_false]
    exact fun c hc => (pairExists_iff s c).2 (hnamed c hc)
  have hnone : ¬ (setPairs p ++ clearPairs p).any (pairOwned s) = true := by
    simp only [List.any_eq_true, not_exists, not_and]
    intro c hc howned
    obtain ⟨hw, ha⟩ := hfree c hc
    simpa [hw, ha] using (pairOwned_iff (hnamed c hc).2).1 howned
  have hpresent : ¬ (stationOf s).isNone = true := by
    rw [← Option.not_isSome, hst]
    decide
  unfold stationOutput
  rw [if_neg (counts_iff.not.2 (not_not.2 ⟨h0, h1⟩)), if_neg hpresent, if_neg hexists, if_neg hnone]

/-- Settles O40. -/
theorem stationOutputSetsNamedChannels : Obligations.StationOutputSetsNamedChannels := by
  unfold Obligations.StationOutputSetsNamedChannels
  refine ⟨fun f s => ?refused, fun f s => ?accepted⟩
  case refused =>
    intro p pairs refused counted named ht hl hp
    have hrefused (o : ReqOutcome) (ho : o ≠ .accepted) (h : stationOutput p s = refuse o s) :
        refused o := by
      change exec (.stationOutput f) s = _
      rw [exec_stationOutput ht hl hp, h, answerRequest_refuse ht _ ho]
    have hexists : pairs.any (fun c => !pairExists s c) = true ↔ ¬ named := by
      simp only [List.any_eq_true, Bool.not_eq_true', ← Bool.not_eq_true, pairExists_iff, named]
      push Not
      rfl
    refine ⟨fun hc => hrefused _ (by decide) (if_pos (counts_iff.2 hc)), fun hc hst => hrefused _ (by decide) ?_,
      fun hc hst hn => hrefused _ (by decide) ?_, fun hc hst hn howned => hrefused _ (by decide) ?_⟩
    all_goals refine (if_neg (counts_iff.not.2 (not_not.2 hc))).trans ?_
    · exact if_pos (by simp [hst])
    all_goals refine (if_neg (by simpa using hst)).trans ?_
    · exact if_pos (hexists.2 hn)
    · refine (if_neg (mt hexists.1 (not_not.2 hn))).trans (if_pos ?_)
      obtain ⟨c, hmem, hc⟩ := howned
      exact List.any_eq_true.2 ⟨c, hmem, (pairOwned_iff (hn c hmem).2).2 hc⟩
  case accepted =>
    intro p sets clears ht hl hp h0 h1 hst hlen hnamed hfree
    set s1 := (allChannels s).foldl (applyOutput p) s with hs1
    have hacc : stationOutput p s = (s1, .now .accepted (stationOutputData p s1)) :=
      stationOutput_accepted h0 h1 hst hnamed hfree
    have hkept := stationOutput_frame p s
    rw [hacc] at hkept
    dsimp only at hkept
    obtain ⟨hpower, hlink, hposition, hshaper, hswing, hwalk, halarm, hmgmt, hstore, htables, -, hfound,
      hpointer, hscan, hstart, hwaiting, hfinishing, hflight, -⟩ := hkept
    have hexec : exec (.stationOutput f) s = .next (answeredOnly s1 0x0B (requestTag f) .accepted
        (stationOutputData p s1) false) := by
      rw [exec_stationOutput ht hl hp, hacc, answerRequest_now (by rw [hpower, power_of_taken ht])]
      rfl
    refine ⟨_, hexec, fun n ch hn => ?channels, ?link, ?_⟩
    case channels =>
      intro inSet inClear
      have hmem : (⟨n, ch⟩ : Binding) ∈ allChannels s := mem_allChannels.2 hn
      have hr : n < s.line.records.length := by omega
      have hdesired : desiredOf (answeredOnly s1 0x0B (requestTag f) .accepted (stationOutputData p s1)
          false) ⟨n, ch⟩ = (asked p ⟨n, ch⟩ (desiredOf s ⟨n, ch⟩)).or (desiredOf s ⟨n, ch⟩) := by
        have := desiredOf_applyOutputs p ⟨n, ch⟩ (allChannels s) s (nodup_allChannels s) hr
        rw [if_pos hmem] at this
        exact this
      have hasked (old : Option Bool) : asked p ⟨n, ch⟩ old
          = newDesired (decide inSet) (decide inClear) old := by
        simp [asked, inSet, inClear, sets, clears]
      rw [hdesired, hasked]
      refine ⟨fun hs hc => by simp [hs, hc, newDesired], fun hs hc => by simp [hs, hc, newDesired],
        fun hs hc => by simp [hs, hc, newDesired], fun hs hc => by simp [hs, hc, newDesired], fun h => ?_⟩
      have hsome (old : Option Bool) : (asked p ⟨n, ch⟩ old).isSome = true := by
        rw [hasked]
        by_cases hs : inSet <;> by_cases hc : inClear <;> simp_all [newDesired]
      exact pending_applyOutputs hsome (allChannels s) s hmem hr
    case link =>
      have hdata : stationOutputData p (answeredOnly s1 0x0B (requestTag f) .accepted
          (stationOutputData p s1) false) = stationOutputData p s1 :=
        stationOutputData_congr rfl rfl p
      rw [hdata]
      simp [confirmedLink, hlink, hmgmt]
    refine ⟨by simp [hmgmt], ?_, applyOutputs_undesired p _ s, hpower, hposition, hshaper, hswing, hwalk,
      halarm, hstore, htables⟩
    exact StationLine.eq_of_records hfound hpointer hscan hstart hwaiting hflight hfinishing

end Sys2Proof.Machine
end

section
/-! SUPPORT. What evaluating conditions does to the list of alarms and to the live records (R142 to R148),
and the check of the owned channels (R148). -/

namespace Sys2Proof.Machine

/-! ### The listed slots -/

/-- The slots on the active list, in its order. -/
def listedSlots (s : State) : List Nat := s.alarm.list.map (·.slot)

theorem entryOf_none_iff_listed {s : State} {n : Nat} : entryOf s n = none ↔ n ∉ listedSlots s := by
  rw [entryOf_none]
  simp [listedSlots]

theorem listed_of_entryOf {s : State} {n : Nat} {e : Entry} (h : entryOf s n = some e) :
    n ∈ listedSlots s := by
  by_contra hn
  rw [entryOf_none_iff_listed.2 hn] at h
  cases h

/-- What an evaluation does to the list and the line: nothing, or its slot is raised, or its entry is
removed. -/
def Relisted (n : Nat) (s t : State) : Prop :=
  (listedSlots t = listedSlots s ∧ t.line = s.line)
    ∨ (listedSlots t = listedSlots s ++ [n] ∧ n ∉ listedSlots s)
    ∨ (listedSlots t = (listedSlots s).filter (· != n) ∧ n ∈ listedSlots s)

theorem listedSlots_setEntryState (n : Nat) (x : EntryState) (s : State) :
    listedSlots (setEntryState n x s) = listedSlots s := by
  simp only [listedSlots, setEntryState, State.withAlarm_alarm, List.map_map]
  refine List.map_congr_left fun e _ => ?_
  simp only [Function.comp]
  split <;> rfl

theorem listedSlots_raiseSlot (n : Nat) (a : Attrs) (s : State) :
    listedSlots (raiseSlot n a s) = listedSlots s ++ [n] := by
  rw [listedSlots, raiseSlot_alarm]
  simp [listedSlots]

theorem listedSlots_removeEntry (n : Nat) (a : Attrs) (s : State) :
    listedSlots (removeEntry n a s) = (listedSlots s).filter (· != n) := by
  rw [listedSlots, removeEntry_alarm, listedSlots, List.filter_map]
  rfl

theorem relisted_returnEntry {n : Nat} (a : Attrs) {e : Entry} {s : State} (h : n ∈ listedSlots s) :
    Relisted n s (returnEntry n a e s) := by
  have hremoved : Relisted n s (removeEntry n a (logEvent .return' n s)) :=
    .inr (.inr ⟨listedSlots_removeEntry n a _, h⟩)
  unfold returnEntry
  split
  · split
    · exact .inl ⟨listedSlots_setEntryState n _ _, rfl⟩
    · exact hremoved
  · exact hremoved
  · exact .inl ⟨rfl, rfl⟩

theorem relisted_evaluate (n : Nat) (v : Bool) (s : State) : Relisted n s (evaluate n v s) := by
  have same : Relisted n s s := .inl ⟨rfl, rfl⟩
  unfold evaluate
  split
  · exact same
  · rename_i a _
    dsimp only
    split
    · rename_i e he
      split
      · unfold reassert
        split
        · exact .inl ⟨listedSlots_setEntryState n _ _, rfl⟩
        · exact same
        · exact same
      · exact relisted_returnEntry a (s := setSlot n _ s) (listed_of_entryOf he)
    · rename_i he
      split
      · split
        · exact same
        · split
          · exact .inr (.inl ⟨listedSlots_raiseSlot n a _, entryOf_none_iff_listed.1 he⟩)
          · exact same
      · exact same

theorem Relisted.other {n m : Nat} {s t : State} (h : Relisted n s t) (hm : m ≠ n) :
    m ∈ listedSlots t ↔ m ∈ listedSlots s := by
  rcases h with ⟨h, -⟩ | ⟨h, -⟩ | ⟨h, -⟩
  · rw [h]
  · simp [h, hm]
  · simp [h, hm]

/-- A list that has changed has gained or lost the slot evaluated. -/
theorem Relisted.same_or_flipped {n : Nat} {s t : State} (h : Relisted n s t) :
    (listedSlots t = listedSlots s ∧ t.line = s.line) ∨ (n ∈ listedSlots t ↔ n ∉ listedSlots s) := by
  rcases h with h | ⟨h, hn⟩ | ⟨h, hn⟩
  · exact .inl h
  · exact .inr (by simp [h, hn])
  · exact .inr (by simp [h, hn])

/-! ### The bound sources, in slot order (R139 to R141) -/

/-- One definition of an evaluation of the bound sources. -/
def sourceStep (value : AlarmDef → Bool → Option Bool) (s : State) (d : AlarmDef × Nat) : State :=
  if s.alarm.bound.getD d.2 false then
    match value d.1 (slotOf s (12 + d.2)).condition with
    | some v => evaluate (12 + d.2) v s
    | none => s
  else s

theorem evaluateBound_eq (value : AlarmDef → Bool → Option Bool) (s : State) :
    evaluateBound value s = (definitionsOf s).zipIdx.foldl (sourceStep value) s := rfl

/-- A step of the sources does nothing or evaluates its own slot. -/
theorem sourceStep_cases (value : AlarmDef → Bool → Option Bool) (s : State) (d : AlarmDef × Nat) :
    sourceStep value s d = s ∨ ∃ v, sourceStep value s d = evaluate (12 + d.2) v s := by
  unfold sourceStep
  split
  · split
    · exact .inr ⟨_, rfl⟩
    · exact .inl rfl
  · exact .inl rfl

theorem relisted_sourceStep (value : AlarmDef → Bool → Option Bool) (s : State) (d : AlarmDef × Nat) :
    Relisted (12 + d.2) s (sourceStep value s d) := by
  rcases sourceStep_cases value s d with h | ⟨v, h⟩ <;> rw [h]
  · exact .inl ⟨rfl, rfl⟩
  · exact relisted_evaluate _ v s

theorem sources_listed_other (value : AlarmDef → Bool → Option Bool) {m : Nat}
    (l : List (AlarmDef × Nat)) (s : State) (h : m ∉ l.map (12 + ·.2)) :
    m ∈ listedSlots (l.foldl (sourceStep value) s) ↔ m ∈ listedSlots s := by
  induction l generalizing s with
  | nil => rfl
  | cons d l ih =>
    obtain ⟨hd, hl⟩ := not_or.1 (mt List.mem_cons.2 h)
    exact (ih _ hl).trans ((relisted_sourceStep value s d).other hd)

/-- Each slot is evaluated once, so a list that has changed on the way is changed at the end. -/
theorem sources_same_or_flipped (value : AlarmDef → Bool → Option Bool) (l : List (AlarmDef × Nat))
    (s : State) (h : (l.map (12 + ·.2)).Nodup) :
    (listedSlots (l.foldl (sourceStep value) s) = listedSlots s
        ∧ (l.foldl (sourceStep value) s).line = s.line)
      ∨ ∃ m ∈ l.map (12 + ·.2), (m ∈ listedSlots (l.foldl (sourceStep value) s) ↔ m ∉ listedSlots s) := by
  induction l generalizing s with
  | nil => exact .inl ⟨rfl, rfl⟩
  | cons d l ih =>
    obtain ⟨hd, hl⟩ := List.nodup_cons.1 h
    have hstep := relisted_sourceStep value s d
    rcases ih (sourceStep value s d) hl with ⟨hlist, hline⟩ | ⟨m, hm, hflip⟩
    · rcases hstep.same_or_flipped with ⟨hlist', hline'⟩ | hflip
      · exact .inl ⟨hlist.trans hlist', hline.trans hline'⟩
      · exact .inr ⟨_, List.mem_cons_self, (sources_listed_other value l _ hd).trans hflip⟩
    · refine .inr ⟨m, List.mem_cons_of_mem _ hm, hflip.trans (not_congr (hstep.other ?_))⟩
      rintro rfl
      exact hd hm

theorem zipIdx_slots {α : Type} (l : List α) :
    l.zipIdx.map (12 + ·.2) = (List.range l.length).map (12 + ·) := by
  rw [List.range_eq_range', ← List.zipIdx_map_snd 0 l, List.map_map]
  rfl

/-- An evaluation of the bound sources that leaves the listed slots leaves the station line. -/
theorem evaluateBound_same_or_flipped (value : AlarmDef → Bool → Option Bool) (s : State) :
    (listedSlots (evaluateBound value s) = listedSlots s ∧ (evaluateBound value s).line = s.line)
      ∨ ∃ m, 12 ≤ m ∧ (m ∈ listedSlots (evaluateBound value s) ↔ m ∉ listedSlots s) := by
  rw [evaluateBound_eq]
  refine (sources_same_or_flipped value _ s ?_).imp_right fun ⟨m, hm, hflip⟩ => ⟨m, ?_, hflip⟩
  · rw [zipIdx_slots]
    exact List.nodup_range.map fun _ _ h => Nat.add_left_cancel h
  · rw [zipIdx_slots] at hm
    obtain ⟨k, -, rfl⟩ := List.mem_map.1 hm
    exact Nat.le_add_right 12 k

/-! ### A pending output stays pending -/

/-- Between two states, outputs pending at a station stay so. -/
def KeepsPending (s t : State) : Prop := ∀ n, Pending s n → Pending t n

theorem keepsPending_of_records {s t : State} (h : t.line.records = s.line.records) :
    KeepsPending s t := fun n ⟨x, hx, hp⟩ => ⟨x, (recordOf_congr h n).trans hx, hp⟩

theorem KeepsPending.trans {s t u : State} (h : KeepsPending s t) (h' : KeepsPending t u) :
    KeepsPending s u := fun n hn => h' n (h n hn)

theorem keepsPending_updateOutput (o : Option Binding) (before : Bool) (s : State) :
    KeepsPending s (updateOutput o before s) := by
  unfold updateOutput
  split
  · exact fun n h => h
  · split
    · exact fun n h => h.setDesired _ _
    · exact fun n h => h

theorem captureFirstOut_line (n : Nat) (c : AlarmClass) (s : State) :
    (captureFirstOut n c s).line = s.line := by
  unfold captureFirstOut
  split <;> rfl

theorem queueNotice_line (n : Nat) (s : State) : (queueNotice n s).line = s.line := by
  unfold queueNotice
  split <;> rfl

theorem keepsPending_raiseSlot (n : Nat) (a : Attrs) (s : State) : KeepsPending s (raiseSlot n a s) := by
  unfold raiseSlot
  dsimp only
  refine (keepsPending_of_records (congrArg StationLine.records ?_)).trans
    (keepsPending_updateOutput _ _ _)
  have hcaptured (x : State) : (if a.cls == .trip then closeGates allMotions x else x).line = x.line := by
    split <;> rfl
  split
  · rw [queueNotice_line, hcaptured, captureFirstOut_line]
    rfl
  · rw [hcaptured, captureFirstOut_line]
    rfl

theorem keepsPending_removeEntry (n : Nat) (a : Attrs) (s : State) :
    KeepsPending s (removeEntry n a s) := by
  unfold removeEntry
  dsimp only
  refine (keepsPending_of_records ?_).trans (keepsPending_updateOutput _ _ _)
  rfl

theorem keepsPending_evaluate (n : Nat) (v : Bool) (s : State) : KeepsPending s (evaluate n v s) := by
  have same {t : State} (h : t.line = s.line) : KeepsPending s t :=
    keepsPending_of_records (congrArg StationLine.records h)
  unfold evaluate
  split
  · exact same rfl
  · rename_i a _
    dsimp only
    split
    · rename_i e _
      split
      · unfold reassert
        split <;> exact same rfl
      · unfold returnEntry
        have removed := keepsPending_removeEntry n a
          (logEvent .return' n (setSlot n { slotOf s n with condition := v } s))
        split
        · split
          · exact same rfl
          · exact removed
        · exact removed
        · exact same rfl
    · split
      · split
        · exact same rfl
        · split
          · exact keepsPending_raiseSlot n a (setSlot n _ s)
          · exact same rfl
      · exact same rfl

theorem keepsPending_evaluateBound (value : AlarmDef → Bool → Option Bool) (s : State) :
    KeepsPending s (evaluateBound value s) := by
  rw [evaluateBound_eq]
  refine foldl_keeps (KeepsPending s) _ (fun x d h => h.trans ?_) _ s fun n h => h
  rcases sourceStep_cases value x d with he | ⟨v, he⟩ <;> rw [he]
  · exact fun n h => h
  · exact keepsPending_evaluate _ v x

/-! ### The check of the owned channels (R148) -/

theorem mem_ownedOutputs {s : State} {b : Binding} :
    b ∈ ownedOutputs s ↔ alarmOwns s b = true ∧ walkOwns s b = false := by
  have howns : alarmOwns s b = true ↔ b ∈ ((definitionsOf s).zipIdx.filterMap fun (d, k) =>
      if s.alarm.bound.getD k false then d.attrs.output else none) := by
    simp only [alarmOwns, List.any_eq_true, List.mem_filterMap, Bool.and_eq_true, beq_iff_eq]
    refine exists_congr fun d => and_congr_right fun _ => ?_
    cases s.alarm.bound.getD d.2 false <;> simp
  rw [ownedOutputs, List.mem_filter, howns, Bool.not_eq_true']

/-- Channels set one after the other, each to its value: a record has those of its own set. -/
theorem recordOf_setEach (value : Binding → Bool) (n : Nat) (l : List Binding) (s : State) :
    recordOf (l.foldl (fun acc b => setDesired b (value b) acc) s) n = (recordOf s n).map fun x =>
      { x with
        desired := ⟨if ⟨n, .a⟩ ∈ l then some (value ⟨n, .a⟩) else x.desired.a,
          if ⟨n, .b⟩ ∈ l then some (value ⟨n, .b⟩) else x.desired.b⟩
        outputPending := x.outputPending || decide (⟨n, .a⟩ ∈ l) || decide (⟨n, .b⟩ ∈ l) } := by
  induction l generalizing s with
  | nil => simp
  | cons d l ih =>
    rw [List.foldl_cons, ih]
    by_cases hn : n = d.station
    · subst hn
      rw [setDesired, recordOf_updateRecord_same, Option.map_map]
      congr 1
      funext x
      obtain ⟨n, c⟩ := d
      cases c
      · by_cases h : (⟨n, .a⟩ : Binding) ∈ l <;> by_cases h' : (⟨n, .b⟩ : Binding) ∈ l <;>
          simp [h, h', PerChannel.set]
      · by_cases h : (⟨n, .a⟩ : Binding) ∈ l <;> by_cases h' : (⟨n, .b⟩ : Binding) ∈ l <;>
          simp [h, h', PerChannel.set]
    · have hne (c : Channel) : (⟨n, c⟩ : Binding) ≠ d := by
        rintro rfl
        exact hn rfl
      rw [setDesired, recordOf_updateRecord_other hn]
      simp [hne]

end Sys2Proof.Machine
end

section
/-! SUPPORT. The walk sequencer at a round completion (R93, R95): which rule it applies, and what every rule
leaves. -/

namespace Sys2Proof.Machine

/-! ### What every rule leaves -/

/-- No command of the usable WALK table is at the station of a table index. -/
def NoCommand (s : State) (n : Nat) : Prop :=
  ∀ w, usableWalk s = some w → w.digCommand.station ≠ n ∧ w.walkCommand.station ≠ n

/-- What a rule of the sequencer leaves: the usable table, the live records but for desired outputs, the
records of stations without a command, and of the alarms everything but slot 8. -/
structure WalkStep (s t : State) : Prop where
  usable : usableWalk t = usableWalk s
  undesired : t.line.records.map undesired = s.line.records.map undesired
  record : ∀ n, NoCommand s n → recordOf t n = recordOf s n
  listed : ∀ m, m ≠ 8 → (m ∈ listedSlots t ↔ m ∈ listedSlots s)
  slot : ∀ m, m ≠ 8 → slotOf t m = slotOf s m
  slots : t.alarm.slots.length = s.alarm.slots.length

theorem WalkStep.refl (s : State) : WalkStep s s :=
  ⟨rfl, rfl, fun _ _ => rfl, fun _ _ => Iff.rfl, fun _ _ => rfl, rfl⟩

theorem WalkStep.trans {s t u : State} (h : WalkStep s t) (h' : WalkStep t u) : WalkStep s u where
  usable := h'.usable.trans h.usable
  undesired := h'.undesired.trans h.undesired
  record n hn := (h'.record n fun w hw => hn w (h.usable ▸ hw)).trans (h.record n hn)
  listed m hm := (h'.listed m hm).trans (h.listed m hm)
  slot m hm := (h'.slot m hm).trans (h.slot m hm)
  slots := h'.slots.trans h.slots

theorem walkStep_ite {c : Prop} [Decidable c] {s t u : State} (ht : WalkStep s t) (hu : WalkStep s u) :
    WalkStep s (if c then t else u) := by
  split
  · exact ht
  · exact hu

/-- A step that reaches neither the alarm unit nor the line. -/
theorem walkStep_of_same {s t : State} (hu : usableWalk t = usableWalk s) (hl : t.line = s.line)
    (ha : t.alarm = s.alarm) : WalkStep s t where
  usable := hu
  undesired := by rw [hl]
  record n _ := by rw [recordOf, hl, recordOf]
  listed m _ := by rw [listedSlots, ha, listedSlots]
  slot m _ := by rw [slotOf, ha, slotOf]
  slots := by rw [ha]

theorem walkStep_closeGates (which : PerMotion Bool) (s : State) : WalkStep s (closeGates which s) :=
  walkStep_of_same rfl rfl rfl

theorem walkStep_withWalk {s : State} {x : WalkSequencer} (h : x.usable = s.walk.usable) :
    WalkStep s (s.withWalk x) :=
  walkStep_of_same (usableWalk_congr h rfl) rfl rfl

theorem walkStep_setDesired {s : State} {w : WalkTable} (hw : usableWalk s = some w) {b : Binding}
    (hb : b = w.digCommand ∨ b = w.walkCommand) (v : Bool) : WalkStep s (setDesired b v s) where
  usable := rfl
  undesired := setDesired_undesired b v s
  record n hn := by
    obtain ⟨hdig, hwalk⟩ := hn w hw
    refine recordOf_updateRecord_other ?_ _ s
    rcases hb with rfl | rfl
    · exact hdig.symm
    · exact hwalk.symm
  listed _ _ := Iff.rfl
  slot _ _ := rfl
  slots := rfl

theorem walkStep_setCommands (s : State) : WalkStep s (setCommands s) := by
  unfold setCommands
  split
  · rename_i w dig walk hw _
    exact (walkStep_setDesired hw (.inl rfl) dig).trans
      (walkStep_setDesired (s := setDesired w.digCommand dig s) hw (.inr rfl) walk)
  · exact .refl s

theorem walkStep_enterState (x : SeqState) (y : SubStep) (s : State) : WalkStep s (enterState x y s) := by
  unfold enterState
  dsimp only
  refine WalkStep.trans (walkStep_withWalk ?_) (walkStep_setCommands _)
  rfl

theorem walkStep_evaluate_eight (v : Bool) (s : State) : WalkStep s (evaluate 8 v s) where
  usable := usableWalk_congr (by simp) (by simp)
  undesired := evaluate_undesired 8 v s
  record n _ := recordOf_congr (by rw [evaluate_internal_line v s (by decide)]) n
  listed m hm := (relisted_evaluate 8 v s).other hm
  slot m hm := evaluate_slots_other v s hm
  slots := evaluate_slots_length 8 v s

theorem walkStep_enterFault (s : State) : WalkStep s (enterFault s) :=
  ((walkStep_enterState .transferFault .none s).trans (walkStep_closeGates allMotions _)).trans
    (walkStep_evaluate_eight true _)

theorem walkStep_of_moves {s t : State} (h : Moves s t) : WalkStep s t := by
  rcases h with rfl | rfl | ⟨x, y, which, -, rfl⟩
  · exact .refl t
  · exact walkStep_enterFault s
  · exact (walkStep_enterState x y s).trans (walkStep_closeGates which _)

theorem walkStep_requestAgain {s : State} {w : WalkTable} (hw : usableWalk s = some w) :
    WalkStep s (requestAgain s w) := by
  unfold requestAgain
  split
  · rename_i dig walk _
    refine walkStep_ite ?_ (.refl s)
    have hdig : WalkStep s (if unsettled s w.digCommand dig then setDesired w.digCommand dig s else s) :=
      walkStep_ite (walkStep_setDesired hw (.inl rfl) dig) (.refl s)
    exact walkStep_ite (hdig.trans (walkStep_setDesired (hdig.usable.trans hw) (.inr rfl) walk)) hdig
  · exact .refl s

/-! ### The rule applied -/

/-- The state after the live records are handed on (R127). -/
def handedOn (s : State) : State := s.withWalk { s.walk with delivered := deliveredNow s }

theorem usableWalk_handedOn (s : State) : usableWalk (handedOn s) = usableWalk s := rfl

theorem walkRound_unusable {s : State} (hw : usableWalk s = none) : walkRound s
    = if s.walk.state = .startup then enterState .dig .none (handedOn s) else handedOn s := by
  unfold walkRound
  dsimp only
  rw [← handedOn, usableWalk_handedOn, hw]

theorem walkRound_startup {s : State} {w : WalkTable} (hw : usableWalk s = some w)
    (hs : s.walk.state = .startup) : walkRound s = startupDecision (handedOn s) w := by
  unfold walkRound
  dsimp only
  rw [← handedOn, usableWalk_handedOn, hw]
  exact if_pos hs

theorem walkRound_running {s : State} {w : WalkTable} (hw : usableWalk s = some w)
    (hs : s.walk.state ≠ .startup) : walkRound s
      = requestAgain (faultReturn s.walk.state (roundAdvance (handedOn s) w) w) w := by
  unfold walkRound
  dsimp only
  rw [← handedOn, usableWalk_handedOn, hw]
  exact if_neg hs

theorem walkStep_walkRound (s : State) : WalkStep s (walkRound s) := by
  have hdelivered : WalkStep s (handedOn s) := walkStep_withWalk rfl
  cases hw : usableWalk s with
  | none =>
    rw [walkRound_unusable hw]
    exact walkStep_ite (hdelivered.trans (walkStep_enterState .dig .none _)) hdelivered
  | some w =>
    by_cases hs : s.walk.state = .startup
    · rw [walkRound_startup hw hs]
      exact hdelivered.trans (walkStep_of_moves (moves_startupDecision _ w))
    · rw [walkRound_running hw hs]
      have hadvanced := hdelivered.trans (walkStep_of_moves (moves_roundAdvance (handedOn s) w))
      have hreturned : WalkStep s (faultReturn s.walk.state (roundAdvance (handedOn s) w) w) :=
        hadvanced.trans (walkStep_ite (walkStep_evaluate_eight false _) (.refl _))
      exact hreturned.trans (walkStep_requestAgain (hreturned.usable.trans hw))

/-! ### What the decisions read (R93, R95) -/

theorem feedback_of_delivered {s t : State} (h : t.walk.delivered = s.walk.delivered) :
    feedback t = feedback s := by
  funext b
  rw [feedback, h, feedback]

theorem bindingUnseen_iff {s : State} {w : WalkTable} : bindingUnseen s w = true
    ↔ ∃ b ∈ walkBindings w, ∀ x, recordOf s b.station = some x → x.state = .unseen := by
  simp only [bindingUnseen, List.any_eq_true]
  refine exists_congr fun b => and_congr_right fun _ => ?_
  cases recordOf s b.station <;> simp

theorem commandMissing_iff {s : State} {w : WalkTable} : commandMissing s w = true
    ↔ ∃ b ∈ [w.digCommand, w.walkCommand], ∃ x, recordOf s b.station = some x ∧ x.state = .missing := by
  simp only [commandMissing, List.any_eq_true]
  refine exists_congr fun b => and_congr_right fun _ => ?_
  cases recordOf s b.station <;> simp

theorem commandHeld_eq (s : State) (b : Binding) :
    commandHeld s b = (recordOf s b.station).bind (·.held.get b.channel) := by
  unfold commandHeld
  cases recordOf s b.station <;> rfl

theorem bothSettledOff_iff {s : State} {w : WalkTable} : bothSettledOff s w = true
    ↔ SettledTo s w.digCommand false ∧ SettledTo s w.walkCommand false := by
  rw [bothSettledOff, Bool.and_eq_true, settled_iff, settled_iff]

theorem bothOpen_iff {s : State} {w : WalkTable} : bothOpen s w = true
    ↔ feedback s w.digFeedback = .opened ∧ feedback s w.walkFeedback = .opened := by
  simp [bothOpen]

theorem unsettled_iff {s : State} {b : Binding} {v : Bool} :
    unsettled s b v = true ↔ SettledTo s b (!v) := settled_iff s b (!v)

/-! ### TRANSFER_FAULT and the commands set again -/

/-- A fault found before the return of step 5 is what the completion leaves. -/
theorem faultReturn_enterFault {x : SeqState} {s : State} {w : WalkTable}
    (h : x = .transferFault → ¬ bothOpen s w = true) :
    requestAgain (faultReturn x (enterFault s) w) w = enterFault s := by
  have hopen : bothOpen (enterFault s) w = bothOpen s w := by
    simp only [bothOpen, feedback_of_delivered (s := s) (t := enterFault s) (by simp)]
  have hreturn : faultReturn x (enterFault s) w = enterFault s :=
    if_neg fun ⟨hx, ho⟩ => h hx (hopen ▸ ho)
  have hstate : (enterFault s).walk.state = .transferFault := by rw [enterFault_walk]
  rw [hreturn, requestAgain, hstate]
  rfl

theorem faultReturn_other {x : SeqState} (h : x ≠ .transferFault) (s : State) (w : WalkTable) :
    faultReturn x s w = s := if_neg fun ⟨hx, _⟩ => h hx

/-- The states in which an unsettled command is requested again (R92). -/
def Steady (x : SeqState) : Prop := x = .dig ∨ x = .walkIdle ∨ x = .stepping ∨ x = .shoeHold

theorem Steady.commands {x : SeqState} (h : Steady x) (y : SubStep) :
    desiredCommands x y = some (decide (x = .dig), decide (x ≠ .dig)) ∧ rewrites x = true := by
  rcases h with rfl | rfl | rfl | rfl <;> exact ⟨rfl, rfl⟩

/-- In a steady state a completion faults or moves nothing. -/
theorem roundAdvance_steady {s : State} (h : Steady s.walk.state) (w : WalkTable) :
    roundAdvance s w = enterFault s ∨ roundAdvance s w = s := by
  have faultOrSame {c : Prop} [Decidable c] : (if c then enterFault s else s) = enterFault s
      ∨ (if c then enterFault s else s) = s := ite_eq_or_eq c _ _
  unfold roundAdvance
  dsimp only
  split
  · exact .inl rfl
  · rcases h with h | h | h | h <;> rw [h] <;> exact faultOrSame

/-- Each command found settled to other than the state asks of it is pending again (R92). -/
theorem pending_requestAgain {s : State} {w : WalkTable} (h : Steady s.walk.state) {b : Binding} {v : Bool}
    (hb : b = w.digCommand ∧ v = decide (s.walk.state = .dig)
      ∨ b = w.walkCommand ∧ v = decide (s.walk.state ≠ .dig))
    (hs : SettledTo s b (!v)) : Pending (requestAgain s w) b.station := by
  obtain ⟨hc, hr⟩ := h.commands s.walk.sub
  have hin : b.station < s.line.records.length := by
    obtain ⟨x, hx, -⟩ := hs
    exact (List.getElem?_eq_some_iff.1 hx).1
  have hun : unsettled s b v = true := unsettled_iff.2 hs
  unfold requestAgain
  rw [hc]
  dsimp only
  rw [if_pos hr]
  rcases hb with ⟨rfl, rfl⟩ | ⟨rfl, rfl⟩
  · rw [if_pos hun]
    split
    · exact (pending_setDesired hin _).setDesired _ _
    · exact pending_setDesired hin _
  · rw [if_pos hun]
    refine pending_setDesired ?_ _
    split
    · simpa using hin
    · exact hin

end Sys2Proof.Machine
end

section
/-! SUPPORT. The completion of a round whose step 5 is due (R127). -/

namespace Sys2Proof.Machine

/-! ### The parts of a completion -/

/-- The state after the walk sequencer and the station sources (R93, R139), in which the owned channels are
judged (R148; log entry 37). -/
def judged (r : Round) (s : State) : State :=
  evaluateBound (stationSource (walkRound s) r.readOk) (walkRound s)

theorem completeRound_eq (r : Round) (s : State) :
    completeRound r s = setFlight .idle (restoreOwned (judged r s)) := rfl

theorem exec_roundCompletion {s : State} {r : Round} (hp : s.power ≠ .off)
    (hf : s.line.flight = .round r) (hc : r.stage = .completing) :
    exec .roundCompletion s = .next (completeRound r s) := by
  have hon : powered s = true := by simpa [powered] using hp
  simp only [exec, execRoundCompletion, hon, if_true, roundDone, hf, hc]

theorem completeRound_walk (r : Round) (s : State) :
    (completeRound r s).walk = (walkRound s).walk := by simp [completeRound]

theorem completeRound_alarm (r : Round) (s : State) :
    (completeRound r s).alarm = (judged r s).alarm := by simp [completeRound_eq]

theorem completeRound_gated {m : Motion} {r : Round} {s : State}
    (h : (walkRound s).shaper.gates.get m = .gated) :
    (completeRound r s).shaper.gates.get m = .gated := by
  have hshaper : (completeRound r s).shaper = (judged r s).shaper := by simp [completeRound_eq]
  rw [hshaper]
  exact evaluateBound_gated h _

theorem gates_eq_of_gated {g : PerMotion Gate} (h : ∀ m, g.get m = .gated) :
    g = ⟨.gated, .gated, .gated, .gated⟩ := by
  obtain ⟨hoist, drag, swing, propel⟩ := g
  obtain rfl : hoist = .gated := h .hoist
  obtain rfl : drag = .gated := h .drag
  obtain rfl : swing = .gated := h .swing
  obtain rfl : propel = .gated := h .propel
  rfl

theorem gated_all (m : Motion) : (⟨.gated, .gated, .gated, .gated⟩ : PerMotion Gate).get m = .gated := by
  cases m <;> rfl

theorem completeRound_slot_eight (r : Round) (s : State) :
    slotOf (completeRound r s) 8 = slotOf (walkRound s) 8 := by
  rw [slotOf, completeRound_alarm, ← slotOf]
  exact evaluateBound_internal (by decide) _

/-! ### The walk sequencer's part -/

theorem completeRound_delivered (r : Round) (s : State) : (completeRound r s).walk.delivered
    = s.line.records.map fun x => { state := x.state, levels := x.levels } := by
  have hdelivered : (handedOn s).walk.delivered = deliveredNow s := rfl
  rw [completeRound_walk]
  cases hw : usableWalk s with
  | none =>
    rw [walkRound_unusable hw]
    split
    · rw [enterState_walk, hdelivered]
      rfl
    · rfl
  | some w =>
    by_cases hs : s.walk.state = .startup
    · rw [walkRound_startup hw hs]
      simp [hdelivered, deliveredNow]
    · rw [walkRound_running hw hs]
      simp [hdelivered, deliveredNow]

/-! ### The station sources (R139) -/

theorem recordOf_of_undesired {s t : State}
    (h : t.line.records.map undesired = s.line.records.map undesired) {n : Nat} {x : LiveRecord}
    (hx : recordOf s n = some x) : ∃ y, recordOf t n = some y ∧ undesired y = undesired x := by
  have hn : (recordOf t n).map undesired = (recordOf s n).map undesired := by
    rw [recordOf, recordOf, ← List.getElem?_map, h, List.getElem?_map]
  rw [hx] at hn
  exact Option.map_eq_some_iff.1 hn

theorem undesired_eq {x y : LiveRecord} (h : undesired y = undesired x) :
    y.state = x.state ∧ y.levels = x.levels ∧ y.latches = x.latches ∧ y.held = x.held :=
  ⟨(congrArg LiveRecord.state h :), (congrArg LiveRecord.levels h :), (congrArg LiveRecord.latches h :),
    (congrArg LiveRecord.held h :)⟩

theorem stationSource_unread {s : State} {readOk : List Nat} {d : AlarmDef} {b : Binding}
    (hd : d.source = .stationEdge b ∨ ∃ polarity, d.source = .stationLevel b polarity)
    (h : b.station ∉ readOk) (c : Bool) : stationSource s readOk d c = none := by
  unfold stationSource
  rcases hd with hd | ⟨p, hd⟩ <;> rw [hd] <;>
    cases hx : recordOf s b.station <;> simp [hx, h]

theorem stationSource_level {s : State} {readOk : List Nat} {d : AlarmDef} {b : Binding} {x : LiveRecord}
    {polarity high : Bool} (hx : recordOf s b.station = some x) (h : b.station ∈ readOk)
    (hd : d.source = .stationLevel b polarity) (hl : x.levels.get b.channel = some high) (c : Bool) :
    stationSource s readOk d c = some (high == polarity) := by
  unfold stationSource
  rw [hd]
  simp [hx, h, hl]

theorem stationSource_edge {s : State} {readOk : List Nat} {d : AlarmDef} {b : Binding} {x : LiveRecord}
    (hx : recordOf s b.station = some x) (h : b.station ∈ readOk) (hd : d.source = .stationEdge b)
    (c : Bool) : stationSource s readOk d c = some (x.latches.get b.channel) := by
  unfold stationSource
  rw [hd]
  simp [hx, h]

/-- The condition of a bound slot after a completion. -/
theorem completeRound_source {r : Round} {s : State} {k : Nat} {d : AlarmDef}
    (hlen : s.alarm.slots.length = 64) (hk : k < 52) (hd : (definitionsOf s)[k]? = some d)
    (hb : s.alarm.bound.getD k false = true) : (slotOf (completeRound r s) (12 + k)).condition
      = (stationSource (walkRound s) r.readOk d (slotOf s (12 + k)).condition).getD
          (slotOf s (12 + k)).condition := by
  have hwalk := walkStep_walkRound s
  have hd1 : (definitionsOf (walkRound s))[k]? = some d := by
    rw [definitionsOf, (walkRound_frame s).2.2.2.2.2.2.1]
    exact hd
  have hb1 : (walkRound s).alarm.bound.getD k false = true := by simpa using hb
  rw [slotOf, completeRound_alarm, ← slotOf]
  refine (evaluateBound_condition _ (by rw [hwalk.slots, hlen]; omega)).trans ?_
  rw [hd1]
  dsimp only
  rw [if_pos hb1, hwalk.slot _ (by omega)]

/-! ### The owned channels (R148) -/

theorem judged_tables (r : Round) (s : State) : (judged r s).tables = s.tables := by simp [judged]

theorem judged_usableWalk (r : Round) (s : State) : usableWalk (judged r s) = usableWalk s :=
  usableWalk_congr (by simp [judged]) (by simp [judged])

theorem judged_undesired (r : Round) (s : State) :
    (judged r s).line.records.map undesired = s.line.records.map undesired := by
  rw [judged, evaluateBound_undesired, (walkStep_walkRound s).undesired]

theorem judged_alarmOwns (r : Round) (s : State) : alarmOwns (judged r s) = alarmOwns s := by
  have hbound : (judged r s).alarm.bound = s.alarm.bound := by simp [judged]
  funext b
  simp only [alarmOwns, definitionsOf, judged_tables, hbound]

theorem judged_walkOwns (r : Round) (s : State) : walkOwns (judged r s) = walkOwns s :=
  walkOwns_congr (judged_usableWalk r s)

/-- A computed value reads the listed slots and the tables. -/
theorem computedValue_congr {s t : State} (hl : listedSlots t = listedSlots s)
    (ht : t.tables = s.tables) : computedValue t = computedValue s := by
  have hlisted (u : State) (b : Binding) : computedValue u b = (listedSlots u).any fun n =>
      match attrsOf u n with
      | some a => a.output == some b
      | none => false := by
    rw [computedValue, listedSlots, List.any_map]
    rfl
  have hattrs : attrsOf t = attrsOf s := by
    funext n
    simp only [attrsOf, definitionsOf, ht]
  funext b
  rw [hlisted, hlisted, hl, hattrs]

theorem completeRound_computedValue (r : Round) (s : State) :
    computedValue (completeRound r s) = computedValue (judged r s) :=
  computedValue_congr (by rw [listedSlots, completeRound_alarm, listedSlots]) (by simp [completeRound_eq])

/-- The channels that a completion sets again. -/
def setAgain (r : Round) (s : State) : List Binding :=
  (ownedOutputs (judged r s)).filter (toRestore (judged r s))

theorem mem_setAgain {r : Round} {s : State} {b : Binding} {x : LiveRecord}
    (hx : recordOf (judged r s) b.station = some x) : b ∈ setAgain r s
      ↔ (alarmOwns s b = true ∧ walkOwns s b = false) ∧ (x.state = .present ∧ x.outputPending = false)
        ∧ x.held.get b.channel = some (!computedValue (judged r s) b) := by
  rw [setAgain, List.mem_filter, mem_ownedOutputs, judged_alarmOwns, judged_walkOwns, toRestore, hx]
  simp

/-- The live record after a completion, from the one the channels are judged by. -/
theorem completeRound_record {r : Round} {s : State} {n : Nat} {x : LiveRecord}
    (hx : recordOf (judged r s) n = some x) : recordOf (completeRound r s) n = some
      { x with
        desired := ⟨if ⟨n, .a⟩ ∈ setAgain r s then some (computedValue (judged r s) ⟨n, .a⟩)
            else x.desired.a,
          if ⟨n, .b⟩ ∈ setAgain r s then some (computedValue (judged r s) ⟨n, .b⟩) else x.desired.b⟩
        outputPending := x.outputPending || decide (⟨n, .a⟩ ∈ setAgain r s)
          || decide (⟨n, .b⟩ ∈ setAgain r s) } := by
  refine (recordOf_setEach (computedValue (judged r s)) n (setAgain r s) (judged r s)).trans ?_
  rw [hx]
  rfl

theorem keepsPending_completeRound (r : Round) (s : State) :
    KeepsPending (walkRound s) (completeRound r s) := by
  refine (keepsPending_evaluateBound (stationSource (walkRound s) r.readOk) _).trans fun n ⟨x, hx, hp⟩ =>
    ⟨_, completeRound_record hx, ?_⟩
  simp [hp]

/-- An owned channel that differs is pending after the completion (R148). -/
theorem pending_of_owned {r : Round} {s : State} {b : Binding} {x : LiveRecord}
    (hx : recordOf s b.station = some x) (ha : alarmOwns s b = true) (hw : walkOwns s b = false)
    (hp : x.state = .present)
    (hheld : x.held.get b.channel = some (!computedValue (completeRound r s) b)) :
    Pending (completeRound r s) b.station := by
  obtain ⟨y, hy, hyx⟩ := recordOf_of_undesired (judged_undesired r s) hx
  obtain ⟨hstate, -, -, hyheld⟩ := undesired_eq hyx
  refine ⟨_, completeRound_record hy, ?_⟩
  dsimp only
  by_cases hpending : y.outputPending = true
  · simp [hpending]
  · have hmem : b ∈ setAgain r s := (mem_setAgain hy).2 ⟨⟨ha, hw⟩,
      ⟨hstate.trans hp, by simpa using hpending⟩, by rw [hyheld, hheld, completeRound_computedValue]⟩
    obtain ⟨n, c⟩ := b
    cases c <;> simp [hmem]

/-- Where the listed slots are those listed before, the channels of a station of no command are judged by its
record as it was. -/
theorem judged_of_listed {r : Round} {s : State}
    (hl : listedSlots (completeRound r s) = listedSlots s) :
    listedSlots (judged r s) = listedSlots s ∧ ∀ n, NoCommand s n →
      recordOf (judged r s) n = recordOf s n := by
  have hjudged : listedSlots (judged r s) = listedSlots s := by
    rwa [listedSlots, ← completeRound_alarm, ← listedSlots]
  have hwalk := walkStep_walkRound s
  refine ⟨hjudged, fun n hn => (recordOf_congr ?_ n).trans (hwalk.record n hn)⟩
  rcases evaluateBound_same_or_flipped (stationSource (walkRound s) r.readOk) (walkRound s) with
    ⟨-, hline⟩ | ⟨m, hm, hflip⟩
  · exact congrArg StationLine.records hline
  · have hsame : m ∈ listedSlots (judged r s) ↔ m ∈ listedSlots (walkRound s) := by
      rw [hjudged, hwalk.listed m (by omega)]
    exact absurd (hsame.symm.trans hflip) (by simp)

end Sys2Proof.Machine
end

section
/-! SUPPORT. O39: what a round completion leaves, part by part (R93, R95, R127, R139, R148). -/

namespace Sys2Proof.Machine

/-! ### Steps 2 to 4 of R93, by the state -/

/-- A conditional read by a condition that says the same. -/
theorem ite_of_iff {c d : Prop} [Decidable c] (h : c ↔ d) {t u v : State}
    (hv : v = if c then t else u) : (d → v = t) ∧ (¬ d → v = u) :=
  ⟨fun hd => hv.trans (if_pos (h.2 hd)), fun hd => hv.trans (if_neg (mt h.1 hd))⟩

theorem roundAdvance_closed {s : State} {w : WalkTable} (hd : feedback s w.digFeedback = .closed)
    (hw : feedback s w.walkFeedback = .closed) : roundAdvance s w = enterFault s := if_pos ⟨hd, hw⟩

section
variable {s : State} {w : WalkTable}
  (hn : ¬ (feedback s w.digFeedback = .closed ∧ feedback s w.walkFeedback = .closed))
include hn

theorem roundAdvance_dig (h : s.walk.state = .dig) : roundAdvance s w
    = if feedback s w.walkFeedback = .closed then enterFault s else s :=
  (if_neg hn).trans (by rw [h])

theorem roundAdvance_walking (h : s.walk.state = .walkIdle ∨ s.walk.state = .stepping
      ∨ s.walk.state = .shoeHold) : roundAdvance s w
    = if feedback s w.digFeedback = .closed then enterFault s else s :=
  (if_neg hn).trans (by rcases h with h | h | h <;> rw [h])

theorem roundAdvance_openingDig (h : s.walk.state = .transferOut) (hs : s.walk.sub = .openingDig) :
    roundAdvance s w = if feedback s w.digFeedback = .opened ∧ feedback s w.walkFeedback = .opened
        ∧ bothSettledOff s w = true
      then enterState .transferOut .closingWalk s else s :=
  (if_neg hn).trans (by rw [h, hs])

theorem roundAdvance_closingWalk (h : s.walk.state = .transferOut) (hs : s.walk.sub = .closingWalk) :
    roundAdvance s w = if feedback s w.walkFeedback = .closed ∧ feedback s w.digFeedback = .opened
        ∧ settled s w.walkCommand true = true then completeOut s else s :=
  (if_neg hn).trans (by rw [h, hs])

theorem roundAdvance_openingWalk (h : s.walk.state = .transferBack) (hs : s.walk.sub = .openingWalk) :
    roundAdvance s w = if feedback s w.walkFeedback = .opened ∧ feedback s w.digFeedback = .opened
        ∧ bothSettledOff s w = true
      then enterState .transferBack .closingDig s else s :=
  (if_neg hn).trans (by rw [h, hs])

theorem roundAdvance_closingDig (h : s.walk.state = .transferBack) (hs : s.walk.sub = .closingDig) :
    roundAdvance s w = if feedback s w.digFeedback = .closed ∧ feedback s w.walkFeedback = .opened
        ∧ settled s w.digCommand true = true then completeBack s else s :=
  (if_neg hn).trans (by rw [h, hs])

theorem roundAdvance_faulted (h : s.walk.state = .transferFault) : roundAdvance s w = s :=
  (if_neg hn).trans (by rw [h])

end

/-! ### What a completion makes of the sequencer -/

/-- The sequencer's state, sub-step and timer after a completion; the rest but what was delivered stays. -/
def Becomes (s t : State) (x : SeqState) (y : SubStep) (timer : Timer) : Prop :=
  t.walk = { s.walk with
    delivered := t.walk.delivered, state := x, sub := y, transferTimer := timer }

/-- The sequencer stays but for what was delivered. -/
def Stays (s t : State) : Prop := Becomes s t s.walk.state s.walk.sub s.walk.transferTimer

/-- TRANSFER_FAULT as a completion leaves it (R104, R108). -/
def Faulted (s t : State) : Prop :=
  Becomes s t .transferFault .none none ∧ t.shaper.gates = ⟨.gated, .gated, .gated, .gated⟩
    ∧ (s.alarm.slots.length = 64 → (slotOf t 8).condition = true)

theorem stays_of_same {r : Round} {s : State} (h : (walkRound s).walk = (handedOn s).walk) :
    Stays s (completeRound r s) := by
  rw [Stays, Becomes, completeRound_walk, h]
  rfl

theorem becomes_of_enterState {r : Round} {s : State} {w : WalkTable} (hw : usableWalk s = some w)
    {x : SeqState} {y : SubStep} (h : (walkRound s).walk = (enterState x y (handedOn s)).walk) :
    Becomes s (completeRound r s) x y (if y = .none then none else some w.stepTimeout) := by
  have htable : walkOf (handedOn s) = some w := (usableWalk_eq_some hw).2
  rw [Becomes, completeRound_walk, h, enterState_walk, htable]
  rfl

theorem faulted_of_enterFault {r : Round} {s : State} (h : walkRound s = enterFault (handedOn s)) :
    Faulted s (completeRound r s) := by
  refine ⟨?_, gates_eq_of_gated fun m => completeRound_gated ?_, fun hlen => ?_⟩
  · rw [Becomes, completeRound_walk, h, enterFault_walk]
    rfl
  · rw [h, enterFault_gates]
    exact gated_all m
  · rw [completeRound_slot_eight, h]
    exact enterFault_slot_eight (s := handedOn s) hlen

/-! ### The completion in STARTUP (R95) -/

section
variable {r : Round} {s : State} {w : WalkTable} (hw : usableWalk s = some w)
  (hs : s.walk.state = .startup)
include hw hs

theorem startup_unseen (hu : bindingUnseen (handedOn s) w = true) : Stays s (completeRound r s) :=
  stays_of_same (by rw [walkRound_startup hw hs, startupDecision, if_pos hu])

theorem startup_faulty (hu : ¬ bindingUnseen (handedOn s) w = true)
    (h : commandMissing (handedOn s) w = true
      ∨ (commandHeld (handedOn s) w.digCommand = some true
        ∧ commandHeld (handedOn s) w.walkCommand = some true)
      ∨ feedback (handedOn s) w.digFeedback = .unknown ∨ feedback (handedOn s) w.walkFeedback = .unknown) :
    Faulted s (completeRound r s) := by
  refine faulted_of_enterFault ?_
  rw [walkRound_startup hw hs, startupDecision, if_neg hu]
  rcases h with hm | hboth | hunknown
  · rw [if_pos hm]
  · rw [if_pos hboth, ite_self]
  · rw [if_pos hunknown, ite_self, ite_self]

/-- The last rows of R95's table: one contactor closed and commanded alone is a state to enter, anything
else a fault. -/
theorem startup_decided (hu : ¬ bindingUnseen (handedOn s) w = true)
    (hm : ¬ commandMissing (handedOn s) w = true) (hd : feedback (handedOn s) w.digFeedback ≠ .unknown)
    (hf : feedback (handedOn s) w.walkFeedback ≠ .unknown) :
    let dig := commandHeld (handedOn s) w.digCommand
    let walk := commandHeld (handedOn s) w.walkCommand
    let fd := feedback (handedOn s) w.digFeedback
    let fw := feedback (handedOn s) w.walkFeedback
    (dig = some true ∧ walk = some false ∧ fd = .closed ∧ fw = .opened →
        Becomes s (completeRound r s) .dig .none none)
      ∧ (dig = some false ∧ walk = some true ∧ fw = .closed ∧ fd = .opened →
        Becomes s (completeRound r s) (if s.walk.cam = .clear then .walkIdle else .shoeHold) .none none)
      ∧ (¬ (dig = some true ∧ walk = some false ∧ fd = .closed ∧ fw = .opened) →
        ¬ (dig = some false ∧ walk = some true ∧ fw = .closed ∧ fd = .opened) →
        Faulted s (completeRound r s)) := by
  intro dig walk fd fw
  have hround := walkRound_startup hw hs
  rw [startupDecision, if_neg hu, if_neg hm, if_neg (not_or.2 ⟨hd, hf⟩)] at hround
  refine ⟨fun hdig => becomes_of_enterState hw (y := .none) ?_,
    fun hwalk => becomes_of_enterState hw (y := .none) ?_, fun hdig hwalk => faulted_of_enterFault ?_⟩
  · have hone : ¬ (dig = some true ∧ walk = some true) := by simp [hdig.2.1]
    rw [hround, if_neg hone, if_pos hdig]
  · have hone : ¬ (dig = some true ∧ walk = some true) := by simp [hwalk.1]
    have hother : ¬ (dig = some true ∧ walk = some false ∧ fd = .closed ∧ fw = .opened) := by
      simp [hwalk.1]
    rw [hround, if_neg hone, if_neg hother, if_pos hwalk]
    change (if s.walk.cam = .clear then _ else _ : State).walk = _
    split <;> rfl
  · rw [hround, if_neg hdig, if_neg hwalk, ite_self]

end

/-! ### The completion outside STARTUP (R93) -/

theorem slotOf_requestAgain (s : State) (w : WalkTable) (n : Nat) :
    slotOf (requestAgain s w) n = slotOf s n := by simp [slotOf]

section
variable {r : Round} {s : State} {w : WalkTable} (hw : usableWalk s = some w)
  (hs : s.walk.state ≠ .startup)
include hw hs

/-- The sequencer is what steps 2 to 4 leave. -/
theorem walkRound_walk : (walkRound s).walk = (roundAdvance (handedOn s) w).walk := by
  rw [walkRound_running hw hs]
  simp

theorem running_same (h : roundAdvance (handedOn s) w = handedOn s) : Stays s (completeRound r s) :=
  stays_of_same ((walkRound_walk hw hs).trans (congrArg State.walk h))

theorem running_enters {x : SeqState} {y : SubStep}
    (h : (roundAdvance (handedOn s) w).walk = (enterState x y (handedOn s)).walk) :
    Becomes s (completeRound r s) x y (if y = .none then none else some w.stepTimeout) :=
  becomes_of_enterState hw ((walkRound_walk hw hs).trans h)

theorem running_faults (h : roundAdvance (handedOn s) w = enterFault (handedOn s))
    (hopen : s.walk.state = .transferFault → feedback (handedOn s) w.walkFeedback ≠ .opened) :
    Faulted s (completeRound r s) := by
  refine faulted_of_enterFault ?_
  rw [walkRound_running hw hs, h]
  exact faultReturn_enterFault fun hx ho => hopen hx (bothOpen_iff.1 ho).2

theorem running_gated {m : Motion} (hx : s.walk.state ≠ .transferFault)
    (h : (roundAdvance (handedOn s) w).shaper.gates.get m = .gated) :
    (completeRound r s).shaper.gates.get m = .gated := by
  have hshaper : (walkRound s).shaper = (roundAdvance (handedOn s) w).shaper := by
    rw [walkRound_running hw hs, faultReturn_other hx]
    simp
  exact completeRound_gated (by rwa [hshaper])

theorem running_closed (hd : feedback (handedOn s) w.digFeedback = .closed)
    (hf : feedback (handedOn s) w.walkFeedback = .closed) : Faulted s (completeRound r s) :=
  running_faults hw hs (roundAdvance_closed hd hf) fun _ => by simp [hf]

theorem running_dig_faults (hx : s.walk.state = .dig)
    (hf : feedback (handedOn s) w.walkFeedback = .closed) : Faulted s (completeRound r s) := by
  by_cases hd : feedback (handedOn s) w.digFeedback = .closed
  · exact running_closed hw hs hd hf
  · have hadvance := (roundAdvance_dig (fun h => hd h.1) hx).trans (if_pos hf)
    exact running_faults hw hs hadvance fun hfault => by simp [hx] at hfault

theorem running_walking_faults (hx : s.walk.state = .walkIdle ∨ s.walk.state = .stepping
      ∨ s.walk.state = .shoeHold) (hd : feedback (handedOn s) w.digFeedback = .closed) :
    Faulted s (completeRound r s) := by
  by_cases hf : feedback (handedOn s) w.walkFeedback = .closed
  · exact running_closed hw hs hd hf
  · have hadvance := (roundAdvance_walking (fun h => hf h.2) hx).trans (if_pos hd)
    refine running_faults hw hs hadvance fun hfault => ?_
    rcases hx with hx | hx | hx <;> simp [hx] at hfault

/-- An unsettled command of a state that stays is pending after the completion (R92). -/
theorem pending_of_unsettled (hsteady : Steady s.walk.state)
    (hstay : (completeRound r s).walk.state = s.walk.state) {b : Binding} {v : Bool}
    (hb : b = w.digCommand ∧ v = decide (s.walk.state = .dig)
      ∨ b = w.walkCommand ∧ v = decide (s.walk.state ≠ .dig)) (hsettled : SettledTo s b (!v)) :
    Pending (completeRound r s) b.station := by
  have hfault : s.walk.state ≠ .transferFault := by
    rintro h
    simp [Steady, h] at hsteady
  have hround : walkRound s = requestAgain (handedOn s) w := by
    rcases roundAdvance_steady (s := handedOn s) hsteady w with h | h
    · rw [completeRound_walk, walkRound_walk hw hs, h, enterFault_walk] at hstay
      exact absurd hstay.symm hfault
    · rw [walkRound_running hw hs, h, faultReturn_other hfault]
  refine keepsPending_completeRound r s _ ?_
  rw [hround]
  exact pending_requestAgain (s := handedOn s) hsteady hb hsettled

variable (hn : ¬ (feedback (handedOn s) w.digFeedback = .closed
  ∧ feedback (handedOn s) w.walkFeedback = .closed))
include hn

/-- The first half of a transfer out (R98). -/
theorem running_openingDig (hx : s.walk.state = .transferOut) (hsub : s.walk.sub = .openingDig) :
    let opened := feedback (handedOn s) w.digFeedback = .opened
      ∧ feedback (handedOn s) w.walkFeedback = .opened
      ∧ SettledTo s w.digCommand false ∧ SettledTo s w.walkCommand false
    (opened → Becomes s (completeRound r s) .transferOut .closingWalk (some w.stepTimeout))
      ∧ (¬ opened → Stays s (completeRound r s)) := by
  intro opened
  have hoff := bothSettledOff_iff (s := handedOn s) (w := w)
  obtain ⟨hmoves, hkeeps⟩ := ite_of_iff (d := opened) (by rw [hoff]; rfl)
    (roundAdvance_openingDig hn hx hsub)
  exact ⟨fun h => running_enters hw hs (congrArg State.walk (hmoves h)),
    fun h => running_same hw hs (hkeeps h)⟩

/-- The completion of a transfer out (R100). -/
theorem running_closingWalk (hx : s.walk.state = .transferOut) (hsub : s.walk.sub = .closingWalk) :
    let done := feedback (handedOn s) w.walkFeedback = .closed
      ∧ feedback (handedOn s) w.digFeedback = .opened ∧ SettledTo s w.walkCommand true
    (done → Becomes s (completeRound r s) .walkIdle .none none
        ∧ (completeRound r s).shaper.gates.propel = .gated
        ∧ (completeRound r s).shaper.gates.swing = .gated)
      ∧ (¬ done → Stays s (completeRound r s)) := by
  intro done
  have hsettled := settled_iff (handedOn s) w.walkCommand true
  obtain ⟨hmoves, hkeeps⟩ := ite_of_iff (d := done) (by rw [hsettled]; rfl)
    (roundAdvance_closingWalk hn hx hsub)
  have hne : s.walk.state ≠ .transferFault := by simp [hx]
  refine ⟨fun h => ⟨running_enters hw hs (congrArg State.walk (hmoves h) :),
    running_gated (m := .propel) hw hs hne ?_, running_gated (m := .swing) hw hs hne ?_⟩,
    fun h => running_same hw hs (hkeeps h)⟩
  · rw [hmoves h]
    rfl
  · rw [hmoves h]
    rfl

/-- The first half of a return (R107). -/
theorem running_openingWalk (hx : s.walk.state = .transferBack) (hsub : s.walk.sub = .openingWalk) :
    let opened := feedback (handedOn s) w.walkFeedback = .opened
      ∧ feedback (handedOn s) w.digFeedback = .opened
      ∧ SettledTo s w.digCommand false ∧ SettledTo s w.walkCommand false
    (opened → Becomes s (completeRound r s) .transferBack .closingDig (some w.stepTimeout))
      ∧ (¬ opened → Stays s (completeRound r s)) := by
  intro opened
  have hoff := bothSettledOff_iff (s := handedOn s) (w := w)
  obtain ⟨hmoves, hkeeps⟩ := ite_of_iff (d := opened) (by rw [hoff]; rfl)
    (roundAdvance_openingWalk hn hx hsub)
  exact ⟨fun h => running_enters hw hs (congrArg State.walk (hmoves h)),
    fun h => running_same hw hs (hkeeps h)⟩

/-- The completion of a return (R107). -/
theorem running_closingDig (hx : s.walk.state = .transferBack) (hsub : s.walk.sub = .closingDig) :
    let done := feedback (handedOn s) w.digFeedback = .closed
      ∧ feedback (handedOn s) w.walkFeedback = .opened ∧ SettledTo s w.digCommand true
    (done → Becomes s (completeRound r s) .dig .none none
        ∧ (completeRound r s).shaper.gates = ⟨.gated, .gated, .gated, .gated⟩)
      ∧ (¬ done → Stays s (completeRound r s)) := by
  intro done
  have hsettled := settled_iff (handedOn s) w.digCommand true
  obtain ⟨hmoves, hkeeps⟩ := ite_of_iff (d := done) (by rw [hsettled]; rfl)
    (roundAdvance_closingDig hn hx hsub)
  refine ⟨fun h => ⟨running_enters hw hs (congrArg State.walk (hmoves h) :),
    gates_eq_of_gated fun m => running_gated hw hs (by simp [hx]) ?_⟩,
    fun h => running_same hw hs (hkeeps h)⟩
  rw [hmoves h]
  exact gated_all m

/-- TRANSFER_FAULT stays; slot 8 returns once both contactors are open (R93 step 5, R108). -/
theorem running_faulted (hx : s.walk.state = .transferFault) :
    let opened := feedback (handedOn s) w.digFeedback = .opened
      ∧ feedback (handedOn s) w.walkFeedback = .opened
    Stays s (completeRound r s)
      ∧ (opened → (slotOf (completeRound r s) 8).condition = false)
      ∧ (¬ opened → slotOf (completeRound r s) 8 = slotOf s 8) := by
  intro opened
  have hsame := roundAdvance_faulted hn hx
  have hslot := completeRound_slot_eight r s
  rw [walkRound_running hw hs, hsame, slotOf_requestAgain, hx] at hslot
  refine ⟨running_same hw hs hsame, fun ho => ?_, fun hc => ?_⟩
  · rw [hslot, faultReturn, if_pos ⟨rfl, bothOpen_iff.2 ho⟩]
    exact evaluate_false_condition (by decide)
  · rw [hslot, faultReturn, if_neg fun h => hc (bothOpen_iff.1 h.2)]
    rfl

end

/-! ### The sources and the owned channels (R139, R148) -/

/-- A source of a station read in the round leaves what the record as handed on has. -/
theorem completeRound_read {r : Round} {s : State} {k : Nat} {d : AlarmDef} {b : Binding} {x : LiveRecord}
    (hlen : s.alarm.slots.length = 64) (hk : k < 52) (hd : (definitionsOf s)[k]? = some d)
    (hb : s.alarm.bound.getD k false = true) (hx : recordOf s b.station = some x)
    (hr : b.station ∈ r.readOk) :
    (∀ polarity high, d.source = .stationLevel b polarity → x.levels.get b.channel = some high →
        (slotOf (completeRound r s) (12 + k)).condition = (high == polarity))
      ∧ (d.source = .stationEdge b →
        (slotOf (completeRound r s) (12 + k)).condition = x.latches.get b.channel) := by
  obtain ⟨y, hy, hyx⟩ := recordOf_of_undesired (walkStep_walkRound s).undesired hx
  obtain ⟨-, hlevels, hlatches, -⟩ := undesired_eq hyx
  rw [completeRound_source hlen hk hd hb]
  refine ⟨fun polarity high hlevel hhigh => ?_, fun hedge => ?_⟩
  · rw [stationSource_level hy hr hlevel (hlevels ▸ hhigh), Option.getD_some]
  · rw [stationSource_edge hy hr hedge, Option.getD_some, hlatches]

/-- The line but for its records. -/
theorem completeRound_line (r : Round) (s : State) : (completeRound r s).line
    = { s.line with records := (completeRound r s).line.records, flight := .idle } := by
  have hjudged : (restoreOwned (judged r s)).line
      = { s.line with records := (restoreOwned (judged r s)).line.records } := by
    apply StationLine.eq_of_records <;> simp [judged]
  rw [completeRound_eq, setFlight, State.withLine_line, hjudged]

theorem completeRound_undesired (r : Round) (s : State) :
    (completeRound r s).line.records.map undesired = s.line.records.map undesired := by
  refine Eq.trans ?_ (judged_undesired r s)
  exact foldl_keeps (fun x => x.line.records.map undesired = (judged r s).line.records.map undesired) _
    (fun x b hx => (setDesired_undesired b _ x).trans hx) _ _ rfl

theorem walkOwns_of_noCommand {s : State} {n : Nat} (h : NoCommand s n) (c : Channel) :
    walkOwns s ⟨n, c⟩ = false := by
  unfold walkOwns
  cases hw : usableWalk s with
  | none => rfl
  | some w =>
    obtain ⟨hdig, hwalk⟩ := h w hw
    have hne {b : Binding} (hb : b.station ≠ n) : (b == ⟨n, c⟩) = false :=
      beq_eq_false_iff_ne.2 fun he => hb (he ▸ rfl)
    simp only [hne hdig, hne hwalk, Bool.or_false]

/-- Settles O39. -/
theorem roundCompletionIsHandedOn : Obligations.RoundCompletionIsHandedOn := by
  unfold Obligations.RoundCompletionIsHandedOn
  intro s r hp hf hc
  have hdelivered := completeRound_delivered r s
  obtain ⟨hpower, hlink, hposition, hswing, hmgmt, hstore, htables, -⟩ := completeRound_frame r s
  refine ⟨completeRound r s, exec_roundCompletion hp hf hc, rfl, hdelivered, fun w hw => ?usable,
    fun hw => ?unusable, fun hlen k d hk hd hb => ⟨fun b x hx => completeRound_read hlen hk hd hb hx,
      fun b hread hsource => ?unread⟩,
    fun b x hx ha hw hpresent hheld => pending_of_owned hx ha hw hpresent hheld,
    fun n x hx hl hn => ?owned, completeRound_line r s, completeRound_undesired r s, hpower, hlink, hposition,
    hswing, hmgmt, hstore, htables⟩
  case usable =>
    rw [feedback_of_delivered (s := handedOn s) (t := completeRound r s) hdelivered]
    intro fd fw dig walk unseen missing off becomes stays fault
    refine ⟨fun hs => ?startup, fun hs => ?running⟩
    case startup =>
      have hunseen : bindingUnseen (handedOn s) w = true ↔ unseen := bindingUnseen_iff
      have hmissing : commandMissing (handedOn s) w = true ↔ missing := commandMissing_iff
      have hdig : commandHeld (handedOn s) w.digCommand = dig := commandHeld_eq _ _
      have hwalk : commandHeld (handedOn s) w.walkCommand = walk := commandHeld_eq _ _
      rw [← hunseen, ← hmissing, ← hdig, ← hwalk]
      refine ⟨startup_unseen hw hs, startup_faulty hw hs, fun hu hm hd hf => ?_⟩
      obtain ⟨toDig, toWalk, toFault⟩ := startup_decided hw hs hu hm hd hf
      exact ⟨fun h1 h2 h3 h4 => toDig ⟨h1, h2, h3, h4⟩, fun h1 h2 h3 h4 => toWalk ⟨h1, h2, h3, h4⟩, toFault⟩
    case running =>
      refine ⟨running_closed hw hs, running_dig_faults hw hs, running_walking_faults hw hs,
        fun hn => ⟨fun hx hopen => running_same hw hs ?_, fun hx hopen => running_same hw hs ?_,
          running_openingDig hw hs hn, running_closingWalk hw hs hn, running_openingWalk hw hs hn,
          running_closingDig hw hs hn, fun hx => ?_⟩, fun b v hstay hb hx hsettled =>
        pending_of_unsettled hw hs hx hstay ?_ hsettled⟩
      · rw [roundAdvance_dig hn hx, if_neg hopen]
      · rw [roundAdvance_walking hn hx, if_neg hopen]
      · obtain ⟨hstays, hopened, hclosed⟩ := running_faulted (r := r) hw hs hn hx
        exact ⟨hstays, fun hd hf => hopened ⟨hd, hf⟩, hclosed⟩
      · rcases hb with ⟨hb, ⟨hx, rfl⟩ | ⟨hx, rfl⟩⟩ | ⟨hb, ⟨hx, rfl⟩ | ⟨hx, rfl⟩⟩
        · exact .inl ⟨hb, by simp [hx]⟩
        · exact .inl ⟨hb, by simp [hx]⟩
        · exact .inr ⟨hb, by simp [hx]⟩
        · exact .inr ⟨hb, by simp [hx]⟩
  case unusable =>
    rw [completeRound_walk, walkRound_unusable hw]
    split
    · rw [enterState_walk]
      rfl
    · rfl
  case unread =>
    refine (completeRound_source hlen hk hd hb).trans ?_
    rw [stationSource_unread hsource hread, Option.getD_none]
  case owned =>
    intro again desired
    obtain ⟨hlisted, hrecord⟩ := judged_of_listed hl
    have hx' : recordOf (judged r s) n = some x := (hrecord n hn).trans hx
    have hcomputed : computedValue (judged r s) = computedValue s :=
      computedValue_congr hlisted (judged_tables r s)
    have hfree := walkOwns_of_noCommand hn
    have hagain (c : Channel) : (⟨n, c⟩ : Binding) ∈ setAgain r s ↔ again c = true := by
      rw [mem_setAgain hx', hcomputed]
      simp [again, hfree, and_assoc]
    rw [completeRound_record hx', hcomputed]
    simp only [hagain, desired, Bool.decide_eq_true]
    rfl

end Sys2Proof.Machine
end

section
/-! SUPPORT. The operations on alarms, and the rules of the swing unit, the position unit and the walk
sequencer that evaluate conditions, keep the alarm unit as R134, R142, R144, R151 and R154 have it. -/

namespace Sys2Proof.Machine

/-! ### What the operations on alarms need, and keep -/

/-- The alarm unit as R134, R142, R144, R151 and R154 have it, with definitions that all have a slot
(R134, R136). -/
def AlarmsFit (s : State) : Prop := AlarmInv s ∧ (definitionsOf s).length ≤ 52

/-- A validated ALARM image holds at most 52 definitions (R136). -/
theorem readAlarm_length_le {image : Image} (h : imageValid .alarm image = true) :
    (readAlarm image).length ≤ 52 := by
  simp only [imageValid, validateContent, validateAlarm, firstFailure, Bool.and_eq_true,
    Option.isNone_iff_eq_none, Option.map_eq_none_iff, List.find?_eq_none] at h
  have hcount := h.2 (0, _) (List.mem_cons_self ..)
  simp only [Bool.not_eq_true', Bool.not_eq_false, Bool.and_eq_true, decide_eq_true_eq] at hcount
  simpa [readAlarm] using hcount.1

theorem alarmsFit_of_images {s : State} (hi : ImagesInv s) (h : AlarmInv s) : AlarmsFit s := by
  refine ⟨h, ?_⟩
  unfold definitionsOf
  split
  · exact readAlarm_length_le (hi.1 .alarm _ ‹_›)
  · simp

theorem definitionsOf_congr {s t : State} (h : t.tables.active.alarm = s.tables.active.alarm) :
    definitionsOf t = definitionsOf s := by
  simp [definitionsOf, h]

theorem AlarmsFit.of_inv {s t : State} (h : AlarmsFit s) (hi : AlarmInv t)
    (ht : t.tables.active.alarm = s.tables.active.alarm) : AlarmsFit t :=
  ⟨hi, by rw [definitionsOf_congr ht]; exact h.2⟩

/-- What reaches neither the alarm unit nor the ALARM table. -/
theorem AlarmsFit.congr {s t : State} (h : AlarmsFit s) (ha : t.alarm = s.alarm)
    (ht : t.tables = s.tables) : AlarmsFit t :=
  h.of_inv (alarmInv_congr h.1 ha) (by rw [ht])

/-- What leaves the slots, the list, the notices and the log. -/
theorem AlarmsFit.of_fields {s t : State} (h : AlarmsFit s) (hslots : t.alarm.slots = s.alarm.slots)
    (hlist : t.alarm.list = s.alarm.list) (hnotices : t.alarm.notices = s.alarm.notices)
    (hlog : t.alarm.log = s.alarm.log) (ht : t.tables = s.tables) : AlarmsFit t := by
  obtain ⟨-, -, -, hqueue, hlogged, -⟩ := h.1
  exact h.of_inv (alarmInv_congr_fields h.1 hslots hlist (by rwa [hnotices]) (by rwa [hlog]))
    (by rw [ht])

theorem AlarmsFit.log_length_le {s : State} (h : AlarmsFit s) : s.alarm.log.length ≤ 256 := by
  obtain ⟨-, -, -, -, hlog, -⟩ := h.1
  exact hlog

theorem AlarmsFit.withSwing {s : State} (h : AlarmsFit s) (x : SwingUnit) :
    AlarmsFit (s.withSwing x) := h.congr rfl rfl

theorem AlarmsFit.withPosition {s : State} (h : AlarmsFit s) (x : PositionUnit) :
    AlarmsFit (s.withPosition x) := h.congr rfl rfl

theorem AlarmsFit.withLink {s : State} (h : AlarmsFit s) (x : Link) : AlarmsFit (s.withLink x) :=
  h.congr rfl rfl

theorem AlarmsFit.closeGates {s : State} (h : AlarmsFit s) (which : PerMotion Bool) :
    AlarmsFit (closeGates which s) := h.congr rfl rfl

/-! ### Evaluations and bindings (R138, R142, R157) -/

theorem AlarmsFit.evaluate {s : State} (h : AlarmsFit s) {n : Nat} (hn : n < 64) (v : Bool) :
    AlarmsFit (evaluate n v s) :=
  h.of_inv (alarmInv_evaluate h.1 hn v) (by simp)

theorem AlarmsFit.evaluateBound {s : State} (h : AlarmsFit s)
    (value : AlarmDef → Bool → Option Bool) : AlarmsFit (evaluateBound value s) :=
  h.of_inv (alarmInv_evaluateBound h.1 h.2 value) (by simp)

theorem AlarmsFit.settleBinding {s : State} (h : AlarmsFit s) : AlarmsFit (settleBinding s) := by
  refine AlarmsFit.of_fields (s := (definitionsOf s).zipIdx.foldl _ s) ?_ rfl rfl rfl rfl rfl
  refine List.foldlRecOn _ _ h fun x hx d hd => ?_
  have hk := List.snd_lt_of_mem_zipIdx hd
  have hlen := h.2
  dsimp only
  split
  · exact hx.of_inv (alarmInv_resetSlot hx.1 (by omega)) (by simp)
  · exact hx

theorem AlarmsFit.settleAlarms {s : State} (h : AlarmsFit s) : AlarmsFit (settleAlarms s) :=
  h.settleBinding.evaluate (by decide) _

/-- The entries of some slots removed one after the other: the list has the rest (R145). -/
theorem removeEach_alarm (l : List Nat) (s : State) :
    (l.foldl (fun acc n => removeListed n acc) s).alarm.slots = s.alarm.slots
      ∧ (l.foldl (fun acc n => removeListed n acc) s).alarm.notices = s.alarm.notices
      ∧ (l.foldl (fun acc n => removeListed n acc) s).alarm.list
        = s.alarm.list.filter (fun e => e.slot ∉ l)
      ∧ (s.alarm.log.length ≤ 256 →
        (l.foldl (fun acc n => removeListed n acc) s).alarm.log.length ≤ 256) := by
  induction l generalizing s with
  | nil => simp
  | cons n l ih =>
    obtain ⟨hslots, hnotices, hlist, hlog⟩ := ih (removeListed n s)
    have hr := removeEntry_alarm n ((attrsOf s n).getD plainAttrs) s
    refine ⟨hslots.trans (by simp), hnotices.trans (by simp), hlist.trans ?_, fun h => hlog ?_⟩
    · rw [removeListed, hr, List.filter_filter]
      refine List.filter_congr fun e _ => ?_
      by_cases he : e.slot = n <;> simp [he]
    · rw [removeListed, hr]
      exact logEvent_length h

theorem dropSlots_list (which : Nat → Bool) (s : State) :
    (dropSlots which s).alarm.list = s.alarm.list.filter fun e => !which e.slot := by
  obtain ⟨-, -, hlist, -⟩ := removeEach_alarm ((s.alarm.list.map (·.slot)).filter which) s
  refine hlist.trans (List.filter_congr fun e he => ?_)
  have hlisted : e.slot ∈ s.alarm.list.map (·.slot) := List.mem_map_of_mem he
  cases hw : which e.slot <;> simp [hlisted, hw]

theorem entryOf_dropSlots (which : Nat → Bool) (s : State) (n : Nat) :
    entryOf (dropSlots which s) n = if which n then none else entryOf s n := by
  rw [entryOf, dropSlots_list, List.find?_filter]
  split
  · rename_i hw
    refine List.find?_eq_none.2 fun e _ he => ?_
    simp only [Bool.not_eq_true', beq_iff_eq, decide_eq_true_eq] at he
    rw [he.2, hw] at he
    cases he.1
  · rename_i hw
    refine congrArg (List.find? · _) (funext fun e => ?_)
    by_cases he : e.slot = n <;> simp [he, hw]

theorem slotOf_dropSlots (which : Nat → Bool) {s : State} {n : Nat} (h : n < s.alarm.slots.length) :
    slotOf (dropSlots which s) n = if which n then .start else slotOf s n := by
  obtain ⟨hslots, -⟩ := removeEach_alarm ((s.alarm.list.map (·.slot)).filter which) s
  simp [slotOf, dropSlots, hslots, h]

/-- Slots emptied at a commit have neither entry nor condition; the others are as before (R157). -/
theorem AlarmsFit.dropSlots {s : State} (h : AlarmsFit s) (which : Nat → Bool) :
    AlarmsFit (dropSlots which s) := by
  obtain ⟨hslots, hnodup, hlt, hnotices, hlog, hfit⟩ := h.1
  obtain ⟨hsame, hqueue, -, hlogged⟩ := removeEach_alarm ((s.alarm.list.map (·.slot)).filter which) s
  have hlist := dropSlots_list which s
  refine h.of_inv ⟨?_, ?_, fun e he => ?_, ?_, hlogged hlog, fun n hn => ?_⟩ (by simp)
  · simp [Machine.dropSlots, hsame, hslots]
  · rw [hlist]
    exact hnodup.sublist (List.filter_sublist.map _)
  · rw [hlist] at he
    exact hlt e (List.mem_of_mem_filter he)
  · exact (congrArg List.length hqueue).trans_le hnotices
  · rw [entryOf_dropSlots, slotOf_dropSlots which (by omega)]
    split
    · rfl
    · exact hfit n hn

/-! ### The swing unit and the position unit (R33, R66 to R68, R83) -/

theorem AlarmsFit.refreshSectors {s : State} (h : AlarmsFit s) : AlarmsFit (refreshSectors s) :=
  (h.withSwing _).evaluate (by decide) _

theorem AlarmsFit.keepSectorSet {s : State} (h : AlarmsFit s) : AlarmsFit (keepSectorSet s) :=
  h.of_fields rfl rfl rfl rfl rfl

theorem AlarmsFit.setAngle {s : State} (h : AlarmsFit s) (raw : Option Nat) :
    AlarmsFit (setAngle raw s) :=
  (h.withSwing _).refreshSectors.keepSectorSet.evaluateBound _

theorem AlarmsFit.updateClearance {s : State} (h : AlarmsFit s) (p : Option HandedPosition) :
    AlarmsFit (updateClearance p s) := by
  unfold Machine.updateClearance
  dsimp only
  split
  · exact h
  · exact (h.withSwing _).refreshSectors

theorem AlarmsFit.handPosition {s : State} (h : AlarmsFit s) : AlarmsFit (handPosition s) := by
  have hkept : AlarmsFit (positionKept s) :=
    (h.updateClearance (presentPosition s)).of_fields rfl rfl rfl rfl rfl
  exact ((hkept.evaluateBound _).evaluate (by decide) _).evaluate (by decide) _

theorem AlarmsFit.makeAttempt {s : State} (h : AlarmsFit s) : AlarmsFit (makeAttempt s) := by
  unfold Machine.makeAttempt
  split
  · exact h
  · exact (h.withPosition _).handPosition

theorem AlarmsFit.deliverPayout {s : State} (h : AlarmsFit s) (m : Motion) (p : StatPayload) :
    AlarmsFit (deliverPayout m p s) :=
  ((h.congr (t := writePayout m p s) (by simp) (by simp)).evaluate (by decide) _).makeAttempt

/-! ### The walk sequencer (R93 to R110) -/

theorem AlarmsFit.enterFault {s : State} (h : AlarmsFit s) : AlarmsFit (enterFault s) :=
  ((h.congr (t := enterState .transferFault .none s) (by simp) (by simp)).closeGates _).evaluate
    (by decide) _

theorem AlarmsFit.moves {s t : State} (h : AlarmsFit s) (hm : Moves s t) : AlarmsFit t := by
  rcases hm with rfl | rfl | ⟨x, y, which, -, rfl⟩
  · exact h
  · exact h.enterFault
  · exact h.congr (by simp) (by simp)

theorem AlarmsFit.walkRound {s : State} (h : AlarmsFit s) : AlarmsFit (walkRound s) := by
  have h0 : AlarmsFit (handedOn s) := h.congr rfl rfl
  rcases hw : usableWalk s with _ | w
  case none =>
    rw [walkRound_unusable hw]
    split
    · exact h0.congr (by simp) (by simp)
    · exact h0
  by_cases hx : s.walk.state = .startup
  · rw [walkRound_startup hw hx]
    exact h0.moves (moves_startupDecision _ w)
  · rw [walkRound_running hw hx]
    have hadvanced := h0.moves (moves_roundAdvance (handedOn s) w)
    have hreturned : AlarmsFit (faultReturn s.walk.state (roundAdvance (handedOn s) w) w) := by
      unfold faultReturn
      split
      · exact hadvanced.evaluate (by decide) _
      · exact hadvanced
    exact hreturned.congr (by simp) (by simp)

end Sys2Proof.Machine
end

section
/-! SUPPORT. Every command keeps the alarm unit as its rules have it (R134, R142, R144, R151, R154). -/

namespace Sys2Proof.Machine

/-! ### The link and the drives (R5, R14, R19, R20) -/

theorem AlarmsFit.takeNotice {s : State} (h : AlarmsFit s) : AlarmsFit (takeNotice s).2 := by
  unfold Machine.takeNotice
  split
  · exact h
  · split
    · rename_i n rest hrest
      obtain ⟨-, -, -, hnotices, hlog, -⟩ := h.1
      rw [hrest, List.length_cons] at hnotices
      exact h.of_inv (alarmInv_congr_fields h.1 rfl rfl (Nat.le_of_succ_le hnotices) hlog) rfl
    · exact h

theorem AlarmsFit.takeRef {s : State} (h : AlarmsFit s) (p : RefPayload) : AlarmsFit (takeRef p s) := by
  have hlink : AlarmsFit (linkTakesRef p.cycle s) := by
    unfold linkTakesRef
    dsimp only
    split
    · exact (h.withLink _).evaluate (by decide) _
    · exact h.withLink _
  have hdecided : AlarmsFit (refDecided p s) := (hlink.moves (moves_refDecision p _)).congr rfl rfl
  have hforwarded : AlarmsFit (refForwarded p s) :=
    hdecided.congr (by simp [refForwarded]) (by simp [refForwarded])
  exact hforwarded.takeNotice.congr (by simp [takeRef_eq, sendReport]) (by simp [takeRef_eq, sendReport])

theorem AlarmsFit.deliverTo {s : State} (h : AlarmsFit s) (m : Motion) (p : StatPayload) :
    AlarmsFit (deliverTo m p s) := by
  cases m with
  | hoist =>
    exact (h.deliverPayout .hoist p).congr (by simp [Machine.deliverTo]) (by simp [Machine.deliverTo])
  | drag => exact h.deliverPayout .drag p
  | swing => exact h.setAngle _
  | propel => exact h.congr (by simp [Machine.deliverTo]) (by simp [Machine.deliverTo])

theorem AlarmsFit.takeStat {s : State} (h : AlarmsFit s) (m : Motion) (f : List Byte) :
    AlarmsFit (takeStat m f s) := by
  have hm := silentSlot_lt m
  have hbegun : AlarmsFit (statBegun m (readStat f) s) := by
    unfold statBegun
    split
    · exact (h.withLink _).evaluate (by omega) _
    · exact h.withLink _
  rw [takeStat_eq]
  exact ((hbegun.deliverTo m (readStat f)).evaluateBound (driveSource m (readStat f))).congr (by simp)
    (by simp)

theorem AlarmsFit.fallSilent {s : State} (h : AlarmsFit s) (m : Motion) : AlarmsFit (fallSilent m s) := by
  have hm := silentSlot_lt m
  have hbegun : AlarmsFit (silentBegun m s) := (h.withLink _).evaluate (by omega) _
  rw [fallSilent_eq]
  cases m with
  | hoist | drag => exact hbegun.evaluate (by decide) _
  | swing => exact hbegun.setAngle none
  | propel => exact hbegun.congr (by simp [silenceAt]) (by simp [silenceAt])

theorem AlarmsFit.enterHold {s : State} (h : AlarmsFit s) : AlarmsFit (enterHold s) := by
  have hraised : AlarmsFit (holdBegun s) := ((h.withLink _).evaluate (by decide) true).congr rfl rfl
  rw [enterHold_eq]
  exact hraised.congr (by simp) (by simp)

/-! ### The station line (R115, R121, R127, R148) -/

theorem AlarmsFit.charge {s : State} (h : AlarmsFit s) (n : Nat) (ok : Bool) :
    AlarmsFit (charge n ok s) := by
  have hrecord : AlarmsFit (updateRecord n (chargeRecord ok) s) := h.congr (by simp) (by simp)
  unfold Machine.charge
  split
  · exact h
  · dsimp only
    split
    · exact hrecord
    · exact hrecord.evaluate (by decide) _

/-- A charged transaction is followed by the next one, which reaches no alarm (R123 to R127). -/
theorem AlarmsFit.nextCharged {s : State} (h : AlarmsFit s) (f : LiveRecord → LiveRecord) (r : Round)
    (n : Nat) (ok : Bool) (rest : List Job) :
    AlarmsFit (nextTransaction r n rest (Machine.charge n ok (updateRecord n f s))) :=
  ((h.congr (t := updateRecord n f s) (by simp) (by simp)).charge n ok).congr (by simp) (by simp)

theorem AlarmsFit.nextMissed {s : State} (h : AlarmsFit s) (r : Round) (n : Nat) (rest : List Job) :
    AlarmsFit (nextTransaction r n rest (Machine.charge n false s)) :=
  (h.charge n false).congr (by simp) (by simp)

theorem AlarmsFit.completeWrite {s : State} (h : AlarmsFit s) (answer : PickedAnswer) (r : Round)
    (n : Nat) (v : PerChannel Bool) (rest : List Job) : AlarmsFit (completeWrite answer r n v rest s) := by
  unfold Machine.completeWrite
  split
  · split
    · exact h.nextCharged _ _ _ _ _
    · exact h.nextCharged _ _ _ _ _
  · exact h.nextCharged _ _ _ _ _

theorem AlarmsFit.completeCondition {s : State} (h : AlarmsFit s) (answer : ConditionAnswer) (r : Round)
    (n : Nat) (rest : List Job) : AlarmsFit (completeCondition answer r n rest s) := by
  unfold Machine.completeCondition
  split
  · exact h.nextCharged _ _ _ _ _
  · exact h.nextMissed _ _ _

theorem AlarmsFit.completeRead {s : State} (h : AlarmsFit s) (answer : PickedAnswer) (r : Round)
    (n : Nat) (rest : List Job) : AlarmsFit (completeRead answer r n rest s) := by
  unfold Machine.completeRead
  split
  · rename_i b _
    dsimp only
    split
    · have hcharged := (h.congr (t := updateRecord n (recordStatus b) s) (by simp) (by simp)).charge n true
      exact hcharged.congr (by simp) (by simp)
    · exact h.nextCharged _ _ _ _ _
  · exact h.nextMissed _ _ _

theorem AlarmsFit.completion {s : State} (h : AlarmsFit s) {ofKind : Transaction → Bool}
    {record : State → State} (hr : AlarmsFit (record s)) : AlarmsFit (completion ofKind record s) :=
  completion_keeps h (h.congr rfl rfl) fun _ => hr

theorem AlarmsFit.writeOutputsDone {s : State} (h : AlarmsFit s) (answer : PickedAnswer) :
    AlarmsFit (writeOutputsDone answer s) := by
  refine h.completion ?_
  unfold writeOutputsRecorded
  (repeat' split)
  · exact h.completeWrite _ _ _ _ _
  all_goals exact h

theorem AlarmsFit.writeConditionDone {s : State} (h : AlarmsFit s) (answer : ConditionAnswer) :
    AlarmsFit (writeConditionDone answer s) := by
  refine h.completion ?_
  unfold writeConditionRecorded
  (repeat' split)
  · exact h.completeCondition _ _ _ _
  all_goals exact h

theorem AlarmsFit.readClearingDone {s : State} (h : AlarmsFit s) (answer : PickedAnswer) :
    AlarmsFit (readClearingDone answer s) := by
  refine h.completion ?_
  unfold readClearingRecorded
  (repeat' split)
  · exact h.completeRead _ _ _ _
  all_goals exact h

theorem AlarmsFit.roundDone {s : State} (h : AlarmsFit s) : AlarmsFit (roundDone s) := by
  unfold Machine.roundDone
  (repeat' split)
  · rename_i r _ _
    have hjudged : AlarmsFit (judged r s) := h.walkRound.evaluateBound _
    rw [completeRound_eq]
    exact hjudged.congr (by simp) (by simp)
  all_goals exact h

/-! ### The delay timers and the retained store (R143, R187) -/

/-- Only a PENDING slot has a delay timer, and it has no entry: its expiry raises it (R142, R143). -/
theorem AlarmsFit.delayExpires {s : State} (h : AlarmsFit s) (n : Nat) : AlarmsFit (delayExpires n s) := by
  unfold Machine.delayExpires
  split
  · split
    · rename_i a _ hd
      obtain ⟨hslots, hnodup, hlt, hnotices, hlog, hfit⟩ := h.1
      have hn : n < 64 := by
        by_contra hn
        have hbeyond : s.alarm.slots[n]? = none := List.getElem?_eq_none (by omega)
        simp [slotOf, hbeyond, Slot.start] at hd
      have hthis := hfit n hn
      rcases he : entryOf s n with _ | e
      · rw [he] at hthis
        exact h.of_inv (alarmInv_raiseSlot hslots hn hnodup hlt hnotices hlog (fun m hm _ => hfit m hm) he
          (hthis.trans hd) a) (by simp)
      · rw [he] at hthis
        simp [hthis.1] at hd
    · exact h
  · exact h

theorem AlarmsFit.finishWrite {s : State} (h : AlarmsFit s) (ok : Bool) : AlarmsFit (finishWrite ok s) := by
  unfold Machine.finishWrite
  split
  · exact h
  · rename_i w _
    have hreported : AlarmsFit (reportWrite w ok (settleItem w ok s)) := h.congr (by simp) (by simp)
    exact hreported.evaluate (by decide) _

/-! ### Starts and the supply (R159, R160, R175, R190 to R192) -/

/-- An alarm unit with every slot IDLE and nothing listed or queued. -/
theorem alarmInv_idle {s : State} (hslots : s.alarm.slots = List.replicate 64 .start)
    (hlist : s.alarm.list = []) (hnotices : s.alarm.notices = []) (hlog : s.alarm.log.length ≤ 256) :
    AlarmInv s := by
  refine ⟨by simp [hslots], by simp [hlist], by simp [hlist], by simp [hnotices], hlog, fun n hn => ?_⟩
  have hslot : slotOf s n = .start := by
    rw [slotOf, hslots, List.getD_eq_getElem?_getD, List.getElem?_replicate, if_pos hn]
    rfl
  rw [hslot, entryOf, hlist]
  rfl

theorem alarmInv_dark (store : RetainedStore) (pending : List Instr) :
    AlarmInv (State.dark store pending) := alarmInv_idle rfl rfl rfl (Nat.zero_le _)

theorem AlarmsFit.restartAlarm {s : State} (h : AlarmsFit s) : AlarmsFit (restartAlarm s) := by
  have hlog : (Machine.restartAlarm s).alarm.log.length ≤ 256 :=
    foldl_keeps (fun x => x.alarm.log.length ≤ 256) _ (fun _ _ hx => logEvent_length hx) _ s
      h.log_length_le
  exact h.of_inv (alarmInv_idle rfl rfl rfl hlog) (by simp)

theorem AlarmsFit.beginLine {s : State} (h : AlarmsFit s) : AlarmsFit (beginLine (enterWaiting s)) :=
  h.congr (by simp) (by simp)

theorem AlarmsFit.restartEffect {s : State} (h : AlarmsFit s) : AlarmsFit (restartEffect s) := by
  rw [restartEffect_eq]
  refine AlarmsFit.beginLine ?_
  have hemptied := AlarmsFit.restartAlarm (s := (((((s.withLink (restartLink s.link)).withMgmt
    (restartMgmt s.mgmt)).withShaper .start).withPosition (restartPosition s.position)).withSwing
    .start).withWalk (restartWalk s.walk)) (h.congr rfl rfl)
  exact (hemptied.handPosition.evaluate (by decide) _).evaluate (by decide) _

/-- A power-on start begins with an empty alarm unit and the definitions of the image it finds valid (R159,
R189). -/
theorem alarmsFit_powerOn (found : List FoundItem) (s : State) : AlarmsFit (powerOn found s) := by
  set store := presentedStore s.store found with hstore
  have hdark (x : State) (ha : x.alarm = .start) (ht : x.tables.active = store.images) : AlarmsFit x := by
    refine ⟨alarmInv_congr (alarmInv_dark store s.pending) ha, ?_⟩
    unfold definitionsOf
    split
    · rename_i image himage
      rw [ht] at himage
      exact readAlarm_length_le (Option.filter_eq_some_iff.1 himage).2
    · simp
  rw [powerOn_eq]
  refine AlarmsFit.beginLine ?_
  have hsettled : AlarmsFit (settleStart store s.pending) :=
    (hdark (settleUsability _) rfl rfl).settleBinding.evaluate (by decide) _
  exact (hsettled.congr (t := (settleStart store s.pending).withPower .on) rfl rfl).handPosition

/-! ### Commits (R43, R83, R89, R110, R157, R158, R182) -/

theorem AlarmsFit.activate {s : State} (h : AlarmsFit s) {k : Kind} {image : Image}
    (hi : imageValid k image = true) : AlarmsFit (activate k image s) := by
  have hinv : AlarmInv (Machine.activate k image s) := alarmInv_congr h.1 rfl
  cases k with
  | alarm => exact ⟨hinv, readAlarm_length_le hi⟩
  | _ => exact h.of_inv hinv rfl

/-- The binding settled anew begins with no definition bound (R157). -/
theorem AlarmsFit.withBound {s : State} (h : AlarmsFit s) (bound : List Bool) :
    AlarmsFit (s.withAlarm { s.alarm with bound := bound }) := h.of_fields rfl rfl rfl rfl rfl

theorem AlarmsFit.commitSwing {s : State} (h : AlarmsFit s) {image : Image}
    (hi : imageValid .swing image = true) : AlarmsFit (commitSwing image s) := by
  have hangle : AlarmsFit (swingCommitAngle (Machine.activate .swing image s)) :=
    ((h.activate hi).withSwing _).refreshSectors.keepSectorSet
  exact ((hangle.dropSlots _).settleAlarms.evaluateBound _).closeGates _

theorem AlarmsFit.commitAlarm {s : State} (h : AlarmsFit s) {image : Image}
    (hi : imageValid .alarm image = true) : AlarmsFit (commitAlarm image s) :=
  ((((h.dropSlots isLoaded).activate hi).withBound []).settleAlarms.evaluateBound _).evaluateBound _

theorem AlarmsFit.stationCommitLine {s : State} (h : AlarmsFit s) (onLine : Option Transaction) :
    AlarmsFit (stationCommitLine onLine s) := by
  refine AlarmsFit.evaluate ?_ (by decide) _
  exact h.congr rfl rfl

theorem AlarmsFit.commitStation {s : State} (h : AlarmsFit s) {image : Image}
    (hi : imageValid .station image = true) : AlarmsFit (commitStation image s) := by
  set s1 := Machine.stationCommitLine (lineTransaction s) (Machine.activate .station image s) with hs1
  have hline : AlarmsFit s1 := (h.activate hi).stationCommitLine _
  have hwalk : AlarmsFit (walkSettlesCommit s1) := hline.congr (by simp) (by simp)
  have hsettled := (hwalk.dropSlots (loadedWith (walkSettlesCommit s1) touchesStation)).settleAlarms
  exact hsettled.congr (by simp [Machine.commitStation, hs1]) (by simp [Machine.commitStation, hs1])

theorem AlarmsFit.commitEffects {s : State} (h : AlarmsFit s) {k : Kind} {image : Image}
    (hi : imageValid k image = true) : AlarmsFit (commitEffects k image s) := by
  have hactive := h.activate hi
  cases k with
  | plant | zone => exact hactive
  | geometry => exact ((hactive.withPosition _).closeGates _).handPosition
  | swing => exact h.commitSwing hi
  | walk =>
    exact (hactive.congr (t := walkSettlesCommit (Machine.activate .walk image s)) (by simp)
      (by simp)).settleAlarms
  | alarm => exact h.commitAlarm hi
  | station => exact h.commitStation hi

theorem AlarmsFit.tableCommit {s : State} (h : AlarmsFit s) (hi : ImagesInv s) (tag : Byte)
    (p : List Byte) : AlarmsFit (tableCommit tag p s).1 := by
  unfold Machine.tableCommit
  split
  · exact h
  split
  · exact h
  rename_i k image hst
  have hcommit : AlarmsFit (commitTable k image s) :=
    ((h.commitEffects (stagedFor_valid hi hst)).evaluate (n := 10) (by decide)
      (tableAbsent (Machine.commitEffects k image s))).congr (by simp [commitTable]) (by simp [commitTable])
  (repeat' split)
  · exact h
  · exact h
  · exact hcommit.congr rfl rfl
  · exact hcommit

/-! ### Requests (R147, R150, R152) -/

/-- An acknowledged entry stays while its slot's condition is true, and goes where it is false (R147). -/
theorem AlarmsFit.acknowledgeSlot {s : State} (h : AlarmsFit s) (n : Nat) :
    AlarmsFit (acknowledgeSlot n s) := by
  obtain ⟨hslots, hnodup, hlt, hnotices, hlog, hfit⟩ := h.1
  unfold Machine.acknowledgeSlot
  split
  · exact h
  rename_i e he
  have hn : n < 64 := by
    rw [← entryOf_some_slot he]
    exact hlt e (entryOf_mem he)
  have hthis := hfit n hn
  rw [he] at hthis
  obtain ⟨hdelay, hcond⟩ := hthis
  split
  · rename_i hstate
    refine h.of_inv (alarmInv_logEvent (alarmInv_setEntryState hslots hnodup hlt hnotices hlog
      (fun m hm _ => hfit m hm) (by simp [he]) hdelay ?_) _ _) (by simp)
    simpa [hstate] using hcond
  · rename_i hstate
    refine h.of_inv (alarmInv_removeEntry (s := logEvent .ack n s) hslots hnodup hlt hnotices
      (logEvent_length hlog) (fun m hm _ => hfit m hm) ?_ _) (by simp)
    have hfalse : (slotOf s n).condition = false := by simpa [hstate] using hcond
    have hsame : slotOf (logEvent .ack n s) n = slotOf s n := slotOf_congr rfl n
    rw [hsame, hfalse, hdelay]
    rfl
  · exact h

theorem AlarmsFit.alarmAcknowledge {s : State} (h : AlarmsFit s) (p : List Byte) :
    AlarmsFit (alarmAcknowledge p s).1 := by
  unfold Machine.alarmAcknowledge
  split
  · exact h
  · exact foldl_keeps AlarmsFit _ (fun _ n hx => hx.acknowledgeSlot n) _ s h

theorem AlarmsFit.alarmReAnnounce {s : State} (h : AlarmsFit s) : AlarmsFit (alarmReAnnounce s).1 :=
  h.of_inv (alarmInv_congr_fields h.1 rfl rfl (List.length_take_le _ _) h.log_length_le) rfl

theorem AlarmsFit.firstOutClear {s : State} (h : AlarmsFit s) : AlarmsFit (firstOutClear s).1 := by
  unfold Machine.firstOutClear
  split
  · exact h
  · exact h.of_fields rfl rfl rfl rfl rfl

theorem AlarmsFit.limitsSet {s : State} (h : AlarmsFit s) (p : List Byte) :
    AlarmsFit (limitsSet p s).1 := by
  rcases limitsSet_cases p s with he | ⟨g, -, -, he⟩
  · rwa [he]
  · rw [he]
    have hset := (h.withPosition { s.position with working := some (limitsOf p) }).evaluate (n := 6)
      (by decide) (travelExceeded (s.withPosition { s.position with working := some (limitsOf p) }))
    unfold acceptLimits
    dsimp only
    split
    · exact hset.congr (by simp) (by simp)
    · exact hset

/-- No other owner of a request reaches the alarm unit or the tables. -/
theorem AlarmsFit.run {c : Instr} {q : Nat × Rules × List Byte} (hq : requestOf c = some q)
    {s : State} (hi : ImagesInv s) (h : AlarmsFit s) (tag : Byte) (p : List Byte) :
    AlarmsFit (q.2.1.run tag p s).1 := by
  cases c
  all_goals cases hq
  case tableCommit => exact h.tableCommit hi tag p
  case limitsSet => exact h.limitsSet p
  case alarmAcknowledge => exact h.alarmAcknowledge p
  case alarmReAnnounce => exact h.alarmReAnnounce
  case firstOutClear => exact h.firstOutClear
  all_goals refine h.congr ?_ ?_
  all_goals
    simp [identifyRules, tableStateRules, tableReadRules, tableBeginRules, tableBlockRules, tableEndRules,
      limitsReadRules, stationStatusRules, stationOutputRules, stationEnrollRules, alarmListReadRules,
      firstOutReadRules, logReadRules, keySetRules, keyUnlockRules, keyClearRules, guardRules, freezeRules,
      restartRules, undefinedRules, readAnswer, refuse]

theorem AlarmsFit.takeRequest {c : Instr} {q : Nat × Rules × List Byte} (hq : requestOf c = some q)
    {s : State} (hi : ImagesInv s) (h : AlarmsFit s) : AlarmsFit (takeRequest q.1 q.2.1 q.2.2 s) := by
  have hown : AlarmsFit (checkRequest q.2.1 q.2.2 s).1 := by
    unfold checkRequest
    (repeat' split)
    · exact h
    · exact h
    · exact AlarmsFit.run hq hi h _ _
  unfold Machine.takeRequest answerRequest
  (repeat' split)
  · exact hown.congr (by simp) (by simp)
  · exact hown.congr (by simp) (by simp)
  · exact h

/-! ### Every command -/

theorem alarmsFit_exec {c : Instr} {s t : State} (hi : ImagesInv s) (h : AlarmsFit s)
    (he : exec c s = .next t) : AlarmsFit t := by
  rcases hq : requestOf c with _ | q
  case some =>
    rcases exec_requestOf hq he with rfl | rfl
    · exact h.takeRequest hq hi
    · exact h
  cases c with
  | frameDiscarded | mreqDiscarded => cases he; exact h
  | refTakenFromCab f => exact keeps_of_guard h (fun _ => h.takeRef _) he
  | statTaken f =>
    refine keeps_of_guard h (fun _ => ?_) he
    split
    · exact h.takeStat _ _
    · exact h
    · exact h
  | cabSilenceTimerExpiry => exact keeps_of_guard h (fun _ => h.enterHold) he
  | driveSilenceTimerExpiry m => exact keeps_of_guard h (fun _ => h.fallSilent m) he
  | transferTimerExpiry => exact keeps_of_guard h (fun _ => h.enterFault) he
  | writeOutputs answer => exact keeps_of_guard h (fun _ => h.writeOutputsDone answer) he
  | writeCondition answer => exact keeps_of_guard h (fun _ => h.writeConditionDone answer) he
  | readClearing answer => exact keeps_of_guard h (fun _ => h.readClearingDone answer) he
  | roundCompletion => exact keeps_of_guard h (fun _ => h.roundDone) he
  | delayTimerExpiry n => exact keeps_of_guard h (fun _ => h.delayExpires n) he
  | timeCounterTick => exact keeps_of_guard h (fun _ => h.of_fields
      (t := s.withAlarm { s.alarm with time := s.alarm.time + 1 }) rfl rfl rfl rfl rfl) he
  | retainedWriteCompletion ok => exact keeps_of_guard h (fun _ => h.finishWrite ok) he
  | restartTakesEffect => exact keeps_of_guard h (fun _ => h.restartEffect) he
  | powerOnStart found => cases he; exact alarmsFit_powerOn found s
  | briefSupplyDipStart =>
    exact keeps_of_guard h (fun _ => (h.congr (t := (s.withPower .dip).withLink (cutPorts s.link)) rfl
      rfl).finishWrite false) he
  | briefSupplyDipEnd =>
    have hon : AlarmsFit (s.withPower .on) := h.congr rfl rfl
    refine keeps_of_guard h (fun _ => ?_) he
    unfold dipEnd
    dsimp only
    split
    · exact hon.restartEffect
    · exact hon
  | supplyLoss => cases he; exact ⟨alarmInv_dark _ _, Nat.zero_le _⟩
  | passTraffic | transmissionCompletion | deferredConfirmationOffered | holdTimerExpiry
  | scanTimerExpiry | deferredRoundStart | enrollmentSweepStart | seekIfPass | seekPass =>
    exact keeps_of_guard h (fun _ => h.congr (by simp) (by simp)) he
  | _ => simp [requestOf] at hq

/-- Settles O41: every command is made of operations that keep the alarm unit, over the definitions of a
validated table. -/
theorem alarmInvKept : Obligations.AlarmInvKept := fun _ _ _ hi h he =>
  (alarmsFit_exec hi (alarmsFit_of_images hi h) he).1

end Sys2Proof.Machine
end

section
/-! SUPPORT. The requests on alarms and the time counter (R145, R147, R150, R152 to R154). -/

namespace Sys2Proof.Machine

/-! ### The log, and a removal that is logged after another event (R145, R147, R154) -/

/-- An event logged changes the log and the sequence number alone (R154). -/
theorem logEvent_alarm (kind : LogKind) (n : Nat) {s : State} (h : s.alarm.log.length ≤ 256) :
    (logEvent kind n s).alarm
      = { s.alarm with log := logAfter s [(kind, n)], nextSeq := s.alarm.nextSeq + 1 } := by
  obtain ⟨hlog, -⟩ := logEvent_logged kind n h
  rw [← hlog]
  rfl

/-- What logging an event and then removing the entry does to the alarm unit (R145, R147). -/
theorem removeEntry_logEvent_alarm (kind : LogKind) (n : Nat) (a : Attrs) {s : State}
    (h : s.alarm.log.length ≤ 256) : (removeEntry n a (logEvent kind n s)).alarm = { s.alarm with
      list := s.alarm.list.filter fun e => e.slot ≠ n
      log := logAfter s [(kind, n), (.remove, n)]
      nextSeq := s.alarm.nextSeq + 2 } := by
  have hfirst := logEvent_logged kind n h
  obtain ⟨hlog, hseq⟩ := hfirst.trans (removeEntry_logged n a hfirst.length_le) rfl
  have hlist : (s.alarm.list.filter fun e => e.slot ≠ n) = s.alarm.list.filter (·.slot != n) :=
    List.filter_congr fun e _ => by by_cases he : e.slot = n <;> simp [he]
  have hseq2 : (logEvent kind n s).alarm.nextSeq + 1 = s.alarm.nextSeq + 2 := by
    simp only [logEvent, State.withAlarm_alarm]
    rw [BitVec.add_assoc]
    rfl
  rw [hlist, ← hseq2]
  rw [removeEntry_alarm] at hlog ⊢
  simp only [List.singleton_append] at hlog
  rw [← hlog]
  rfl

/-! ### The entry of a slot -/

/-- No two entries have one slot, so that an entry listed is the entry of its slot. -/
theorem entryOf_of_mem {s : State} (hd : (s.alarm.list.map (·.slot)).Nodup) {e : Entry}
    (he : e ∈ s.alarm.list) : entryOf s e.slot = some e := by
  rcases hfound : entryOf s e.slot with _ | e'
  · exact absurd rfl (entryOf_none.1 hfound e he)
  · rw [List.inj_on_of_nodup_map hd (entryOf_mem hfound) he (entryOf_some_slot hfound)]

/-! ### One entry acknowledged (R147) -/

theorem acknowledgeSlot_raised {s : State} {n : Nat} {e : Entry} (he : entryOf s n = some e)
    (hx : e.state = .raisedUnack) (h : s.alarm.log.length ≤ 256) :
    (acknowledgeSlot n s).alarm = { s.alarm with
      list := s.alarm.list.map fun x => if x.slot = n then { x with state := .raisedAck } else x
      log := logAfter s [(.ack, n)], nextSeq := s.alarm.nextSeq + 1 } := by
  simp only [acknowledgeSlot, he, hx]
  rw [logEvent_alarm .ack n (s := setEntryState n .raisedAck s) h]
  simp [setEntryState, logAfter]

theorem acknowledgeSlot_returned {s : State} {n : Nat} {e : Entry} (he : entryOf s n = some e)
    (hx : e.state = .returnedUnack) (h : s.alarm.log.length ≤ 256) :
    (acknowledgeSlot n s).alarm = { s.alarm with
      list := s.alarm.list.filter fun x => x.slot ≠ n
      log := logAfter s [(.ack, n), (.remove, n)], nextSeq := s.alarm.nextSeq + 2 } := by
  simp only [acknowledgeSlot, he, hx]
  exact removeEntry_logEvent_alarm .ack n _ h

theorem acknowledgeSlot_acknowledged {s : State} {n : Nat} {e : Entry} (he : entryOf s n = some e)
    (hx : e.state = .raisedAck) : acknowledgeSlot n s = s := by
  simp only [acknowledgeSlot, he, hx]

/-- An acknowledgement reaches no more of the line than desired outputs (R145, R148). -/
theorem acknowledgeSlot_line (n : Nat) (s : State) :
    (acknowledgeSlot n s).line = { s.line with records := (acknowledgeSlot n s).line.records }
      ∧ (acknowledgeSlot n s).line.records.map undesired = s.line.records.map undesired := by
  refine ⟨StationLine.eq_of_records (by simp) (by simp) (by simp) (by simp) (by simp) (by simp)
    (by simp), ?_⟩
  unfold acknowledgeSlot
  split
  · rfl
  · split
    · rfl
    · exact removeEntry_undesired n _ (logEvent .ack n s)
    · rfl

/-! ### The path of ALARM ACKNOWLEDGE (R147, R161) -/

theorem exec_alarmAcknowledge {f : List Byte} {s : State} {b : Byte} (ht : taken 0x0E f s = true)
    (hp : requestParams f = [b]) : exec (.alarmAcknowledge f) s
      = .next (answerRequest 0x0E (requestTag f) (alarmAcknowledge [b] s)) := by
  have hreach := takeRequest_reaches (r := alarmAcknowledgeRules) ht (by rw [hp]; rfl) rfl
  rw [hp] at hreach
  exact congrArg Host.Outcome.next hreach

/-- A number that names no listed entry is refused (R147). -/
theorem alarmAcknowledge_refused {n : Nat} {s : State} (h255 : n < 255)
    (h : 64 ≤ n ∨ entryOf s n = none) : alarmAcknowledge [BitVec.ofNat 8 n] s = refuse .range s := by
  have hn : u8At [BitVec.ofNat 8 n] 0 = n := by simp [u8At, byteAt]; omega
  have hnone : acknowledged n s = none := by
    rw [acknowledged, if_neg (by omega), if_neg]
    rintro ⟨hlt, hsome⟩
    rcases h with h | h
    · omega
    · simp [h] at hsome
  simp [alarmAcknowledge, hn, hnone]

theorem alarmAcknowledge_slot {n : Nat} {s : State} {e : Entry} (hlt : n < 64)
    (he : entryOf s n = some e) : alarmAcknowledge [BitVec.ofNat 8 n] s = (acknowledgeSlot n s,
      .now .accepted ([if e.state = .raisedAck then 0 else 1,
        BitVec.ofNat 8 (acknowledgeSlot n s).alarm.list.length]
          ++ u8 (unackCount (acknowledgeSlot n s)))) := by
  have hn : u8At [BitVec.ofNat 8 n] 0 = n := by simp [u8At, byteAt]; omega
  have hnamed : acknowledged n s = some [n] := by
    rw [acknowledged, if_neg (by omega), if_pos ⟨hlt, by simp [he]⟩]
  have hchanged : u8 ([n].filter (awaitsAck s)).length = [if e.state = .raisedAck then 0 else 1] := by
    cases hx : e.state <;> simp [awaitsAck, he, isUnack, hx, u8]
  simp only [alarmAcknowledge, hn, hnamed, hchanged, List.foldl_cons, List.foldl_nil]
  rfl

/-! ### Every entry acknowledged, in list order (R147) -/

/-- The entries that are left of some when every one is acknowledged. -/
def acknowledgedEntries (l : List Entry) : List Entry :=
  (l.filter fun e => e.state ≠ .returnedUnack).map fun e => { e with state := .raisedAck }

/-- What acknowledging an entry logs. -/
def acknowledgeEvents (e : Entry) : List (LogKind × Nat) :=
  match e.state with
  | .raisedUnack => [(.ack, e.slot)]
  | .returnedUnack => [(.ack, e.slot), (.remove, e.slot)]
  | .raisedAck => []

theorem acknowledgedEntries_append (l l' : List Entry) :
    acknowledgedEntries (l ++ l') = acknowledgedEntries l ++ acknowledgedEntries l' := by
  simp [acknowledgedEntries]

theorem acknowledgedEntries_slots (l : List Entry) :
    ((acknowledgedEntries l).map (·.slot)).Sublist (l.map (·.slot)) := by
  have hsame : (acknowledgedEntries l).map (·.slot)
      = (l.filter fun e => e.state ≠ .returnedUnack).map (·.slot) := by
    rw [acknowledgedEntries, List.map_map]
    rfl
  rw [hsame]
  exact List.filter_sublist.map _

/-- In a list without the slot, neither a change at the slot nor its removal does anything. -/
theorem map_of_not_listed {l : List Entry} {n : Nat} (h : n ∉ l.map (·.slot)) (x : EntryState) :
    (l.map fun e => if e.slot = n then { e with state := x } else e) = l :=
  (List.map_congr_left fun _ he => if_neg fun hs => h (List.mem_map.2 ⟨_, he, hs⟩)).trans
    (List.map_id l)

theorem filter_of_not_listed {l : List Entry} {n : Nat} (h : n ∉ l.map (·.slot)) :
    (l.filter fun e => e.slot ≠ n) = l :=
  List.filter_eq_self.2 fun _ he => decide_eq_true fun hs => h (List.mem_map.2 ⟨_, he, hs⟩)

theorem acknowledgeSlot_list {s : State} {n : Nat} {e : Entry} (he : entryOf s n = some e) :
    (acknowledgeSlot n s).alarm.list = match e.state with
      | .raisedUnack => s.alarm.list.map fun x => if x.slot = n then { x with state := .raisedAck } else x
      | .returnedUnack => s.alarm.list.filter fun x => x.slot ≠ n
      | .raisedAck => s.alarm.list := by
  cases hx : e.state with
  | raisedUnack => simp [acknowledgeSlot, he, hx, logEvent, setEntryState]
  | returnedUnack =>
    simp only [acknowledgeSlot, he, hx, removeListed, removeEntry_alarm]
    exact List.filter_congr fun x _ => by by_cases hs : x.slot = n <;> simp [hs]
  | raisedAck => rw [acknowledgeSlot_acknowledged he hx]

theorem acknowledgeSlot_logged {s : State} {e : Entry} (he : entryOf s e.slot = some e)
    (h : s.alarm.log.length ≤ 256) :
    Logged (acknowledgeEvents e) s (acknowledgeSlot e.slot s) := by
  cases hx : e.state with
  | raisedUnack => simp [Logged, acknowledgeSlot_raised he hx h, acknowledgeEvents, hx]
  | returnedUnack => simp [Logged, acknowledgeSlot_returned he hx h, acknowledgeEvents, hx]
  | raisedAck =>
    rw [acknowledgeSlot_acknowledged he hx]
    simpa [acknowledgeEvents, hx] using logged_nil h rfl rfl

/-- Acknowledging the entry at some place of the list leaves what is before and behind it. -/
theorem acknowledgeSlot_at {done rest : List Entry} {e : Entry} {s : State}
    (hl : s.alarm.list = done ++ e :: rest) (hd : (s.alarm.list.map (·.slot)).Nodup) :
    (acknowledgeSlot e.slot s).alarm.list = done ++ acknowledgedEntries [e] ++ rest := by
  rw [acknowledgeSlot_list (entryOf_of_mem hd (by simp [hl])), hl]
  rw [hl, List.map_append, List.map_cons, List.nodup_middle, List.nodup_cons, List.mem_append,
    not_or] at hd
  obtain ⟨⟨hbefore, hbehind⟩, -⟩ := hd
  obtain ⟨n, x, time⟩ := e
  cases x with
  | raisedUnack => simp [acknowledgedEntries, map_of_not_listed hbefore, map_of_not_listed hbehind]
  | returnedUnack =>
    have hgone := filter_of_not_listed hbehind
    rw [← List.filter_cons_of_neg (a := ⟨n, .returnedUnack, time⟩) (by simp)] at hgone
    have hnone : acknowledgedEntries [⟨n, .returnedUnack, time⟩] = [] := rfl
    rw [hnone, List.append_nil]
    exact (List.filter_append done _).trans (congrArg₂ (· ++ ·) (filter_of_not_listed hbefore) hgone)
  | raisedAck => simp [acknowledgedEntries]

/-- Acknowledging the last entries of the list one after the other. -/
theorem acknowledgeEach (rest : List Entry) : ∀ (done : List Entry) (s : State),
    s.alarm.list = done ++ rest → (s.alarm.list.map (·.slot)).Nodup →
    ((rest.map (·.slot)).foldl (fun acc n => acknowledgeSlot n acc) s).alarm.list
        = done ++ acknowledgedEntries rest
      ∧ (s.alarm.log.length ≤ 256 → Logged (rest.flatMap acknowledgeEvents) s
        ((rest.map (·.slot)).foldl (fun acc n => acknowledgeSlot n acc) s)) := by
  induction rest with
  | nil => exact fun done s hl _ => ⟨hl, fun h => logged_nil h rfl rfl⟩
  | cons e rest ih =>
    intro done s hl hd
    have hnext := acknowledgeSlot_at hl hd
    have hd' : ((acknowledgeSlot e.slot s).alarm.list.map (·.slot)).Nodup := by
      rw [hl] at hd
      refine hd.sublist ?_
      rw [hnext]
      simpa using (acknowledgedEntries_slots [e]).append (List.Sublist.refl (rest.map (·.slot)))
    obtain ⟨hlist, hlogged⟩ := ih (done ++ acknowledgedEntries [e]) (acknowledgeSlot e.slot s) hnext hd'
    refine ⟨?_, fun h => ?_⟩
    · rw [List.map_cons, List.foldl_cons, hlist, List.append_assoc, ← acknowledgedEntries_append]
      rfl
    · have hfirst := acknowledgeSlot_logged (entryOf_of_mem hd (e := e) (by simp [hl])) h
      exact hfirst.trans (hlogged hfirst.length_le) (by simp)

/-- The entries of the list all acknowledged: how many change, and what is left (R147). -/
theorem alarmAcknowledge_all {s : State} (hd : (s.alarm.list.map (·.slot)).Nodup) :
    (alarmAcknowledge [255] s).1.alarm.list = acknowledgedEntries s.alarm.list
      ∧ (s.alarm.log.length ≤ 256 →
        Logged (s.alarm.list.flatMap acknowledgeEvents) s (alarmAcknowledge [255] s).1)
      ∧ (alarmAcknowledge [255] s).2 = .now .accepted
        (u8 (unackCount s) ++ u8 (alarmAcknowledge [255] s).1.alarm.list.length ++ [0]) := by
  obtain ⟨hlist, hlogged⟩ := acknowledgeEach s.alarm.list [] s rfl hd
  have hall : alarmAcknowledge [255] s = ((s.alarm.list.map (·.slot)).foldl
      (fun acc n => acknowledgeSlot n acc) s, _) := rfl
  have hcount : ((s.alarm.list.map (·.slot)).filter (awaitsAck s)).length = unackCount s := by
    rw [List.filter_map, List.length_map, unackCount]
    refine congrArg List.length (List.filter_congr fun e he => ?_)
    rw [Function.comp, awaitsAck, entryOf_of_mem hd he]
  have hnone : unackCount ((s.alarm.list.map (·.slot)).foldl (fun acc n => acknowledgeSlot n acc) s)
      = 0 := by
    rw [unackCount_eq, hlist, List.length_eq_zero_iff, List.filter_eq_nil_iff]
    intro e' he'
    obtain ⟨e, -, rfl⟩ := List.mem_map.1 he'
    simp
  refine ⟨hlist, hlogged, ?_⟩
  rw [hall, hcount, hnone]
  rfl

/-- Settles O44: the owner acts by the entry's state, or entry by entry down the list, and the answer adds the
confirmation and the flags. -/
theorem acknowledgeActsByState : Obligations.AcknowledgeActsByState := by
  unfold Obligations.AcknowledgeActsByState
  refine ⟨fun f n s ht hp hn hd hlog => ⟨fun hno => ?refused, fun e hlt he => ?slot⟩,
    fun f s ht hp hd => ?all⟩
  case refused =>
    rw [exec_alarmAcknowledge ht hp, alarmAcknowledge_refused hn hno, answerRequest_refuse ht _ (by decide)]
  case slot =>
    have hexec := exec_alarmAcknowledge ht hp
    rw [alarmAcknowledge_slot hlt he, answerRequest_now (by simp [power_of_taken ht])] at hexec
    obtain ⟨hline, hundesired⟩ := acknowledgeSlot_line n s
    refine ⟨_, hexec, fun hx => acknowledgeSlot_raised he hx hlog,
      fun hx => acknowledgeSlot_returned he hx hlog, fun hx => ?_, ?_⟩
    · rw [acknowledgeSlot_acknowledged he hx]
      rfl
    · exact ⟨by simp [confirmedLink, unackCount], by simp, by simp, by simp, by simp, by simp, by simp,
        by simp, by simp, hline, hundesired⟩
  case all =>
    obtain ⟨hlist, hlogged, hanswer⟩ := alarmAcknowledge_all hd
    have hexec := exec_alarmAcknowledge ht hp
    rw [← Prod.mk.eta (p := alarmAcknowledge [255] s), hanswer,
      answerRequest_now (by simp [power_of_taken ht])] at hexec
    refine ⟨_, hexec, hlist, hlogged, ?_⟩
    simp [confirmedLink]

/-! ### ALARM RE-ANNOUNCE and FIRST-OUT CLEAR (R150, R152) -/

theorem isUnack_eq (e : Entry) :
    isUnack e = decide (e.state = .raisedUnack ∨ e.state = .returnedUnack) := by
  unfold isUnack
  cases e.state <;> rfl

theorem firstOutListed_iff (s : State) : firstOutListed s = true ↔
    ∃ r e, s.alarm.firstOut = some r ∧ e ∈ s.alarm.list ∧ e.slot = r.slot := by
  unfold firstOutListed
  cases hr : s.alarm.firstOut with
  | none => simp
  | some r => simp [entryOf, List.find?_isSome]

/-- Settles O45: each owner answers at once, over the list as it stands. -/
theorem reannounceAndFirstOutClear : Obligations.ReannounceAndFirstOutClear := by
  unfold Obligations.ReannounceAndFirstOutClear
  refine ⟨fun f s ht hp => ?_, fun f s ht hp => ?_⟩
  · have hslots : reannounced s = ((s.alarm.list.filter fun e =>
        e.state = .raisedUnack ∨ e.state = .returnedUnack).map (·.slot)).take 8 := by
      rw [reannounced, funext isUnack_eq]
      rfl
    have hreach := takeRequest_reaches (r := alarmReAnnounceRules) ht (by rw [hp]; rfl) rfl
    rw [← hslots]
    have hanswer := answerRequest_now (s := s.withAlarm { s.alarm with notices := reannounced s })
      (power_of_taken ht) 0x0F (requestTag f) .accepted (u8 (reannounced s).length)
    exact congrArg Host.Outcome.next (hreach.trans hanswer)
  · have hreach := takeRequest_reaches (r := firstOutClearRules) ht (by rw [hp]; rfl) rfl
    have hexec : exec (.firstOutClear f) s
        = .next (answerRequest 0x11 (requestTag f) (firstOutClear s)) := congrArg Host.Outcome.next hreach
    refine ⟨fun hnamed => ?_, fun hnamed => ?_⟩
    · rw [hexec, firstOutClear, if_pos ((firstOutListed_iff s).2 hnamed),
        answerRequest_refuse ht _ (by decide)]
    · have hanswer := answerRequest_now (s := s.withAlarm { s.alarm with firstOut := none })
        (power_of_taken ht) 0x11 (requestTag f) .accepted []
      rw [hexec, firstOutClear, if_neg (mt (firstOutListed_iff s).1 hnamed), hanswer]
      rfl

/-! ### The time counter (R153) -/

/-- Settles O43: of the two starts only that at power-on reaches the time counter. -/
theorem timeCounterTicks : Obligations.TimeCounterTicks := by
  unfold Obligations.TimeCounterTicks
  refine ⟨fun s hp => ?_, fun found s t he => ?_, fun s t he => ?_⟩
  · refine ⟨s.withAlarm { s.alarm with time := s.alarm.time + 1 }, ?_, BitVec.toNat_add _ _, rfl⟩
    simp [exec, execTimeCounterTick, powered, hp]
  · cases he
    simp [powerOn_eq, startedBlocks, settleStart, State.dark, AlarmUnit.start]
  · refine keeps_of_guard (P := fun x => x.alarm.time = s.alarm.time) rfl (fun _ => ?_) he
    simp [restartEffect_eq, restartedBlocks]

end Sys2Proof.Machine
end

section
/-! SUPPORT. What an evaluation of a condition does in each state of its slot, and the expiry of a delay timer
(R142 to R149, R154). -/

namespace Sys2Proof.Machine

/-! ### A slot's output brought up to date (R148) -/

/-- Bringing an output up to date reaches the line alone. -/
theorem updateOutput_eq (o : Option Binding) (before : Bool) (s : State) :
    updateOutput o before s = s.withLine (updateOutput o before s).line := by
  unfold updateOutput
  split
  · rfl
  · split <;> rfl

theorem recordOf_updateOutput_other {o : Option Binding} {k : Nat} (h : o.map (·.station) ≠ some k)
    (before : Bool) (s : State) : recordOf (updateOutput o before s) k = recordOf s k := by
  unfold updateOutput
  split
  · rfl
  · rename_i b
    have hk : k ≠ b.station := fun hk => h (congrArg some hk.symm)
    split
    · rw [setDesired, recordOf_updateRecord_other hk]
    · rfl

/-- The channel is set where its computed value has changed and the walk sequencer does not own it. -/
theorem recordOf_updateOutput_same {b : Binding} {r : LiveRecord} {s : State}
    (h : recordOf s b.station = some r) (before : Bool) :
    recordOf (updateOutput (some b) before s) b.station
      = some (if computedValue s b ≠ before ∧ walkOwns s b = false then
          { r with desired := r.desired.set b.channel (some (computedValue s b)), outputPending := true }
        else r) := by
  unfold updateOutput
  dsimp only
  by_cases hset : computedValue s b ≠ before ∧ walkOwns s b = false
  · rw [if_pos (by simpa using hset), if_pos hset, setDesired, recordOf_updateRecord_same, h]
    rfl
  · rw [if_neg (by simpa using hset), if_neg hset, h]

/-! ### A raise, whole (R144, R149) -/

/-- The last step of a raise brings the output up to date; the steps before it leave the line. -/
theorem raiseSlot_eq_updateOutput (n : Nat) (a : Attrs) (s : State) : ∃ x : State,
    raiseSlot n a s = updateOutput a.output (outputValue s a.output) x ∧ x.line = s.line
      ∧ x.tables = s.tables ∧ x.walk = s.walk := by
  have hgates (x : State) : (if a.cls == .trip then closeGates allMotions x else x).line = x.line := by
    split <;> rfl
  refine ⟨_, rfl, ?_, ?_, ?_⟩
  · split
    · rw [queueNotice_line, hgates, captureFirstOut_line]
      rfl
    · rw [hgates, captureFirstOut_line]
      rfl
  all_goals (repeat' split) <;> simp

/-- A channel is energised while an entry is listed whose definition names it (R148). -/
theorem computedValue_of_listed {s : State} {n : Nat} {a : Attrs} {b : Binding} {e : Entry}
    (ha : attrsOf s n = some a) (hb : a.output = some b) (he : e ∈ s.alarm.list) (hn : e.slot = n) :
    computedValue s b = true := by
  refine List.any_eq_true.2 ⟨e, he, ?_⟩
  simp [hn, ha, hb]

theorem setSlot_slotOf (n : Nat) (s : State) : setSlot n (slotOf s n) s = s := by
  have hsame : s.alarm.slots.set n (slotOf s n) = s.alarm.slots := by
    by_cases hn : n < s.alarm.slots.length
    · simp [slotOf, hn]
    · exact List.set_eq_of_length_le (not_lt.1 hn)
  rw [setSlot, hsame]
  rfl

/-- A raise of a slot that has just been stored is what R144 says of the state before it was stored. -/
theorem raised_raiseSlot {n : Nat} {a : Attrs} {s : State} (x : Slot) (ha : attrsOf s n = some a)
    (hn : n < s.alarm.slots.length) (hlog : s.alarm.log.length ≤ 256) :
    Raised n a x.condition s (raiseSlot n a (setSlot n x s)) := by
  set s1 := setSlot n x s with hs1
  have halarm := raiseSlot_alarm n a s1
  have hattrs : attrsOf (raiseSlot n a s1) n = some a := by
    rw [← ha, attrsOf, attrsOf, definitionsOf_congr (s := s) (by simp [hs1])]
  obtain ⟨y, hy, hline, htables, hwalk⟩ := raiseSlot_eq_updateOutput n a s1
  have hyalarm : (raiseSlot n a s1).alarm = y.alarm := by rw [hy, updateOutput_alarm]
  refine ⟨by rw [halarm]; rfl, ?slot, ?log, by rw [halarm]; rfl, ?shaper, by rw [halarm]; rfl,
    fun b r hb hoff hfree hr => ?output, fun k hk => ?records, fun k hk => ?slots, by simp [hs1]⟩
  case slot =>
    rw [slotOf, halarm]
    simp [hs1, setSlot, slotOf, hn]
  case slots =>
    rw [slotOf, halarm]
    simp [hs1, setSlot, slotOf, Ne.symm hk]
  case log => exact (raiseSlot_logged n a (s := s1) hlog).congr rfl rfl rfl rfl rfl
  case shaper => exact raiseSlot_shaper n a s1
  case records => rw [hy, recordOf_updateOutput_other hk, recordOf_congr (s := s) (by rw [hline]; rfl)]
  case output =>
    have hon : computedValue y b = true := by
      have hlisted := computedValue_of_listed (e := ⟨n, .raisedUnack, s.alarm.time⟩) hattrs hb
        (by rw [halarm]; simp [hs1, setSlot]) rfl
      rw [← hlisted]
      exact congrFun (computedValue_congr (s := raiseSlot n a s1) (by rw [listedSlots, ← hyalarm]; rfl)
        (by simp [htables])) b
    have hyfree : walkOwns y b = false := by
      rw [← hfree]
      exact congrFun (walkOwns_congr (usableWalk_congr (by rw [hwalk]; rfl) (by rw [htables]; rfl))) b
    have hyrecord : recordOf y b.station = some r := by
      rw [← hr, recordOf_congr (s := s) (by rw [hline]; rfl)]
    have hbefore : outputValue s1 a.output = false := by
      rw [hb]
      exact hoff
    rw [hbefore, hb] at hy
    rw [hy, recordOf_updateOutput_same hyrecord, hon, if_pos ⟨by decide, hyfree⟩]

/-! ### A removal after a return (R145, R148) -/

/-- What a removal leaves: the alarm unit without the entry, and the output's record at most. -/
theorem removeEntry_removed {n : Nat} {a : Attrs} {s : State} {e : Entry} (ha : attrsOf s n = some a)
    (he : entryOf s n = some e) :
    removeEntry n a s = (s.withAlarm (removeEntry n a s).alarm).withLine (removeEntry n a s).line
      ∧ (∀ b r, a.output = some b → recordOf s b.station = some r →
        recordOf (removeEntry n a s) b.station
          = some (if computedValue (removeEntry n a s) b = false ∧ walkOwns s b = false then
              { r with desired := r.desired.set b.channel (some false), outputPending := true }
            else r))
      ∧ ∀ k, a.output.map (·.station) ≠ some k → recordOf (removeEntry n a s) k = recordOf s k := by
  obtain ⟨x, hx, hxs⟩ : ∃ x : State, removeEntry n a s
      = updateOutput a.output (outputValue s a.output) x ∧ x = s.withAlarm x.alarm := ⟨_, rfl, rfl⟩
  have hxalarm : (removeEntry n a s).alarm = x.alarm := by rw [hx, updateOutput_alarm]
  refine ⟨?_, fun b r hb hr => ?_, fun k hk => ?_⟩
  · rw [hxalarm, ← hxs, hx]
    exact updateOutput_eq _ _ x
  · have hbefore : outputValue s a.output = true := by
      rw [hb]
      exact computedValue_of_listed ha hb (entryOf_mem he) (entryOf_some_slot he)
    have hvalue : computedValue (removeEntry n a s) b = computedValue x b :=
      congrFun (computedValue_congr (by rw [listedSlots, hxalarm, listedSlots]) (by rw [hx]; simp)) b
    have howner : walkOwns x b = walkOwns s b := by rw [hxs]; rfl
    have hrecord : recordOf x b.station = some r := by rw [hxs, ← hr]; rfl
    rw [hvalue, ← howner]
    rw [hbefore, hb] at hx
    rw [hx, recordOf_updateOutput_same hrecord]
    cases hoff : computedValue x b <;> simp
  · rw [hx, recordOf_updateOutput_other hk, hxs]
    rfl

/-! ### An evaluation by the state of its slot (R142) -/

theorem evaluate_unlisted {s : State} {n : Nat} {a : Attrs} (ha : attrsOf s n = some a)
    (he : entryOf s n = none) (v : Bool) : evaluate n v s
      = if v then
          if (slotOf s n).delay.isSome then setSlot n { slotOf s n with condition := v } s
          else if a.delay = 0 then raiseSlot n a (setSlot n { slotOf s n with condition := v } s)
          else setSlot n { condition := true, delay := some a.delay } s
        else setSlot n { condition := false, delay := none } s := by
  have hagain (x y : Slot) : setSlot n x (setSlot n y s) = setSlot n x s := by
    simp [setSlot]
  simp only [evaluate, ha, he, hagain]

section

variable {s : State} {n : Nat} {a : Attrs} {e : Entry}
variable (ha : attrsOf s n = some a) (he : entryOf s n = some e)
include ha he

theorem evaluate_listed (v : Bool) : evaluate n v s
      = if v then reassert n e (setSlot n { slotOf s n with condition := v } s)
        else returnEntry n a e (setSlot n { slotOf s n with condition := v } s) := by
  simp only [evaluate, ha, he]

/-- A true evaluation of a raised slot stores the condition (R142). -/
theorem evaluate_true_stands (hx : e.state ≠ .returnedUnack) :
    evaluate n true s = setSlot n { slotOf s n with condition := true } s := by
  rw [evaluate_listed ha he, if_pos rfl, reassert]
  cases hs : e.state with
  | returnedUnack => exact absurd hs hx
  | raisedUnack | raisedAck => rfl

/-- A true evaluation of a returned slot re-asserts it (R146). -/
theorem evaluate_true_reasserts (hx : e.state = .returnedUnack) : evaluate n true s
      = setEntryState n .raisedUnack (setSlot n { slotOf s n with condition := true } s) := by
  rw [evaluate_listed ha he, if_pos rfl, reassert, hx]

/-- A false evaluation of a returned slot stores the condition (R142). -/
theorem evaluate_false_stands (hx : e.state = .returnedUnack) :
    evaluate n false s = setSlot n { slotOf s n with condition := false } s := by
  rw [evaluate_listed ha he, if_neg Bool.false_ne_true, returnEntry, hx]

/-- A latched condition that becomes false while its entry is not acknowledged is listed as returned
(R145). -/
theorem evaluate_false_returns (hx : e.state = .raisedUnack) (hl : a.latched = true) : evaluate n false s
      = setEntryState n .returnedUnack
        (logEvent .return' n (setSlot n { slotOf s n with condition := false } s)) := by
  rw [evaluate_listed ha he, if_neg Bool.false_ne_true, returnEntry, hx, if_pos hl]

/-- A listed condition that becomes false while its entry is acknowledged, or is not latched, goes (R145). -/
theorem evaluate_false_removes
    (hx : e.state = .raisedAck ∨ (e.state = .raisedUnack ∧ a.latched = false)) :
    evaluate n false s
      = removeEntry n a (logEvent .return' n (setSlot n { slotOf s n with condition := false } s)) := by
  rw [evaluate_listed ha he, if_neg Bool.false_ne_true, returnEntry]
  rcases hx with hx | ⟨hx, hl⟩
  · rw [hx]
  · rw [hx, if_neg (by simp [hl])]

end

/-- Settles O42: by the state of the slot; a raise is what R144 says of the state before the condition was
stored. -/
theorem delayExpiryRaises : Obligations.DelayExpiryRaises := by
  unfold Obligations.DelayExpiryRaises
  refine ⟨fun n a s hp ha hd hlog => ?expiry, fun n a s ha hn _ hlog => ⟨fun he => ?unlisted,
    fun e he => ?listed⟩⟩
  case expiry =>
    have hn : n < s.alarm.slots.length := by
      by_contra hn
      rw [slotOf, List.getD_eq_getElem?_getD, List.getElem?_eq_none (not_lt.1 hn)] at hd
      cases hd
    have hraised := raised_raiseSlot (slotOf s n) ha hn hlog
    rw [setSlot_slotOf] at hraised
    refine ⟨_, ?_, hraised⟩
    simp [exec, execDelayTimerExpiry, powered, hp, delayExpires, ha, hd]
  case unlisted =>
    have htrue := evaluate_unlisted ha he true
    rw [if_pos rfl] at htrue
    refine ⟨evaluate_unlisted ha he false, fun hd => htrue.trans (if_pos hd), fun hd ha0 => ?_,
      fun hd ha0 => ?_⟩
    · rw [if_neg (by simp [hd]), if_neg ha0] at htrue
      exact htrue
    · rw [htrue, if_neg (by simp [hd]), if_pos ha0]
      exact raised_raiseSlot { slotOf s n with condition := true } ha hn hlog
  case listed =>
    refine ⟨evaluate_true_stands ha he, fun hx => ?reasserts, evaluate_false_stands ha he,
      fun hx hl => ?returns, fun hx => ?removes⟩
    case reasserts =>
      rw [evaluate_true_reasserts ha he hx]
      simp [setEntryState, setSlot]
    case returns =>
      have hlogged := logEvent_alarm .return' n
        (s := setSlot n { slotOf s n with condition := false } s) hlog
      rw [evaluate_false_returns ha he hx hl, setEntryState, hlogged]
      simp [setSlot, logEvent, logAfter]
    case removes =>
      rw [evaluate_false_removes ha he hx]
      obtain ⟨hwhole, hset, hothers⟩ := removeEntry_removed
        (s := logEvent .return' n (setSlot n { slotOf s n with condition := false } s)) ha he
      exact ⟨removeEntry_logEvent_alarm .return' n a hlog, hwhole, hset, hothers⟩

end Sys2Proof.Machine
end

section
/-! SUPPORT. Every command answers a next state and leaves the queue of waiting commands (Introduction; log
entry 2). -/

namespace Sys2Proof.Machine

/-- No owner of a request reaches the queue of waiting commands. -/
theorem requestOf_pending {c : Instr} {q : Nat × Rules × List Byte} (hq : requestOf c = some q)
    (tag : Byte) (p : List Byte) (s : State) : (q.2.1.run tag p s).1.pending = s.pending := by
  cases c
  all_goals cases hq
  case tableCommit =>
    show (tableCommit tag p s).1.pending = s.pending
    simp
  all_goals
    simp [identifyRules, tableStateRules, tableReadRules, tableBeginRules, tableBlockRules,
      tableEndRules, limitsReadRules, limitsSetRules, stationStatusRules, stationOutputRules,
      stationEnrollRules, alarmListReadRules, alarmAcknowledgeRules, alarmReAnnounceRules,
      firstOutReadRules, firstOutClearRules, logReadRules, keySetRules, keyUnlockRules,
      keyClearRules, guardRules, freezeRules, restartRules, undefinedRules, readAnswer, refuse]

/-- The path of a request leaves the queue, since its owner does (R161). -/
theorem takeRequest_pending {r : Rules} {s : State} (code : Nat) (f : List Byte)
    (hr : ∀ tag p, (r.run tag p s).1.pending = s.pending) :
    (takeRequest code r f s).pending = s.pending := by
  have hown : (checkRequest r f s).1.pending = s.pending := by
    unfold checkRequest
    (repeat' split) <;> simp [hr]
  unfold takeRequest answerRequest
  split
  · split <;> simpa using hown
  · rfl

theorem takeStat_pending (m : Motion) (f : List Byte) (s : State) :
    (takeStat m f s).pending = s.pending := by
  rw [takeStat_eq]
  unfold statBegun
  split <;> simp

/-- The end of a dip leaves the queue, whether a restart is pending or not (R174, R191). -/
theorem dipEnd_pending (s : State) : (dipEnd s).pending = s.pending := by
  unfold dipEnd
  dsimp only
  split
  · simp [restartEffect_eq, restartedBlocks]
  · rfl

theorem pending_exec {c : Instr} {s t : State} (he : exec c s = .next t) : t.pending = s.pending := by
  rcases hq : requestOf c with _ | q
  case some =>
    rcases exec_requestOf hq he with rfl | rfl
    · exact takeRequest_pending _ _ fun tag p => requestOf_pending hq tag p s
    · rfl
  have keeps {b : Prop} [Decidable b] {x : State} (hx : x.pending = s.pending)
      (he : (Host.Outcome.next (if b then x else s) : Host.Outcome State Fault Refusal) = .next t) :
      t.pending = s.pending := keeps_of_guard (P := fun x => x.pending = s.pending) rfl (fun _ => hx) he
  cases c with
  | frameDiscarded | mreqDiscarded | supplyLoss => cases he; rfl
  | statTaken f =>
    refine keeps ?_ he
    split
    · exact takeStat_pending _ _ _
    · rfl
    · rfl
  | refTakenFromCab f => exact keeps (by simp [takeRef]) he
  | powerOnStart found => cases he; simp [powerOn_eq, startedBlocks, settleStart, State.dark]
  | restartTakesEffect => exact keeps (by simp [restartEffect_eq, restartedBlocks]) he
  | briefSupplyDipStart => exact keeps (by simp [dipStart]) he
  | briefSupplyDipEnd => exact keeps (dipEnd_pending s) he
  | passTraffic | transmissionCompletion | deferredConfirmationOffered | cabSilenceTimerExpiry
  | holdTimerExpiry | driveSilenceTimerExpiry | transferTimerExpiry | scanTimerExpiry
  | deferredRoundStart | enrollmentSweepStart | writeOutputs | writeCondition | readClearing
  | seekIfPass | seekPass | roundCompletion | delayTimerExpiry | timeCounterTick
  | retainedWriteCompletion => exact keeps (by simp) he
  | _ => simp [requestOf] at hq

/-- No command is refused and none stops the part (R162, R192; log entry 2). -/
theorem exec_next (c : Instr) (s : State) : ∃ t, exec c s = .next t := by
  cases c <;> exact ⟨_, rfl⟩

/-- Settles O2: each command's arm answers a next state, and what it does leaves the queue. -/
theorem everyCommandKeepsTheQueue : Obligations.EveryCommandKeepsTheQueue := by
  intro c s
  obtain ⟨t, ht⟩ := exec_next c s
  exact ⟨t, ht, pending_exec ht⟩

end Sys2Proof.Machine
end

section
/-! SUPPORT. The path of a management request: not taken, malformed, refused by the lock, or brought to its
owner (R161, R163, R164). -/

namespace Sys2Proof.Machine

/-! ### The rules of the request codes (R163, R164, 10.3) -/

/-- The rules of a request code; those of R163 where it is none of 10.3. -/
def rulesOf (code : Nat) : Rules :=
  match code with
  | 0x01 => identifyRules
  | 0x02 => tableStateRules
  | 0x03 => tableReadRules
  | 0x04 => tableBeginRules
  | 0x05 => tableBlockRules
  | 0x06 => tableEndRules
  | 0x07 => tableCommitRules
  | 0x08 => limitsReadRules
  | 0x09 => limitsSetRules
  | 0x0A => stationStatusRules
  | 0x0B => stationOutputRules
  | 0x0C => stationEnrollRules
  | 0x0D => alarmListReadRules
  | 0x0E => alarmAcknowledgeRules
  | 0x0F => alarmReAnnounceRules
  | 0x10 => firstOutReadRules
  | 0x11 => firstOutClearRules
  | 0x12 => logReadRules
  | 0x13 => keySetRules
  | 0x14 => keyUnlockRules
  | 0x15 => keyClearRules
  | 0x16 => guardRules
  | 0x17 => freezeRules
  | 0x18 => restartRules
  | _ => undefinedRules

theorem definedCode_iff (code : Nat) : definedCode code = true ↔ 1 ≤ code ∧ code ≤ 24 := by
  simp [definedCode]

/-- The row of a defined code goes the path of R161 with the rules of the code. -/
theorem exec_requestCommand {code : Nat} (h : definedCode code = true) (f : List Byte) (s : State) :
    exec (requestCommand code f) s = .next (takeRequest code (rulesOf code) f s) := by
  obtain ⟨hlow, hhigh⟩ := (definedCode_iff code).1 h
  interval_cases code <;> rfl

/-- Every other code is the row of R163. -/
theorem requestCommand_undefined {code : Nat} (h : ¬ definedCode code = true) (f : List Byte) :
    requestCommand code f = .undefinedRequestCode f := by
  rw [definedCode_iff] at h
  unfold requestCommand
  split
  case h_25 => rfl
  all_goals omega

theorem arrivalCommand_mreq {f : List Byte} (hc : classifyCab f = .mreq) :
    arrivalCommand .cab f = requestCommand (requestCode f) f := by
  simp [arrivalCommand, hc]

/-! ### Whether a request is taken (R161) -/

theorem taken_iff {code : Nat} {f : List Byte} {s : State} : taken code f s = true ↔
    s.power = .on ∧ classifyCab f = .mreq ∧ requestCode f = code ∧ immediateWaiting s = false
      ∧ s.mgmt.restartPending = false := by
  simp [taken, portsOpen, isRequest, and_assoc]

theorem takeRequest_untaken {f : List Byte} {s : State}
    (h : immediateWaiting s = true ∨ s.mgmt.restartPending = true) (code : Nat) (r : Rules) :
    takeRequest code r f s = s := by
  refine if_neg fun ht => ?_
  obtain ⟨-, -, -, hw, hr⟩ := taken_iff.1 ht
  rcases h with h | h
  · simp [hw] at h
  · simp [hr] at h

/-- Settles O46: no row takes the request. -/
theorem untakenRequestChangesNothing : Obligations.UntakenRequestChangesNothing := by
  unfold Obligations.UntakenRequestChangesNothing
  intro f s hc h
  refine ⟨?_, rfl⟩
  rw [arrivalCommand_mreq hc]
  by_cases hd : definedCode (requestCode f) = true
  · rw [exec_requestCommand hd, takeRequest_untaken h]
  · rw [requestCommand_undefined hd]
    simp [exec, execUndefinedRequestCode, takeRequest_untaken h]

/-! ### The refusals of R163 and R164 -/

section

variable {code : Nat} {r : Rules} {f : List Byte} {s : State} (ht : taken code f s = true)
include ht

/-- A request of a length that its code does not have is malformed, whatever the lock state. -/
theorem takeRequest_malformed (hsized : r.sized (requestParams f) = false) :
    takeRequest code r f s = answeredOnly s code (requestTag f) .badRequest [] false := by
  rw [takeRequest, if_pos ht, checkRequest, hsized]
  exact answerRequest_refuse ht _ (by decide)

/-- A well-formed request that is not admitted in the lock state is refused before its owner sees it. -/
theorem takeRequest_notAdmitted (hsized : r.sized (requestParams f) = true)
    (hadmits : admits r.admits s.mgmt.lock = false) :
    takeRequest code r f s = answeredOnly s code (requestTag f) .locked [] false := by
  rw [takeRequest, if_pos ht, checkRequest, hsized, hadmits]
  exact answerRequest_refuse ht _ (by decide)

/-- A request whose row only reads reaches its owner and is accepted with its data. -/
theorem takeRequest_reads {data : State → List Byte} (hsized : r.sized (requestParams f) = true)
    (hadmits : r.admits = .every) (hrun : ∀ tag p, r.run tag p s = readAnswer data s) :
    takeRequest code r f s
      = answeredOnly s code (requestTag f) .accepted (data s) (code == 0x08) := by
  rw [takeRequest_reaches ht hsized (by rw [hadmits]; rfl), hrun, readAnswer,
    answerRequest_now (power_of_taken ht)]
  simp

end

/-- The codes whose parameters have a fixed number of bytes, each with the number (10.3). -/
def fixedLengths : List (Nat × Nat) :=
  [(0x01, 0), (0x02, 0), (0x03, 4), (0x04, 3), (0x06, 0), (0x07, 2), (0x08, 0), (0x09, 9),
   (0x0A, 2), (0x0C, 0), (0x0D, 2), (0x0E, 1), (0x0F, 0), (0x10, 0), (0x11, 0), (0x12, 2),
   (0x13, 16), (0x14, 16), (0x15, 0), (0x16, 0), (0x17, 0), (0x18, 0)]

theorem rulesOf_fixed : ∀ x ∈ fixedLengths,
    definedCode x.1 = true ∧ (rulesOf x.1).sized = fixed x.2 := by
  simp only [fixedLengths, List.forall_mem_cons, List.not_mem_nil, false_imp_iff, implies_true, and_true]
  and_intros <;> rfl

/-- Settles O47: the check of the length stands before that of the lock. -/
theorem malformedRequestIsRefused : Obligations.MalformedRequestIsRefused := by
  unfold Obligations.MalformedRequestIsRefused
  intro f s hp hc hw hr
  have ht {code : Nat} (h : requestCode f = code) : taken code f s = true :=
    taken_iff.2 ⟨hp, hc, h, hw, hr⟩
  refine ⟨fun hcode => ?undefined, fun c n hmem hcode hlen => ?fixed, fun hcode hlen => ?block,
    fun hcode hlen => ?output⟩
  case undefined =>
    have hd : ¬ definedCode (requestCode f) = true := by
      rw [definedCode_iff]
      omega
    rw [← takeRequest_malformed (r := undefinedRules) (ht rfl) rfl]
    simp [exec, execUndefinedRequestCode, hd]
  case fixed =>
    obtain ⟨hd, hsized⟩ := rulesOf_fixed (c, n) hmem
    rw [arrivalCommand_mreq hc, hcode, exec_requestCommand hd, takeRequest_malformed (ht hcode)]
    simp [hsized, fixed, hlen]
  case block =>
    have hsized : tableBlockRules.sized (requestParams f) = false := by
      simp only [tableBlockRules, blockSized, Bool.and_eq_false_iff, decide_eq_false_iff_not,
        beq_eq_false_iff_ne]
      omega
    rw [hcode, ← takeRequest_malformed (ht hcode) hsized]
    rfl
  case output =>
    have hsized : stationOutputRules.sized (requestParams f) = false := by
      simp only [stationOutputRules, outputSized, Bool.and_eq_false_iff, decide_eq_false_iff_not,
        beq_eq_false_iff_ne]
      omega
    rw [hcode, ← takeRequest_malformed (ht hcode) hsized]
    rfl

/-- The codes of the requests that change the part, each with the length of its well-formed parameters
(R164). -/
def changingLengths (p : List Byte) : List (Nat × Nat) :=
  [(0x04, 3), (0x05, 3 + u8At p 2), (0x06, 0), (0x07, 2), (0x09, 9),
   (0x0B, 2 + 2 * u8At p 0 + 2 * u8At p 1), (0x0C, 0), (0x13, 16), (0x17, 0), (0x18, 0)]

/-- The codes of KEY UNLOCK, KEY CLEAR and GUARD, each with its length (R164). -/
def heldLengths : List (Nat × Nat) := [(0x14, 16), (0x15, 0), (0x16, 0)]

/-- Whether a code is one of 10.3 in a row of R164, and takes parameters of a length. -/
def RowFits (p : List Byte) (row : Admission) (x : Nat × Nat) : Prop :=
  definedCode x.1 = true ∧ (rulesOf x.1).admits = row
    ∧ (p.length = x.2 → (rulesOf x.1).sized p = true)

theorem rowFits_of_fixed {p : List Byte} {row : Admission} {x : Nat × Nat} (hx : x ∈ fixedLengths)
    (hrow : (rulesOf x.1).admits = row) : RowFits p row x := by
  obtain ⟨hd, hsized⟩ := rulesOf_fixed x hx
  exact ⟨hd, hrow, fun hlen => by simp [hsized, fixed, hlen]⟩

theorem rowFits_changing (p : List Byte) : ∀ x ∈ changingLengths p, RowFits p .changing x := by
  have hblock : RowFits p .changing (0x05, 3 + u8At p 2) := by
    refine ⟨rfl, rfl, fun hlen => ?_⟩
    simp only at hlen
    simp [rulesOf, tableBlockRules, blockSized, hlen]
  have houtput : RowFits p .changing (0x0B, 2 + 2 * u8At p 0 + 2 * u8At p 1) := by
    refine ⟨rfl, rfl, fun hlen => ?_⟩
    simp only at hlen
    simp only [rulesOf, stationOutputRules, outputSized, hlen, beq_self_eq_true, Bool.and_true,
      decide_eq_true_eq]
    omega
  simp only [changingLengths, List.forall_mem_cons, List.not_mem_nil, false_imp_iff, implies_true, and_true]
  refine ⟨?_, hblock, ?_, ?_, ?_, houtput, ?_, ?_, ?_, ?_⟩
  all_goals exact rowFits_of_fixed (by decide) rfl

theorem rowFits_held (p : List Byte) : ∀ x ∈ heldLengths, RowFits p .held x := by
  simp only [heldLengths, List.forall_mem_cons, List.not_mem_nil, false_imp_iff, implies_true, and_true]
  exact ⟨rowFits_of_fixed (by decide) rfl, rowFits_of_fixed (by decide) rfl,
    rowFits_of_fixed (by decide) rfl⟩

/-- Settles O48: the row of the request is not admitted in the lock state. -/
theorem lockedRequestIsRefused : Obligations.LockedRequestIsRefused := by
  unfold Obligations.LockedRequestIsRefused
  intro f s hp hc hw hr
  dsimp only
  have hrefused {row : Admission} {c n : Nat} (hrow : RowFits (requestParams f) row (c, n))
      (hcode : requestCode f = c) (hlen : (requestParams f).length = n)
      (hlock : admits row s.mgmt.lock = false) : exec (arrivalCommand .cab f) s
        = .next (answeredOnly s (requestCode f) (requestTag f) .locked [] false) := by
    obtain ⟨hd, hadmits, hsized⟩ := hrow
    rw [arrivalCommand_mreq hc, hcode, exec_requestCommand hd,
      takeRequest_notAdmitted (taken_iff.2 ⟨hp, hc, hcode, hw, hr⟩) (hsized hlen)
        (by rw [hadmits]; exact hlock)]
  refine ⟨fun c n hmem hcode hlen hlock => ?_, fun c n hmem hcode hlen hlock => ?_⟩
  · refine hrefused (rowFits_changing _ (c, n) hmem) hcode hlen ?_
    rcases hlock with h | h <;> rw [h] <;> rfl
  · exact hrefused (rowFits_held _ (c, n) hmem) hcode hlen (by rw [hlock]; rfl)

end Sys2Proof.Machine
end

section
/-! SUPPORT. The requests of the maintenance lock (R168 to R172), RESTART (R174), and the reads of the whole
part (R39, R150, R173, R185). -/

namespace Sys2Proof.Machine

/-! ### KEY UNLOCK, GUARD, FREEZE and RESTART (R169, R171, R172, R174) -/

/-- The state after a request that leaves the management unit as given, but for what every answer changes
(R38, R161, R165). -/
def answeredWith (s : State) (code : Nat) (tag : Byte) (o : ReqOutcome) (data : List Byte)
    (m : Management) : State :=
  (s.withLink (confirmedLink s code tag o data)).withMgmt { m with deferredStore := 0, seqFlag := false }

/-- A request other than LIMITS READ whose owner answers at once leaves the owner's state, and what every
answer changes (R38, R161). -/
theorem takeRequest_now {code : Nat} {r : Rules} {f : List Byte} {s x : State} {o : ReqOutcome}
    {data : List Byte} (ht : taken code f s = true) (hcode : code ≠ 0x08)
    (hsized : r.sized (requestParams f) = true) (hadmits : admits r.admits s.mgmt.lock = true)
    (hrun : r.run (requestTag f) (requestParams f) s = (x, .now o data)) (hx : x.power = s.power) :
    takeRequest code r f s = answeredOnly x code (requestTag f) o data false := by
  rw [takeRequest_reaches ht hsized hadmits, hrun, answerRequest_now (hx.trans (power_of_taken ht)),
    beq_eq_false_iff_ne.2 hcode, Bool.false_and]

/-- A request whose owner replaces the management unit but for the deferred-store byte, which the
confirmation carries as it stood (R165). -/
theorem takeRequest_moves {code : Nat} {r : Rules} {f : List Byte} {s : State} {m : Management}
    {o : ReqOutcome} {data : List Byte} (ht : taken code f s = true) (hcode : code ≠ 0x08)
    (hsized : r.sized (requestParams f) = true) (hadmits : admits r.admits s.mgmt.lock = true)
    (hrun : r.run (requestTag f) (requestParams f) s = (s.withMgmt m, .now o data))
    (hm : m.deferredStore = s.mgmt.deferredStore) :
    takeRequest code r f s = answeredWith s code (requestTag f) o data m := by
  rw [takeRequest_now ht hcode hsized hadmits hrun rfl]
  simp [answeredOnly, answeredWith, confirmedLink, hm, State.withLink, State.withMgmt]

theorem admits_held {l : Lock} (h : l ≠ .frozen) : admits .held l = true := by
  cases l with
  | frozen => exact absurd rfl h
  | _ => rfl

section

variable {f : List Byte} {s : State}

/-- KEY UNLOCK in FROZEN is refused before its own rules (R164). -/
theorem exec_keyUnlock_frozen (ht : taken 0x14 f s = true) (hlen : (requestParams f).length = 16)
    (hlock : s.mgmt.lock = .frozen) :
    exec (.keyUnlock f) s = .next (answeredWith s 0x14 (requestTag f) .locked [] s.mgmt) :=
  congrArg Host.Outcome.next (takeRequest_notAdmitted (r := keyUnlockRules) ht
    (by simp [keyUnlockRules, fixed, hlen]) (by rw [hlock]; rfl))

/-- KEY UNLOCK in any other lock state, by its move in the table of R169. -/
theorem exec_keyUnlock (ht : taken 0x14 f s = true) (hlen : (requestParams f).length = 16)
    (hlock : s.mgmt.lock ≠ .frozen) {l : Lock} {n : Nat} {o : ReqOutcome}
    (hmove : unlockMove s.mgmt.lock s.mgmt.attempts (s.mgmt.key == some (requestParams f)) = (l, n, o)) :
    exec (.keyUnlock f) s = .next (answeredWith s 0x14 (requestTag f) o (u8 n)
      { s.mgmt with lock := l, attempts := n }) := by
  have hrun : keyUnlock (requestParams f) s
      = (s.withMgmt { s.mgmt with lock := l, attempts := n }, .now o (u8 n)) := by
    simp [keyUnlock, hmove]
  exact congrArg Host.Outcome.next (takeRequest_moves (r := keyUnlockRules) ht (by decide)
    (by simp [keyUnlockRules, fixed, hlen]) (admits_held hlock) hrun rfl)

/-- GUARD in FROZEN is refused before its own rules (R164). -/
theorem exec_guard_frozen (ht : taken 0x16 f s = true) (hp : requestParams f = [])
    (hlock : s.mgmt.lock = .frozen) :
    exec (.guard f) s = .next (answeredWith s 0x16 (requestTag f) .locked [] s.mgmt) :=
  congrArg Host.Outcome.next (takeRequest_notAdmitted (r := guardRules) ht (by rw [hp]; rfl)
    (by rw [hlock]; rfl))

/-- GUARD in any other lock state, by its move in the table of R171. -/
theorem exec_guard (ht : taken 0x16 f s = true) (hp : requestParams f = [])
    (hlock : s.mgmt.lock ≠ .frozen) {l : Lock} {o : ReqOutcome}
    (hmove : guardMove s.mgmt.lock = (l, o)) : exec (.guard f) s
      = .next (answeredWith s 0x16 (requestTag f) o (u8 (lockCode l)) { s.mgmt with lock := l }) := by
  have hrun : guardLock s = (s.withMgmt { s.mgmt with lock := l }, .now o (u8 (lockCode l))) := by
    simp [guardLock, setLock, hmove]
  exact congrArg Host.Outcome.next (takeRequest_moves (r := guardRules) ht (by decide)
    (by rw [hp]; rfl) (admits_held hlock) hrun rfl)

/-- FREEZE where it is admitted (R172). -/
theorem exec_freeze (ht : taken 0x17 f s = true) (hp : requestParams f = [])
    (hlock : s.mgmt.lock = .open ∨ s.mgmt.lock = .unlocked) : exec (.freeze f) s
      = .next (answeredWith s 0x17 (requestTag f) .accepted [] { s.mgmt with lock := .frozen }) :=
  congrArg Host.Outcome.next (takeRequest_moves (r := freezeRules) ht (by decide) (by rw [hp]; rfl)
    (admits_changing hlock) rfl rfl)

/-- FREEZE where it is not (R164). -/
theorem exec_freeze_refused (ht : taken 0x17 f s = true) (hp : requestParams f = [])
    (hlock : admits .changing s.mgmt.lock = false) :
    exec (.freeze f) s = .next (answeredWith s 0x17 (requestTag f) .locked [] s.mgmt) :=
  congrArg Host.Outcome.next (takeRequest_notAdmitted (r := freezeRules) ht (by rw [hp]; rfl) hlock)

/-- RESTART where it is admitted (R174). -/
theorem exec_restart (ht : taken 0x18 f s = true) (hp : requestParams f = [])
    (hlock : s.mgmt.lock = .open ∨ s.mgmt.lock = .unlocked) : exec (.restart f) s
      = .next (answeredWith s 0x18 (requestTag f) .accepted [] { s.mgmt with restartPending := true }) :=
  congrArg Host.Outcome.next (takeRequest_moves (r := restartRules) ht (by decide) (by rw [hp]; rfl)
    (admits_changing hlock) rfl rfl)

end

/-- Settles O49: by the lock state. -/
theorem lockMovesByRequest : Obligations.LockMovesByRequest := by
  unfold Obligations.LockMovesByRequest
  intro f s p answered unlocked locked frozen fewer
  have hanswered (code : Nat) (o : ReqOutcome) (data : List Byte) (m : Management) :
      answered code o data m = .next (answeredWith s code (requestTag f) o data m) := rfl
  simp only [hanswered]
  refine ⟨fun ht hlen => ?unlock, fun ht hp => ?guard, fun ht hp => ?freeze,
    fun ht hp hlock => exec_restart ht hp hlock⟩
  case unlock =>
    have hmoves := @exec_keyUnlock f s ht hlen
    cases hlock : s.mgmt.lock with
    | frozen => exact exec_keyUnlock_frozen ht hlen hlock
    | locked =>
      have hlocked : s.mgmt.lock ≠ .frozen := by simp [hlock]
      dsimp only
      split
      case isTrue h0 =>
        have hnone := hmoves (l := s.mgmt.lock) (n := s.mgmt.attempts) (o := .attempts) hlocked
          (by simp [unlockMove, hlock, h0])
        have hdata : u8 s.mgmt.attempts = [0] := by rw [h0]; rfl
        rw [hnone, hdata]
      case isFalse h0 =>
        split
        case isTrue hkey =>
          exact hmoves (l := .unlocked) (n := s.mgmt.attempts) hlocked
            (by simp [unlockMove, hlock, h0, hkey, p])
        case isFalse hkey =>
          exact hmoves (l := s.mgmt.lock) (n := s.mgmt.attempts - 1) hlocked
            (by simpa [unlockMove, hlock, h0, p] using hkey)
    | _ => -- OPEN and UNLOCKED
      exact hmoves (l := s.mgmt.lock) (by simp [hlock]) (by rw [hlock]; rfl)
  case guard =>
    have hmoves := @exec_guard f s ht hp
    cases hlock : s.mgmt.lock with
    | frozen => exact exec_guard_frozen ht hp hlock
    | unlocked | locked => exact hmoves (l := .locked) (by simp [hlock]) (by rw [hlock]; rfl)
    | _ => -- OPEN
      have hopen := hmoves (l := s.mgmt.lock) (by simp [hlock]) (by rw [hlock]; rfl)
      have hdata : u8 (lockCode s.mgmt.lock) = [0] := by rw [hlock]; rfl
      rw [hopen, hdata]
  case freeze =>
    cases hlock : s.mgmt.lock with
    | unlocked => exact exec_freeze ht hp (.inr hlock)
    | locked | frozen => exact exec_freeze_refused ht hp (by rw [hlock]; rfl)
    | _ => exact exec_freeze ht hp (.inl hlock) -- OPEN

/-! ### KEY SET and KEY CLEAR (R168, R170, R187) -/

/-- The state after an accepted request that changes the management unit and starts the key's write (R168,
R170, R187). -/
theorem answeredOnly_startWrite_key {s : State} {m : Management}
    (hm : m.deferredStore = s.mgmt.deferredStore) (code : Nat) (tag : Byte) (value : Option (List Byte)) :
    answeredOnly (startWrite (.key value) (s.withMgmt m)) code tag .accepted [] false
      = (answeredWith s code tag .accepted [] m).withStore
        { s.store with keyCopy := none, keyStatus := .writing, inFlight := some (.key value) } := by
  simp [answeredOnly, answeredWith, startWrite, confirmedLink, hm, State.withLink, State.withMgmt,
    State.withStore]

theorem writing_false {s : State} (h : s.store.inFlight = none) : writing s = false := by
  simp [writing, h]

/-- An accepted KEY SET (R168). -/
theorem keySet_accepted (p : List Byte) {s : State} (h : s.store.inFlight = none) : keySet p s
    = (startWrite (.key (some p)) (s.withMgmt
        { s.mgmt with key := some p, attempts := 5, lock := .unlocked }), .now .accepted []) := by
  rw [keySet, writing_false h]
  rfl

/-- An accepted KEY CLEAR (R170). -/
theorem keyClear_accepted {s : State} (hlock : s.mgmt.lock = .unlocked) (h : s.store.inFlight = none) :
    keyClear s = (startWrite (.key none) (s.withMgmt { s.mgmt with key := none, lock := .open }),
      .now .accepted []) := by
  rw [keyClear, hlock, writing_false h]
  rfl

section

variable {f : List Byte} {s x : State} {o : ReqOutcome}

/-- KEY SET where it is admitted, by what its owner does (R164, R168). -/
theorem exec_keySet (ht : taken 0x13 f s = true) (hlen : (requestParams f).length = 16)
    (hlock : s.mgmt.lock = .open ∨ s.mgmt.lock = .unlocked)
    (hrun : keySet (requestParams f) s = (x, .now o [])) (hx : x.power = s.power) :
    exec (.keySet f) s = .next (answeredOnly x 0x13 (requestTag f) o [] false) :=
  congrArg Host.Outcome.next (takeRequest_now (r := keySetRules) ht (by decide)
    (by simp [keySetRules, fixed, hlen]) (admits_changing hlock) hrun hx)

/-- KEY CLEAR not in FROZEN, by what its owner does (R164, R170). -/
theorem exec_keyClear (ht : taken 0x15 f s = true) (hp : requestParams f = [])
    (hlock : s.mgmt.lock ≠ .frozen) (hrun : keyClear s = (x, .now o [])) (hx : x.power = s.power) :
    exec (.keyClear f) s = .next (answeredOnly x 0x15 (requestTag f) o [] false) :=
  congrArg Host.Outcome.next (takeRequest_now (r := keyClearRules) ht (by decide) (by rw [hp]; rfl)
    (admits_held hlock) hrun hx)

end

/-- Settles O50: accepted, the owner replaces the key and starts its write; refused, it leaves the state. -/
theorem keyIsSetAndCleared : Obligations.KeyIsSetAndCleared := by
  unfold Obligations.KeyIsSetAndCleared
  intro f s p answered
  have hanswered (code : Nat) (m : Management) (value : Option (List Byte)) : answered code m value
      = (answeredWith s code (requestTag f) .accepted [] m).withStore
        { s.store with keyCopy := none, keyStatus := .writing, inFlight := some (.key value) } := rfl
  simp only [hanswered]
  refine ⟨fun ht hlen hlock => ⟨fun hfree => ?set, fun hbusy => ?setBusy⟩,
    fun ht hp => ⟨fun hlock hfree => ?clear, fun hlock hbusy => ?clearBusy, fun hlock => ?clearLocked,
      fun hlock => ?clearOpen⟩⟩
  case set =>
    rw [exec_keySet ht hlen hlock (keySet_accepted _ hfree) rfl,
      answeredOnly_startWrite_key]
    rfl
  case setBusy =>
    exact exec_keySet ht hlen hlock (by rw [keySet, writing, hbusy]; rfl) rfl
  case clear =>
    rw [exec_keyClear ht hp (by simp [hlock]) (keyClear_accepted hlock hfree) rfl,
      answeredOnly_startWrite_key]
    rfl
  case clearBusy =>
    exact exec_keyClear ht hp (by simp [hlock]) (by rw [keyClear, hlock, writing, hbusy]; rfl) rfl
  case clearLocked | clearOpen =>
    exact exec_keyClear ht hp (by simp [hlock]) (by rw [keyClear, hlock]; rfl) rfl

/-! ### IDENTIFY, TABLE STATE, LIMITS READ and FIRST-OUT READ (R39, R150, R173, R185) -/

theorem u8_toNat (b : Byte) : u8 b.toNat = [b] := by simp [u8]

theorem flagByte_eq (b : Bool) : flagByte b = [if b then 1 else 0] := by cases b <;> rfl

/-- The data of IDENTIFY: the part code, the free value, the lock, the attempts, the capacities (R173; log
entries 25 and 49). -/
theorem identifyData_eq (s : State) : identifyData s
    = [0xA2, 0x01, Config.logicRevision] ++ u8 (lockCode s.mgmt.lock) ++ u8 s.mgmt.attempts
      ++ [4, 0, 8, 0, 240, 0, 224, 0, 24, 0, 64, 0, 52, 0, 16, 0, 8, 0, 8, 0, 0, 1, 32, 0] := by
  have hmodel : u16 418 = [0xA2, 0x01] := by decide
  have hcapacities : capacities.flatMap u16
      = [4, 0, 8, 0, 240, 0, 224, 0, 24, 0, 64, 0, 52, 0, 16, 0, 8, 0, 8, 0, 0, 1, 32, 0] := by decide
  rw [identifyData, hmodel, hcapacities]
  rfl

theorem tableStateCode_eq (s : State) (k : Kind) : u8 (tableStateCode s k)
    = [match s.tables.active.get k with
      | none => 0
      | some _ => if k = .walk ∧ s.walk.usable = false then 2 else 1] := by
  unfold tableStateCode
  cases s.tables.active.get k with
  | none => rfl
  | some image =>
    by_cases hu : k = .walk ∧ s.walk.usable = false
    · simp only [hu]; rfl
    · simp only [if_neg hu]; rfl

theorem imageLength_eq (s : State) (k : Kind) :
    imageLength s k = ((s.tables.active.get k).map (·.length)).getD 0 := by
  unfold imageLength
  cases s.tables.active.get k <;> rfl

theorem unboundCount_eq (s : State) : unboundCount s
    = ((definitionsOf s).zipIdx.filter fun (_, n) => s.alarm.bound.getD n false = false).length := by
  simp [unboundCount]

theorem kindData_eq (s : State) (k : Kind) : kindData s k
    = [match s.tables.active.get k with
        | none => 0
        | some _ => if k = .walk ∧ s.walk.usable = false then 2 else 1]
      ++ u16 (((s.tables.active.get k).map (·.length)).getD 0) ++ [s.tables.commitNo.get k]
      ++ u8 (retStatusCode (s.store.imageStatus.get k))
      ++ u8 (if k = .alarm then
          ((definitionsOf s).zipIdx.filter fun (_, n) => s.alarm.bound.getD n false = false).length
        else 0) := by
  rw [kindData, tableStateCode_eq, imageLength_eq, u8_toNat, unboundCount_eq]

/-- The kind whose image is being written, as TABLE STATE names the item (R165, R185). -/
theorem inFlight_code (s : State) : optU8 (s.store.inFlight.map itemCode)
    = match s.store.inFlight with
      | none => [0xFF]
      | some (.key _) => [1]
      | some (.image k _) => [BitVec.ofNat 8 (kindCode k + 1)]
      | some (.limits _) => [9] := by
  cases s.store.inFlight with
  | none => rfl
  | some w => cases w <;> rfl

theorem stagingData_eq (s : State) : stagingData s
    = match s.mgmt.staging with
      | .empty => [0]
      | .open k total bytes => [1, BitVec.ofNat 8 (kindCode k)] ++ u16 bytes.length ++ u16 total
      | .staged k image => [2, BitVec.ofNat 8 (kindCode k)] ++ u16 image.length := by
  unfold stagingData
  cases s.mgmt.staging <;> rfl

theorem firstOutFields_eq (x : FirstOut) : firstOutFields x
    = [BitVec.ofNat 8 x.slot] ++ u32 x.time.toNat ++ u8 (posStatusCode x.status)
      ++ i16 x.reach ++ i16 x.height ++ u8 x.zone ++ u16 (x.angle.getD 65535)
      ++ u8 (seqStateCode x.seqState) ++ u8 (subStepCode x.sub)
      ++ i16 x.refs.hoist ++ i16 x.refs.drag ++ i16 x.refs.swing ++ i16 x.refs.propel := by
  rw [firstOutFields, optU16_eq]
  rfl

/-- The data of FIRST-OUT READ: the record, and whether its slot is listed (R150; log entry 28). -/
theorem firstOutData_eq (s : State) : firstOutData s
    = match s.alarm.firstOut with
      | none => [0, 0]
      | some x => [1, BitVec.ofNat 8 x.slot] ++ u32 x.time.toNat ++ u8 (posStatusCode x.status)
        ++ i16 x.reach ++ i16 x.height ++ u8 x.zone ++ u16 (x.angle.getD 65535)
        ++ u8 (seqStateCode x.seqState) ++ u8 (subStepCode x.sub)
        ++ i16 x.refs.hoist ++ i16 x.refs.drag ++ i16 x.refs.swing ++ i16 x.refs.propel
        ++ [if ∃ e ∈ s.alarm.list, e.slot = x.slot then 1 else 0] := by
  unfold firstOutData
  cases hx : s.alarm.firstOut with
  | none => rfl
  | some x =>
    have hlisted : flagByte (firstOutListed s)
        = [if ∃ e ∈ s.alarm.list, e.slot = x.slot then 1 else 0] := by
      rw [flagByte_eq]
      exact congrArg (fun b => [b]) (if_congr (by simp [firstOutListed_iff, hx]) rfl rfl)
    dsimp only
    rw [hlisted, firstOutFields_eq]
    rfl

/-- Settles O51: each owner accepts in every lock state with its data. -/
theorem readsAreAcceptedInEveryState : Obligations.ReadsAreAcceptedInEveryState := by
  unfold Obligations.ReadsAreAcceptedInEveryState
  intro f s hp
  have hsized : fixed 0 (requestParams f) = true := by rw [hp]; rfl
  refine ⟨fun ht => ?identify, fun ht => ?tables, fun ht => ?limits, fun ht => ?firstOut⟩
  case identify =>
    have hreads := takeRequest_reads (r := identifyRules) ht hsized rfl fun _ _ => rfl
    rw [identifyData_eq] at hreads
    exact congrArg Host.Outcome.next hreads
  case tables =>
    have hreads := takeRequest_reads (r := tableStateRules) ht hsized rfl fun _ _ => rfl
    rw [tableStateData, funext (kindData_eq s), inFlight_code, stagingData_eq] at hreads
    exact congrArg Host.Outcome.next hreads
  case limits =>
    have hreads := takeRequest_reads (r := limitsReadRules) ht hsized rfl fun _ _ => rfl
    rw [limitsReadData, flagByte_eq] at hreads
    exact congrArg Host.Outcome.next hreads
  case firstOut =>
    have hreads := takeRequest_reads (r := firstOutReadRules) ht hsized rfl fun _ _ => rfl
    rw [firstOutData_eq] at hreads
    exact congrArg Host.Outcome.next hreads

end Sys2Proof.Machine
end

section
/-! SUPPORT. The completion of a retained write: the item, the report to the management unit, slot 11 (R135,
R165, R183, R187; log entry 24). -/

namespace Sys2Proof.Machine

/-! ### The item (R186, R187) -/

/-- What the store holds after the completion of a write (R187). -/
def settledStore (w : Write) (success : Bool) (st : RetainedStore) : RetainedStore :=
  match w with
  | .image k bytes => { st with
      inFlight := none
      images := st.images.set k (if success then some bytes else none)
      imageStatus := st.imageStatus.set k (if success then .current else .stale) }
  | .key value => { st with
      inFlight := none, keyCopy := if success then value else none
      keyStatus := if success then (if value.isSome then .current else .none) else .stale }
  | .limits set => { st with
      inFlight := none, limitsCopy := if success then some set else none
      limitsStatus := if success then .current else .stale }

theorem settleItem_store (w : Write) (success : Bool) (s : State) :
    (settleItem w success s).store = settledStore w success s.store := by
  cases w <;> cases success <;> rfl

/-! ### The report (R165, R183) -/

/-- A write with an outstanding RETAIN_NOW request has its confirmation built, which carries the
deferred-store byte as it stood and makes it 0 (R165, R183). -/
theorem reportWrite_outstanding {w : Write} {s : State} {o : Outstanding} {k : Kind} (hp : s.power = .on)
    (ho : outstandingOf w s = some (o, k)) (hi : PortsInv s) (success : Bool) :
    (reportWrite w success s).mgmt = { s.mgmt with outCommit := none, deferredStore := 0 }
      ∧ DeferredJoined
        { kind := .mcnf true
          bytes := buildMcnf o.code o.tag (if success then 0 else 12) s.mgmt.deferredStore
            [BitVec.ofNat 8 (kindCode k), s.tables.commitNo.get k] } s (reportWrite w success s) := by
  have houtcome : outcomeCode (if success then .accepted else .storeFailed) = if success then 0 else 12 := by
    cases success <;> rfl
  have hdata : commitData k s = [BitVec.ofNat 8 (kindCode k), s.tables.commitNo.get k] := by
    rw [commitData, u8_toNat]
    rfl
  have hopen : portsOpen s = true := by simp [portsOpen, hp]
  have hports : PortsInv (s.withMgmt { s.mgmt with deferredStore := 0 }) := hi.congr rfl rfl rfl rfl
  simp only [reportWrite, ho, confirm, hopen, if_true, houtcome, hdata]
  exact ⟨by simp, (offerDeferred_joined hports (by simpa using hp) rfl).congr rfl rfl⟩

/-- A write that has none leaves the link; its failure enters the deferred-store byte (R165). -/
theorem reportWrite_unasked {w : Write} {s : State} (ho : outstandingOf w s = none) (success : Bool) :
    reportWrite w success s
      = s.withMgmt (if success then s.mgmt else { s.mgmt with deferredStore := itemCode w }) := by
  simp only [reportWrite, ho]
  cases success <;> rfl

theorem outstandingOf_eq_none {w : Write} {s : State}
    (h : s.mgmt.outCommit = none ∨ ∀ k bytes, w ≠ .image k bytes) : outstandingOf w s = none := by
  cases w with
  | image k bytes =>
    rcases h with h | h
    · simp [outstandingOf, h]
    · exact absurd rfl (h k bytes)
  | key | limits => rfl

/-! ### The completion -/

/-- The state in which slot 11 is evaluated at the completion of a write (R187). -/
def writeReported (w : Write) (success : Bool) (s : State) : State :=
  reportWrite w success (settleItem w success s)

theorem finishWrite_eq {w : Write} {s : State} (h : s.store.inFlight = some w) (success : Bool) :
    finishWrite success s
      = evaluate 11 (storeFailed (writeReported w success s)) (writeReported w success s) := by
  simp only [finishWrite, h]
  rfl

/-- Slot 11 is read from the statuses alone (R135, R186). -/
theorem storeFailed_congr {s t : State} (h : t.store = s.store) : storeFailed t = storeFailed s := by
  simp [storeFailed, h]

/-- Settles O57: the item is settled, then reported, then slot 11 is evaluated. -/
theorem writeCompletionIsReported : Obligations.WriteCompletionIsReported := by
  unfold Obligations.WriteCompletionIsReported
  intro success s w hp hi hw hslots
  have hexec : exec (.retainedWriteCompletion success) s = .next (finishWrite success s) := by
    simp [exec, execRetainedWriteCompletion, powered, hp]
  have hports : PortsInv (settleItem w success s) := hi.of_link (by simp) (by simp)
  rw [finishWrite_eq hw] at hexec
  refine ⟨_, hexec, ?store, fun k bytes o himage ho => ?outstanding, fun hunasked => ?unasked, ?slot, ?_⟩
  case store =>
    have hstore : (writeReported w success s).store = settledStore w success s.store := by
      simp [writeReported, settleItem_store]
    simp only [evaluate_frame, hstore]
    cases w <;> rfl
  case outstanding =>
    have hout : outstandingOf w (settleItem w success s) = some (o, k) := by
      simp [himage, outstandingOf, ho]
    obtain ⟨hmgmt, hjoined⟩ := reportWrite_outstanding (by simpa using hp) hout hports success
    refine ⟨by simp [writeReported, hmgmt], ?_⟩
    simp only [settleItem_frame] at hjoined
    exact hjoined.congr (by simp) (by simp [writeReported])
  case unasked =>
    have hreport := reportWrite_unasked (s := settleItem w success s) (w := w)
      (outstandingOf_eq_none (by simpa using hunasked)) success
    refine ⟨by simp [writeReported, hreport], ?_⟩
    simp only [evaluate_frame, writeReported, hreport, State.withMgmt_mgmt, settleItem_frame]
  case slot =>
    rw [evaluate_condition_internal _ (by decide) (by simp [writeReported, hslots])]
    exact (storeFailed_congr (by simp)).symm
  simp [writeReported, hp, evaluate_internal_line, evaluate_internal_shaper]

end Sys2Proof.Machine
end

section
/-! SUPPORT. What a restart leaves of every block (R7, R11, R26, R32, R33, R36, R56, R84, R111, R122,
R133, R154, R160, R174, R175; log entries 4, 12, 14, 42, 45, 48). -/

namespace Sys2Proof.Machine

/-! ### An alarm unit that has been emptied (R160) -/

/-- Every slot is IDLE and nothing is listed. -/
def Emptied (s : State) : Prop := s.alarm.slots = List.replicate 64 .start ∧ s.alarm.list = []

theorem Emptied.slotOf {s : State} (h : Emptied s) (n : Nat) : slotOf s n = .start := by
  rw [Machine.slotOf, h.1, List.getD_eq_getElem?_getD, List.getElem?_replicate]
  split <;> rfl

theorem Emptied.entryOf {s : State} (h : Emptied s) (n : Nat) : entryOf s n = none := by
  simp [Machine.entryOf, h.2]

/-- A false evaluation finds an IDLE slot as it is (R142). -/
theorem Emptied.evaluate_false {s : State} (h : Emptied s) (n : Nat) : evaluate n false s = s := by
  rcases ha : attrsOf s n with _ | a
  · simp [evaluate, ha]
  · rw [evaluate_unlisted ha (h.entryOf n), if_neg Bool.false_ne_true]
    have hidle := setSlot_slotOf n s
    rwa [h.slotOf] at hidle

/-- So do the false evaluations of the bound sources (R139 to R141). -/
theorem Emptied.evaluateBound {s : State} (h : Emptied s) {value : AlarmDef → Bool → Option Bool}
    (hv : ∀ d b v, value d b = some v → v = false) : evaluateBound value s = s := by
  refine foldl_keeps (fun x => x = s) _ ?_ _ s rfl
  rintro x ⟨d, k⟩ rfl
  dsimp only
  split
  · split
    · rename_i v hvalue
      rw [hv _ _ _ hvalue, h.evaluate_false]
    · rfl
  · rfl

/-- An absent position is in no zone (R141). -/
theorem zoneSource_absent (d : AlarmDef) (b v : Bool) (h : zoneSource none d b = some v) : v = false := by
  unfold zoneSource at h
  split at h
  · simpa using h.symm
  · cases h

/-- The hand-off of an absent position to blocks that hold their start values: the alarm unit keeps it, and
every condition is false already (R33, R34, R37, R72, R141). -/
theorem handPosition_emptied {s : State} (h : Emptied s) (habsent : presentPosition s = none)
    (hclear : clearanceAfter none s = s.swing.clear) (hlost : positionLost s = false)
    (htravel : travelExceeded s = false) :
    handPosition s = s.withAlarm { s.alarm with lastPosition := none } := by
  have hkept : positionKept s = s.withAlarm { s.alarm with lastPosition := none } := by
    rw [positionKept, habsent, updateClearance]
    simp only [hclear, if_true]
  have hk : Emptied (s.withAlarm { s.alarm with lastPosition := none }) := h
  rw [handPosition_eq, hlost, htravel, zonesHanded, hkept, habsent, hk.evaluateBound zoneSource_absent,
    hk.evaluate_false, hk.evaluate_false]

/-- Without a position no HEIGHT sector is clear (R72). -/
theorem clearanceAfter_none {s : State} (h : s.swing.clear = List.replicate 16 false) :
    clearanceAfter none s = List.replicate 16 false := by
  have hold (n : Nat) : s.swing.clear.getD n false = false := by
    rw [h, List.getD_eq_getElem?_getD, List.getElem?_replicate]
    split <;> rfl
  unfold clearanceAfter
  split
  · exact h
  · refine List.eq_replicate_iff.2 ⟨by simp, fun b hb => ?_⟩
    obtain ⟨n, -, rfl⟩ := List.mem_map.1 hb
    dsimp only
    rw [hold]
    split
    · split <;> rfl
    · rfl

/-! ### Slots 10 and 11 raised anew (R135, R144, R160) -/

/-- The slot where its condition holds. -/
def raisedIf (v : Bool) (n : Nat) : List Nat := if v then [n] else []

/-- Slots 10 and 11 are of class ADVISE, are announced and have no delay (R134). -/
theorem internalSlot_ten_eleven {n : Nat} (hn : n = 10 ∨ n = 11) :
    (internalSlot n).cls = .advise ∧ (internalSlot n).notify = true ∧ (internalSlot n).delay = 0 := by
  rcases hn with rfl | rfl <;> exact ⟨rfl, rfl, rfl⟩

/-- An evaluation of slot 10 or 11, IDLE: the condition stored, and a raise where it holds (R142, R144). -/
theorem evaluate_idle {n : Nat} (hn : n = 10 ∨ n = 11) {s : State} (hentry : entryOf s n = none)
    (hslot : slotOf s n = .start) (v : Bool) : evaluate n v s
      = if v then raiseSlot n (internalSlot n) (setSlot n { condition := true, delay := none } s)
        else setSlot n { condition := false, delay := none } s := by
  obtain ⟨-, -, hdelay⟩ := internalSlot_ten_eleven hn
  have ha : attrsOf s n = some (internalSlot n) := attrsOf_internal s (by omega)
  rw [evaluate_unlisted ha hentry, hslot, hdelay]
  cases v <;> rfl

section

variable {n : Nat} (hn : n = 10 ∨ n = 11) {s : State} (hentry : entryOf s n = none)
  (hslot : slotOf s n = .start)
include hn hentry hslot

/-- What it does to the alarm unit, with room in the notice queue (R151), but for the log. -/
theorem evaluate_idle_alarm (hnotices : s.alarm.notices.length < 8) (v : Bool) :
    (evaluate n v s).alarm = { s.alarm with
      slots := s.alarm.slots.set n { condition := v, delay := none }
      list := s.alarm.list ++ (raisedIf v n).map fun k =>
        { slot := k, state := .raisedUnack, time := s.alarm.time }
      notices := s.alarm.notices ++ raisedIf v n
      log := (evaluate n v s).alarm.log
      nextSeq := (evaluate n v s).alarm.nextSeq } := by
  obtain ⟨hcls, hnotify, -⟩ := internalSlot_ten_eleven hn
  rw [evaluate_idle hn hentry hslot]
  cases v with
  | false => simp [raisedIf, setSlot]
  | true =>
    have hroom : (setSlot n { condition := true, delay := none } s).alarm.notices.length < 8 := hnotices
    have hset : (setSlot n { condition := true, delay := none } s).alarm.slots.set n
        ⟨(slotOf (setSlot n { condition := true, delay := none } s) n).condition, none⟩
        = s.alarm.slots.set n { condition := true, delay := none } := by
      by_cases hlen : n < s.alarm.slots.length
      · rw [slotOf_setSlot_same hlen]
        simp [setSlot]
      · simp [setSlot, List.set_eq_of_length_le (not_lt.1 hlen)]
    rw [if_pos rfl, raiseSlot_alarm, if_pos ⟨hnotify, hroom⟩, hset]
    simp [raisedIf, setSlot, firstOutAfter, hcls]

/-- What it logs (R144, R154). -/
theorem evaluate_idle_logged (hlog : s.alarm.log.length ≤ 256) (v : Bool) :
    Logged ((raisedIf v n).map fun k => (.raise, k)) s (evaluate n v s) := by
  rw [evaluate_idle hn hentry hslot]
  cases v with
  | false => exact logged_nil hlog rfl rfl
  | true =>
    exact (raiseSlot_logged n (internalSlot n) (s := setSlot n _ s) hlog).congr rfl rfl rfl rfl rfl

end

/-- Slot 10 is read from the tables, the usability and the bindings (R135). -/
theorem tableAbsent_congr {s t : State} (ht : t.tables = s.tables) (hu : t.walk.usable = s.walk.usable)
    (hb : t.alarm.bound = s.alarm.bound) : tableAbsent t = tableAbsent s := by
  simp [tableAbsent, unboundCount, definitionsOf, ht, hu, hb]

theorem restartConditions_eq (s : State) : restartConditions s
    = evaluate 11 (storeFailed s) (evaluate 10 (tableAbsent s) s) := by
  have hstore : storeFailed (evaluate 10 (tableAbsent s) s) = storeFailed s := storeFailed_congr (by simp)
  rw [← hstore]
  rfl

/-- The slots that a restart raises anew (R135, R160). -/
def raisedAnew (s : State) : List Nat := raisedIf (tableAbsent s) 10 ++ raisedIf (storeFailed s) 11

section

variable {s : State} (h : Emptied s)
include h

/-- After slot 10 of an emptied alarm unit, slot 11 is still IDLE. -/
theorem slot_eleven_idle (v : Bool) (hnotices : s.alarm.notices = []) :
    entryOf (evaluate 10 v s) 11 = none ∧ slotOf (evaluate 10 v s) 11 = .start := by
  have halarm := evaluate_idle_alarm (.inl rfl) (h.entryOf 10) (h.slotOf 10) (by simp [hnotices]) v
  refine ⟨?_, by rw [evaluate_slots_other _ _ (by decide), h.slotOf]⟩
  rw [entryOf_none, halarm]
  cases v <;> simp [h.2, raisedIf]

/-- Slots 10 and 11 re-evaluated on an emptied alarm unit (R135, R160). -/
theorem restartConditions_alarm (hnotices : s.alarm.notices = []) :
    (restartConditions s).alarm = { s.alarm with
      slots := (s.alarm.slots.set 10 { condition := tableAbsent s, delay := none }).set 11
        { condition := storeFailed s, delay := none }
      list := (raisedAnew s).map fun k => { slot := k, state := .raisedUnack, time := s.alarm.time }
      notices := raisedAnew s
      log := (restartConditions s).alarm.log
      nextSeq := (restartConditions s).alarm.nextSeq } := by
  have hten := evaluate_idle_alarm (.inl rfl) (h.entryOf 10) (h.slotOf 10) (by simp [hnotices])
    (tableAbsent s)
  obtain ⟨hentry, hslot⟩ := slot_eleven_idle h (tableAbsent s) hnotices
  have hroom : (evaluate 10 (tableAbsent s) s).alarm.notices.length < 8 := by
    rw [hten]
    cases tableAbsent s <;> simp [hnotices, raisedIf]
  rw [restartConditions_eq, evaluate_idle_alarm (.inr rfl) hentry hslot hroom, hten]
  simp [h.2, hnotices, raisedAnew]

theorem restartConditions_logged (hnotices : s.alarm.notices = [])
    (hlog : s.alarm.log.length ≤ 256) :
    Logged ((raisedAnew s).map fun k => (.raise, k)) s (restartConditions s) := by
  obtain ⟨hentry, hslot⟩ := slot_eleven_idle h (tableAbsent s) hnotices
  have hten := evaluate_idle_logged (.inl rfl) (h.entryOf 10) (h.slotOf 10) hlog (tableAbsent s)
  have heleven := evaluate_idle_logged (.inr rfl) hentry hslot hten.length_le (storeFailed s)
  rw [restartConditions_eq, raisedAnew, List.map_append]
  exact hten.trans heleven (by simp)

end

/-- They reach neither the line nor the shaper: both have no output, and neither is a TRIP (R134). -/
theorem restartConditions_line (s : State) : (restartConditions s).line = s.line := by
  simp [restartConditions_eq, evaluate_internal_line]

theorem restartConditions_shaper (s : State) : (restartConditions s).shaper = s.shaper := by
  simp [restartConditions_eq, evaluate_internal_shaper]

/-! ### The list emptied, each removal logged (R154, R160) -/

/-- Every removal is logged, in the order of the list, and nothing else of the alarm unit is touched. -/
theorem foldl_logEvent_logged (slots : List Nat) {s : State} (h : s.alarm.log.length ≤ 256) :
    Logged (slots.map fun n => (.remove, n)) s (slots.foldl (fun acc n => logEvent .remove n acc) s) := by
  induction slots generalizing s with
  | nil => exact logged_nil h rfl rfl
  | cons n slots ih =>
    have hfirst := logEvent_logged .remove n h
    exact hfirst.trans (ih hfirst.length_le) rfl

theorem restartAlarm_emptied (s : State) : Emptied (restartAlarm s) := ⟨rfl, rfl⟩

theorem restartAlarm_alarm (s : State) : (restartAlarm s).alarm = { s.alarm with
    slots := List.replicate 64 .start, list := [], notices := [], lastPosition := none
    lastContaining := List.replicate 16 false
    log := (restartAlarm s).alarm.log, nextSeq := (restartAlarm s).alarm.nextSeq } := by
  obtain ⟨-, -, -, -, -, -, -, -, -, -, -, htime, hbound, hfirstOut⟩ := restartAlarm_frame s
  dsimp only
  rw [← htime, ← hbound, ← hfirstOut]
  rfl

theorem restartAlarm_logged {s : State} (h : s.alarm.log.length ≤ 256) :
    Logged (removals s fun _ => true) s (restartAlarm s) := by
  rw [removals, List.filter_true]
  exact (foldl_logEvent_logged _ h).congr rfl rfl rfl rfl rfl

/-! ### The line begins its first round (R122, R133) -/

/-- A round over fresh records begins with no transaction: its sweep, or its completion where there is no
STATION table (R122 to R124). -/
theorem startRound_fresh {s : State} {n : Nat} (hr : s.line.records = List.replicate n freshRecord)
    (hf : s.line.found = []) : startRound s = s.withLine { s.line with
      flight := .round
        { stage := if s.tables.active.station = none then .completing else .sweeping
          jobs := [], sweep := firstSweep, readOk := [] } } := by
  have hjobs : (s.line.records.zipIdx.flatMap fun (r, n) => writeJobs r n) = [] := by
    refine List.flatMap_eq_nil_iff.2 fun ⟨r, k⟩ hx => ?_
    have hmem : r ∈ s.line.records := List.fst_mem_of_mem_zipIdx hx
    rw [hr] at hmem
    rw [List.eq_of_mem_replicate hmem]
    rfl
  have htaken : (s.line.records.map fun r =>
      if (writeEntry r).isSome then { r with outputPending := false } else r) = s.line.records := by
    rw [hr, List.map_replicate]
    rfl
  unfold startRound
  dsimp only
  cases s.tables.active.station with
  | none => rfl
  | some image =>
    rw [hjobs, htaken]
    simp [beginSweep, setFlight, hf, State.withLine]

theorem scanPeriod_congr {s t : State} (h : t.tables = s.tables) : scanPeriod t = scanPeriod s := by
  simp [scanPeriod, stationOf, h]

/-- The line after a start (R122, R133; log entries 12 and 48). -/
theorem beginLine_line (s : State) : (beginLine s).line = {
    records := List.replicate (stationCount s) freshRecord, found := [], pointer := 0
    scanTimer := some (scanPeriod s), deferredStart := false, enrollWaiting := false, finishing := none
    flight := .round
      { stage := if s.tables.active.station = none then .completing else .sweeping
        jobs := [], sweep := firstSweep, readOk := [] } } := by
  rw [beginLine, startRound_fresh (n := stationCount s) rfl rfl]
  rfl

/-! ### Entry to WAITING (R11, R12) -/

/-- The hold frame of the entry stands behind the frame in transmission, the queue being empty (R7, R16). -/
theorem enterWaiting_drivePort {s : State} (hp : s.power = .on) (hq : s.link.drivePort.queue = [])
    (hx : s.walk.state = .startup) : (enterWaiting s).link.drivePort.frames
      = s.link.drivePort.tx.toList ++ [{ kind := .ref, bytes := holdFrameBytes 0 0 }] := by
  set x := s.withLink { s.link with cabState := .waiting, silenceTimer := none, lastCycle := none }
  have hframe : holdFrame x = { kind := .ref, bytes := holdFrameBytes 0 0 } := by
    have hw : x.walk.state = .startup := hx
    simp only [holdFrame, holdMode, hw]
    rfl
  have hoffer : (enterWaiting s).link.drivePort = offerTo 4 (holdFrame x) s.link.drivePort := by
    show (originateHold x).link.drivePort = _
    rw [originateHold_drivePort, if_pos (by simpa [x] using hp)]
    rfl
  rw [hoffer, offerTo_frames, hq, hframe]
  rfl

theorem enterWaiting_shaper (s : State) :
    (enterWaiting s).shaper = { s.shaper with lastRefs := .const 0 } := by
  show (originateHold _).shaper = _
  rw [originateHold_eq]
  rfl

/-! ### A restart, whole -/

/-- The blocks but the alarm unit at a restart (R175). -/
def restartUnits (s : State) : State :=
  (((((s.withLink (restartLink s.link)).withMgmt (restartMgmt s.mgmt)).withShaper .start).withPosition
    (restartPosition s.position)).withSwing .start).withWalk (restartWalk s.walk)

/-- The hand-off at a restart finds every condition false (R33, R160). -/
theorem restartedBlocks_eq (s : State) :
    restartedBlocks s = restartConditions (restartAlarm (restartUnits s)) := by
  set x := restartAlarm (restartUnits s) with hx
  have hposition : x.position = restartPosition s.position := by simp [hx, restartUnits]
  have hswing : x.swing = .start := by simp [hx, restartUnits]
  have hunusable (m : Motion) : usablePayout x m = none := by
    cases m <;> simp [usablePayout, payoutRecord, hposition, restartPosition, PositionUnit.start]
  have hclear : clearanceAfter none x = x.swing.clear := by
    rw [clearanceAfter_none (by rw [hswing]; rfl), hswing]
    rfl
  have hlost : positionLost x = false := by rw [positionLost, hposition]; rfl
  have htravel : travelExceeded x = false := by
    unfold travelExceeded
    split
    · simp [hunusable, beyond]
    · rfl
  have hhanded := handPosition_emptied (restartAlarm_emptied _)
    (by rw [presentPosition, ← hx, hposition]; rfl) hclear hlost htravel
  show restartConditions (handPosition x) = restartConditions x
  rw [hhanded]
  rfl

/-- The blocks but the alarm unit, as the part enters WAITING (R26, R32, R36, R56, R84, R111). -/
theorem restartedBlocks_units (s : State) :
    (restartedBlocks s).mgmt = restartMgmt s.mgmt
      ∧ (restartedBlocks s).store = s.store
      ∧ (restartedBlocks s).position = restartPosition s.position
      ∧ (restartedBlocks s).swing = .start
      ∧ (restartedBlocks s).shaper = .start := by
  simp [restartedBlocks_eq, restartConditions_shaper, restartUnits]

/-- What slots 10 and 11 are read from is kept over a restart (R188). -/
theorem restart_keeps_conditions (s : State) :
    tableAbsent (restartAlarm (restartUnits s)) = tableAbsent s
      ∧ storeFailed (restartAlarm (restartUnits s)) = storeFailed s :=
  ⟨tableAbsent_congr (by simp [restartUnits]) (by simp [restartUnits, restartWalk])
    (by simp [restartUnits]), storeFailed_congr (by simp [restartUnits])⟩

theorem raisedAnew_restart (s : State) :
    raisedAnew (restartAlarm (restartUnits s)) = raisedAnew s := by
  obtain ⟨habsent, hfailed⟩ := restart_keeps_conditions s
  rw [raisedAnew, habsent, hfailed, raisedAnew]

/-- The alarm unit as the part enters WAITING (R160). -/
theorem restartedBlocks_alarm (s : State) : (restartedBlocks s).alarm = { s.alarm with
    slots := ((List.replicate 64 .start).set 10 { condition := tableAbsent s, delay := none }).set 11
      { condition := storeFailed s, delay := none }
    list := (raisedAnew s).map fun k => { slot := k, state := .raisedUnack, time := s.alarm.time }
    notices := raisedAnew s, lastPosition := none, lastContaining := List.replicate 16 false
    log := (restartedBlocks s).alarm.log, nextSeq := (restartedBlocks s).alarm.nextSeq } := by
  obtain ⟨habsent, hfailed⟩ := restart_keeps_conditions s
  rw [restartedBlocks_eq, restartConditions_alarm (restartAlarm_emptied _) rfl, raisedAnew_restart,
    habsent, hfailed, restartAlarm_alarm]
  rfl

/-- Every entry is logged as removed, then slots 10 and 11 as raised (R154, R160). -/
theorem restartedBlocks_logged {s : State} (h : s.alarm.log.length ≤ 256) :
    Logged (removals s (fun _ => true) ++ (raisedAnew s).map fun k => (.raise, k)) s
      (restartedBlocks s) := by
  have hremoved := restartAlarm_logged (s := restartUnits s) h
  have hraised := restartConditions_logged (restartAlarm_emptied (restartUnits s)) rfl hremoved.length_le
  rw [raisedAnew_restart] at hraised
  rw [restartedBlocks_eq]
  exact (hremoved.trans hraised (by simp)).congr rfl rfl rfl rfl rfl

/-- The slots after a restart: the conditions of 10 and 11, and every other IDLE (R160). -/
theorem restartedBlocks_slots (s : State) {n : Nat} (h10 : n ≠ 10) (h11 : n ≠ 11) :
    slotOf (restartedBlocks s) n = { condition := false, delay := none } := by
  rw [slotOf, restartedBlocks_alarm, List.getD_eq_getElem?_getD, List.getElem?_set_ne h11.symm,
    List.getElem?_set_ne h10.symm, List.getElem?_replicate]
  split <;> rfl

theorem mem_raisedAnew {s : State} {n : Nat} (h : n ∈ raisedAnew s) : n = 10 ∨ n = 11 := by
  have hraised : tableAbsent s = true ∧ n = 10 ∨ storeFailed s = true ∧ n = 11 := by
    simpa [raisedAnew, raisedIf] using h
  exact hraised.imp And.right And.right

/-- What a restart leaves of every block, the ports open. -/
theorem restarted_restartEffect {s : State} (hp : s.power = .on) : Restarted s (restartEffect s) := by
  obtain ⟨hpower, hlink, hwalk, htables⟩ := restartedBlocks_frame s
  obtain ⟨hmgmt, hstore, hposition, hswing, hshaper⟩ := restartedBlocks_units s
  have halarm := restartedBlocks_alarm s
  have hslots (n : Nat) := @restartedBlocks_slots s n
  have hlogged := @restartedBlocks_logged s
  rw [restartEffect_eq]
  generalize restartedBlocks s = y at *
  have hentered : (enterWaiting y).tables = s.tables := by simp [htables]
  have hline := beginLine_line (enterWaiting y)
  rw [stationCount_congr (s := s) (by rw [hentered]), scanPeriod_congr hentered, hentered] at hline
  have hholdTimer : (enterWaiting y).link.holdTimer = some (plantOf s).holdInterval := by
    rw [← plantOf_congr hentered]
    rfl
  have hdrive := enterWaiting_drivePort (s := y) (hpower.trans hp) (by rw [hlink]; rfl)
    (by rw [hwalk]; rfl)
  refine ⟨?mgmt, ?tables, ?store, ?power, ?cabState, ?silence, ?lastCycle, ?origin, ?holdTimer, ?cabPort,
    ?held, ?drivePort, ?drives, ?position, ?shaper, ?swing, ?walk, ?records, ?scanTimer, ?pointer, ?found,
    ?deferredStart, ?enrollWaiting, ?finishing, ?flight, ?entries, ⟨?list, ?notices, fun h => ?log⟩,
    fun n h10 h11 => ?slots, ?lastPosition, ?lastContaining, ?time, ?bound, ?firstOut⟩
  case records | scanTimer | pointer | found | deferredStart | enrollWaiting | finishing | flight =>
    rw [hline]
  case log => exact (hlogged h).congr rfl rfl rfl (by simp) (by simp)
  case slots => exact (slotOf_congr (by simp) n).trans (hslots n h10 h11)
  case mgmt => simp [hmgmt, restartMgmt]
  case tables => simp [htables]
  case store => simp [hstore]
  case power => simp [hpower]
  case cabState | silence | lastCycle => simp [enterWaiting]
  case origin => simp only [beginLine_frame]; rfl
  case holdTimer => simp only [beginLine_frame, hholdTimer]
  case cabPort | held => simp [hlink, restartLink]
  case drivePort => simp only [beginLine_frame, hdrive, hlink]; rfl
  case drives => intro m; cases m <;> simp [hlink, restartLink] <;> rfl
  case position => simp [hposition, restartPosition]
  case shaper => simp only [beginLine_frame, enterWaiting_shaper, hshaper]; rfl
  case swing => simp [hswing]
  case walk => simp [hwalk, restartWalk]
  all_goals simp only [beginLine_frame, enterWaiting_frame]
  case entries =>
    rw [halarm]
    intro e he
    obtain ⟨n, hn, rfl⟩ := List.mem_map.1 he
    exact mem_raisedAnew hn
  case list | notices => rw [halarm]; rfl
  case lastPosition | lastContaining | time | bound | firstOut => rw [halarm]

/-- The confirmation of RESTART has left the cab port where no frame there is one (R174). -/
theorem confirmationOnItsWay_false {s : State}
    (h : ∀ q ∈ s.link.cabPort.frames, isRestartConfirmation q = false) :
    confirmationOnItsWay s = false := by
  have hqueue : s.link.cabPort.queue.any isRestartConfirmation = false :=
    List.any_eq_false.2 fun q hq => by simp [h q (List.mem_append_right _ hq)]
  have htx : s.link.cabPort.tx.any isRestartConfirmation = false := by
    cases hq : s.link.cabPort.tx with
    | none => rfl
    | some q => exact h q (List.mem_append_left _ (by simp [hq]))
  rw [confirmationOnItsWay, hqueue, htx]
  rfl

/-- Settles O58: the restart is due, and each block applies its own. -/
theorem restartTakesEffect : Obligations.RestartTakesEffect := by
  unfold Obligations.RestartTakesEffect
  intro s hp hpending _ hleft _
  refine ⟨restartEffect s, ?_, restarted_restartEffect hp⟩
  have hdue : restartDue s = true := by
    simp [restartDue, portsOpen, hp, hpending, confirmationOnItsWay_false hleft]
  simp [exec, execRestartTakesEffect, hdue]

end Sys2Proof.Machine
end

section
/-! SUPPORT. What each command can do to the tables, the staging buffer, the retained store, the key and the
lock, said once (R167, R168 to R172, R177 to R182, R187), and what follows from it: the images, the lock and
the store stay as their rules have them. -/

namespace Sys2Proof.Machine

/-! ### What is left alone -/

/-- Between two states the tables, the retained store, the key, the lock and the attempts count stand; the
staging buffer stands or is emptied, and the deferred-store byte is not raised. A part without supply stays
without. -/
structure LeavesRetained (s t : State) : Prop where
  tables : t.tables = s.tables
  store : t.store = s.store
  lock : t.mgmt.lock = s.mgmt.lock
  key : t.mgmt.key = s.mgmt.key
  attempts : t.mgmt.attempts = s.mgmt.attempts
  staging : t.mgmt.staging = s.mgmt.staging ∨ t.mgmt.staging = .empty
  deferredStore : t.mgmt.deferredStore ≤ s.mgmt.deferredStore
  power : t.power ≠ .off → s.power ≠ .off

theorem LeavesRetained.refl (s : State) : LeavesRetained s s :=
  ⟨rfl, rfl, rfl, rfl, rfl, .inl rfl, le_rfl, id⟩

theorem LeavesRetained.trans {s t u : State} (h : LeavesRetained s t) (h' : LeavesRetained t u) :
    LeavesRetained s u where
  tables := h'.tables.trans h.tables
  store := h'.store.trans h.store
  lock := h'.lock.trans h.lock
  key := h'.key.trans h.key
  attempts := h'.attempts.trans h.attempts
  staging := by
    rcases h'.staging with he | he
    · rw [he]
      exact h.staging
    · exact .inr he
  deferredStore := h'.deferredStore.trans h.deferredStore
  power := h.power ∘ h'.power

/-- An operation that does not reach the management unit. -/
theorem leavesRetained_of_mgmt {s t : State} (hp : t.power = s.power) (ht : t.tables = s.tables)
    (hs : t.store = s.store) (hm : t.mgmt = s.mgmt) : LeavesRetained s t where
  tables := ht
  store := hs
  lock := by rw [hm]
  key := by rw [hm]
  attempts := by rw [hm]
  staging := .inl (by rw [hm])
  deferredStore := by rw [hm]
  power := by rw [hp]; exact id

/-- A confirmation makes the deferred-store byte 0, or leaves it (R165, R191). -/
theorem confirm_deferredStore_le (d : Bool) (code : Nat) (tag : Byte) (o : ReqOutcome) (data : List Byte)
    (s : State) : (confirm d code tag o data s).mgmt.deferredStore ≤ s.mgmt.deferredStore := by
  unfold confirm
  dsimp only
  split
  · cases d <;> simp
  · exact le_rfl

theorem leavesRetained_confirm (d : Bool) (code : Nat) (tag : Byte) (o : ReqOutcome) (data : List Byte)
    (s : State) : LeavesRetained s (confirm d code tag o data s) where
  deferredStore := confirm_deferredStore_le d code tag o data s
  tables := by simp
  store := by simp
  lock := by simp
  key := by simp
  attempts := by simp
  staging := .inl (by simp)
  power := by simp

theorem leavesRetained_endEnrollment (list : List Identity) (more : Bool) (s : State) :
    LeavesRetained s (endEnrollment list more s) := by
  have hidle : LeavesRetained s (setFlight .idle s) := leavesRetained_of_mgmt rfl rfl rfl rfl
  unfold endEnrollment
  dsimp only
  split
  case h_1 => exact hidle
  case h_2 o _ =>
    have hconfirmed := hidle.trans
      (leavesRetained_confirm true o.code o.tag .accepted (enrollData more list) _)
    exact hconfirmed.trans ⟨rfl, rfl, rfl, rfl, rfl, .inl rfl, le_rfl, id⟩

theorem leavesRetained_seekDone (x : PassAnswer) (s : State) : LeavesRetained s (seekDone x s) := by
  have hflight (f : Flight) : LeavesRetained s (setFlight f s) := leavesRetained_of_mgmt rfl rfl rfl rfl
  have hend (list : List Identity) (more : Bool) := leavesRetained_endEnrollment list more s
  refine completion_keeps (P := LeavesRetained s) (.refl s) (leavesRetained_of_mgmt rfl rfl rfl rfl)
    fun _ => ?_
  unfold seekRecorded
  split
  · unfold completeSeek
    dsimp only
    (repeat' split) <;> simp only [hend, hflight]
  · exact .refl s
  · exact .refl s

/-- A restart empties the buffer (R175, R178), and keeps the rest (R188). -/
theorem leavesRetained_restartEffect (s : State) : LeavesRetained s (restartEffect s) := by
  obtain ⟨hmgmt, hstore, -, -, -⟩ := restartedBlocks_units s
  have hmgmt : (restartEffect s).mgmt = restartMgmt s.mgmt := by simp [restartEffect_eq, hmgmt]
  exact {
    tables := by simp [restartEffect_eq]
    store := by simp [restartEffect_eq, hstore]
    lock := by rw [hmgmt]; rfl
    key := by rw [hmgmt]; rfl
    attempts := by rw [hmgmt]; rfl
    staging := .inr (by rw [hmgmt]; rfl)
    deferredStore := by rw [hmgmt]; exact le_rfl
    power := by simp [restartEffect_eq] }

/-! ### What a command that is no request can do -/

/-- A command that is no request leaves all this, or it completes the retained write in flight, starts the
part, or is the loss of supply. -/
inductive RetainedMove (s t : State) : Prop
  | leaves (h : LeavesRetained s t)
  | finishes (success : Bool) (x : State) (h : LeavesRetained s x) (ht : t = finishWrite success x)
  | starts (found : List FoundItem) (ht : t = powerOn found s)
  | darkens (ht : t = State.dark s.store.dark s.pending)

theorem retainedMove_of_guard {s x t : State} {b : Prop} [Decidable b]
    (he : (Host.Outcome.next (if b then x else s) : Host.Outcome State Fault Refusal) = .next t)
    (hx : b → LeavesRetained s x) : RetainedMove s t :=
  keeps_of_guard (P := RetainedMove s) (.leaves (.refl s)) (fun hb => .leaves (hx hb)) he

theorem takeStat_retained (m : Motion) (f : List Byte) (s : State) :
    (takeStat m f s).power = s.power ∧ (takeStat m f s).store = s.store
      ∧ (takeStat m f s).mgmt = s.mgmt := by
  rw [takeStat_eq]
  unfold statBegun
  split <;> simp

theorem retainedMove_exec {c : Instr} {s t : State} (hq : requestOf c = none) (he : exec c s = .next t) :
    RetainedMove s t := by
  cases c with
  | frameDiscarded | mreqDiscarded => cases he; exact .leaves (.refl s)
  | statTaken f =>
    refine retainedMove_of_guard he fun _ => ?_
    split
    · obtain ⟨hpower, hstore, hmgmt⟩ := takeStat_retained ‹_› f s
      exact leavesRetained_of_mgmt hpower (by simp [takeStat_eq]) hstore hmgmt
    · exact .refl s
    · exact .refl s
  | seekPass x => exact retainedMove_of_guard he fun _ => leavesRetained_seekDone x s
  | restartTakesEffect => exact retainedMove_of_guard he fun _ => leavesRetained_restartEffect s
  | briefSupplyDipEnd =>
    refine retainedMove_of_guard he fun hdip => ?_
    have hon : LeavesRetained s (s.withPower .on) :=
      ⟨rfl, rfl, rfl, rfl, rfl, .inl rfl, le_rfl, by simp [hdip]⟩
    unfold dipEnd
    dsimp only
    split
    · exact hon.trans (leavesRetained_restartEffect _)
    · exact hon
  | retainedWriteCompletion success =>
    exact keeps_of_guard (P := RetainedMove s) (.leaves (.refl s))
      (fun _ => .finishes success s (.refl s) rfl) he
  | briefSupplyDipStart =>
    refine keeps_of_guard (P := RetainedMove s) (.leaves (.refl s)) (fun hon => ?_) he
    have hcut : LeavesRetained s ((s.withPower .dip).withLink (cutPorts s.link)) :=
      ⟨rfl, rfl, rfl, rfl, rfl, .inl rfl, le_rfl, by simp [hon]⟩
    exact .finishes false _ hcut rfl
  | powerOnStart found => cases he; exact .starts found rfl
  | supplyLoss => cases he; exact .darkens rfl
  | refTakenFromCab f =>
    exact retainedMove_of_guard he fun _ => leavesRetained_of_mgmt (by simp [takeRef])
      (by simp [takeRef]) (by simp [takeRef]) (by simp [takeRef])
  | passTraffic | transmissionCompletion | deferredConfirmationOffered | cabSilenceTimerExpiry
  | holdTimerExpiry | driveSilenceTimerExpiry | transferTimerExpiry | scanTimerExpiry
  | deferredRoundStart | enrollmentSweepStart | writeOutputs | writeCondition | readClearing
  | seekIfPass | roundCompletion | delayTimerExpiry | timeCounterTick =>
    exact retainedMove_of_guard he fun _ =>
      leavesRetained_of_mgmt (by simp) (by simp) (by simp) (by simp)
  | _ => simp [requestOf] at hq

/-! ### What the owner of a request can do -/

/-- What the lock may become without a new key: frozen, or locked or unlocked where it was one of them, a key
being held (R169, R171, R172). -/
def LockMoves (l l' : Lock) : Prop :=
  l' = l ∨ l' = .frozen ∨ (l = .locked ∨ l = .unlocked) ∧ (l' = .locked ∨ l' = .unlocked)

/-- A key with the lock state it goes with: a key set is of 16 bytes and unlocks, a key cleared opens (R168,
R170). -/
def KeyGoesWith (key : Option (List Byte)) (l : Lock) : Prop :=
  (∃ p, key = some p ∧ p.length = 16 ∧ l = .unlocked) ∨ key = none ∧ l = .open

/-- What R178 asks of the staging buffer. -/
def StagingFits : Staging → Prop
  | .empty => True
  | .open k total bytes => lengthFits k total = true ∧ bytes.length ≤ total
  | .staged k image => imageValid k image = true

/-- The owner of a request leaves all this but in the requests on the staging buffer, on the lock and the key,
a TABLE COMMIT, and a LIMITS SET that retains. A retained write starts only where none is in flight (R187). -/
inductive OwnerMove (s t : State) : Prop
  | leaves (h : LeavesRetained s t)
  | stages (x : Staging) (hx : StagingFits s.mgmt.staging → StagingFits x) (ht : t = setStaging x s)
  | commits (k : Kind) (image : Image) (hstaged : s.mgmt.staging = .staged k image)
      (hfree : s.store.inFlight = none) (h : LeavesRetained (commitTable k image s) t)
  | retains (l : Limits) (hfree : s.store.inFlight = none) (h : LeavesRetained (startWrite (.limits l) s) t)
  | locks (l : Lock) (n : Nat) (hl : LockMoves s.mgmt.lock l) (hn : n ≤ s.mgmt.attempts)
      (ht : t = s.withMgmt { s.mgmt with lock := l, attempts := n })
  | keys (key : Option (List Byte)) (l : Lock) (n : Nat) (hk : KeyGoesWith key l)
      (hn : n = 5 ∨ n = s.mgmt.attempts) (hfree : s.store.inFlight = none)
      (ht : t = startWrite (.key key) (s.withMgmt { s.mgmt with key := key, attempts := n, lock := l }))


theorem writing_eq_false {s : State} (h : ¬ writing s = true) : s.store.inFlight = none := by
  simpa [writing] using h

theorem ownerMove_tableBegin (p : List Byte) (s : State) : OwnerMove s (tableBegin p s).1 := by
  unfold tableBegin
  split
  · exact .leaves (.refl s)
  dsimp only
  split
  · exact .stages (.open _ _ []) (fun _ => ⟨‹_›, Nat.zero_le _⟩) rfl
  · exact .leaves (.refl s)

/-- A TABLE BLOCK of the length its data byte says appends at most up to the total length (R163, R180). -/
theorem ownerMove_tableBlock {p : List Byte} (hp : blockSized p = true) (s : State) :
    OwnerMove s (tableBlock p s).1 := by
  have hlen : p.length = 3 + u8At p 2 := by
    simp only [blockSized, Bool.and_eq_true, beq_iff_eq] at hp
    exact hp.2
  unfold tableBlock
  dsimp only
  split
  · exact .leaves (.refl s)
  split
  case h_1 k total bytes hopen =>
    split
    · exact .leaves (.refl s)
    split
    · exact .stages .empty (fun _ => trivial) rfl
    · refine .stages _ (fun hfits => ?_) rfl
      rw [hopen] at hfits
      refine ⟨hfits.1, ?_⟩
      rw [List.length_append, List.length_drop, hlen]
      omega
  · exact .leaves (.refl s)
  · exact .leaves (.refl s)

/-- A TABLE END leaves an image STAGED that has passed every check (R181). -/
theorem ownerMove_tableEnd (s : State) : OwnerMove s (tableEnd s).1 := by
  unfold tableEnd
  split
  case h_1 k total bytes hopen =>
    split
    · exact .leaves (.refl s)
    split
    · exact .stages .empty (fun _ => trivial) rfl
    split
    · exact .stages .empty (fun _ => trivial) rfl
    · refine .stages _ (fun hfits => ?_) rfl
      rename_i hfull htrailer _ hcontent
      rw [hopen] at hfits
      obtain ⟨hlength, -⟩ := hfits
      simp_all [StagingFits, imageValid]
  · exact .leaves (.refl s)
  · exact .leaves (.refl s)

theorem stagedFor_staging {s : State} {code : Nat} {k : Kind} {image : Image}
    (h : stagedFor code s = some (k, image)) : s.mgmt.staging = .staged k image := by
  unfold stagedFor at h
  split at h
  · obtain ⟨-, hsame⟩ := Option.ite_none_right_eq_some.1 h
    cases hsame
    assumption
  · cases h
  · cases h

theorem ownerMove_tableCommit (tag : Byte) (p : List Byte) (s : State) :
    OwnerMove s (tableCommit tag p s).1 := by
  unfold tableCommit
  split
  · exact .leaves (.refl s)
  split
  · exact .leaves (.refl s)
  rename_i k image hst
  split
  · exact .leaves (.refl s)
  split
  · exact .leaves (.refl s)
  have hmoves (t : State) (h : LeavesRetained (commitTable k image s) t) : OwnerMove s t :=
    .commits k image (stagedFor_staging hst) (writing_eq_false ‹_›) h
  dsimp only
  split
  · exact hmoves _ ⟨rfl, rfl, rfl, rfl, rfl, .inl rfl, le_rfl, id⟩
  · exact hmoves _ (.refl _)

theorem ownerMove_limitsSet (p : List Byte) (s : State) : OwnerMove s (limitsSet p s).1 := by
  have haccepted (l : Limits) (retain : Bool) (h : retain = true → s.store.inFlight = none) :
      OwnerMove s (acceptLimits l retain s) := by
    cases retain with
    | false => exact .leaves (leavesRetained_of_mgmt (by simp) (by simp) (by simp) (by simp))
    | true =>
      refine .retains l (h rfl) ?_
      exact ⟨by simp, by simp [startWrite], by simp, by simp, by simp, .inl (by simp), by simp, by simp⟩
  unfold limitsSet
  dsimp only
  (repeat' split)
  on_goal 7 =>
    refine haccepted _ _ fun h => writing_eq_false fun hw => ?_
    rename_i hbusy
    exact hbusy ⟨by simpa using h, hw⟩
  all_goals exact .leaves (.refl s)

theorem ownerMove_keySet {p : List Byte} (hp : p.length = 16) (s : State) :
    OwnerMove s (keySet p s).1 := by
  unfold keySet
  split
  · exact .leaves (.refl s)
  · exact .keys (some p) .unlocked 5 (.inl ⟨p, rfl, hp, rfl⟩) (.inl rfl) (writing_eq_false ‹_›) rfl

theorem ownerMove_keyClear (s : State) : OwnerMove s (keyClear s).1 := by
  unfold keyClear
  split
  case h_4 =>
    split
    · exact .leaves (.refl s)
    · exact .keys none .open s.mgmt.attempts (.inr ⟨rfl, rfl⟩) (.inr rfl) (writing_eq_false ‹_›) rfl
  all_goals exact .leaves (.refl s)

theorem ownerMove_keyUnlock (p : List Byte) (s : State) : OwnerMove s (keyUnlock p s).1 := by
  refine .locks _ _ ?_ ?_ rfl
  · unfold unlockMove LockMoves
    (repeat' split) <;> simp_all
  · unfold unlockMove
    (repeat' split) <;> simp_all

theorem ownerMove_guardLock (s : State) : OwnerMove s (guardLock s).1 := by
  refine .locks (guardMove s.mgmt.lock).1 s.mgmt.attempts ?_ le_rfl rfl
  unfold LockMoves guardMove
  cases s.mgmt.lock <;> simp

/-- What the owner of a request can do, its parameters being of a length that its code has (R163). -/
theorem ownerMove_run {c : Instr} {q : Nat × Rules × List Byte} (hq : requestOf c = some q) {p : List Byte}
    (hp : q.2.1.sized p = true) (tag : Byte) (s : State) : OwnerMove s (q.2.1.run tag p s).1 := by
  cases c
  all_goals cases hq
  case tableBegin => exact ownerMove_tableBegin p s
  case tableBlock => exact ownerMove_tableBlock hp s
  case tableEnd => exact ownerMove_tableEnd s
  case tableCommit => exact ownerMove_tableCommit tag p s
  case limitsSet => exact ownerMove_limitsSet p s
  case keySet => exact ownerMove_keySet (by simpa [keySetRules, fixed] using hp) s
  case keyUnlock => exact ownerMove_keyUnlock p s
  case keyClear => exact ownerMove_keyClear s
  case guard => exact ownerMove_guardLock s
  case freeze => exact .locks .frozen s.mgmt.attempts (.inr (.inl rfl)) le_rfl rfl
  case restart => exact .leaves ⟨rfl, rfl, rfl, rfl, rfl, .inl rfl, le_rfl, id⟩
  case stationEnroll =>
    exact .leaves ⟨by simp [stationEnrollRules], by simp [stationEnrollRules], by simp [stationEnrollRules],
      by simp [stationEnrollRules], by simp [stationEnrollRules], .inl (by simp [stationEnrollRules]),
      by simp [stationEnrollRules], by simp [stationEnrollRules]⟩
  case stationOutput | alarmAcknowledge | alarmReAnnounce | firstOutClear =>
    refine .leaves (leavesRetained_of_mgmt ?_ ?_ ?_ ?_)
    all_goals simp [stationOutputRules, alarmAcknowledgeRules, alarmReAnnounceRules, firstOutClearRules]
  case tableRead | stationStatus | alarmListRead | logRead =>
    refine .leaves (leavesRetained_of_mgmt ?_ ?_ ?_ ?_)
    all_goals simp [tableReadRules, stationStatusRules, alarmListReadRules, logReadRules]
  all_goals exact .leaves (.refl s)

/-! ### Every command -/

/-- The path of a request leaves what its owner leaves (R161, R164). -/
theorem leavesRetained_answerRequest (code : Nat) (tag : Byte) (a : State × Answer) :
    LeavesRetained a.1 (answerRequest code tag a) := by
  have hmgmt (flag : Bool) : LeavesRetained a.1 (a.1.withMgmt { a.1.mgmt with seqFlag := flag }) :=
    ⟨rfl, rfl, rfl, rfl, rfl, .inl rfl, le_rfl, id⟩
  unfold answerRequest
  split
  · exact (hmgmt _).trans (leavesRetained_confirm _ _ _ _ _ _)
  · exact hmgmt false

/-- A predicate that survives what leaves all this, what an owner does, and a completion, a start and a loss
of supply, is kept by every command. -/
theorem retained_exec {P : State → Prop} (hleaves : ∀ s t, P s → LeavesRetained s t → P t)
    (howner : ∀ s t, P s → OwnerMove s t → P t)
    (hfinishes : ∀ success s, P s → P (finishWrite success s))
    (hstarts : ∀ found s, P (powerOn found s))
    (hdarkens : ∀ s : State, P (State.dark s.store.dark s.pending))
    {c : Instr} {s t : State} (h : P s) (he : exec c s = .next t) : P t := by
  rcases hq : requestOf c with _ | ⟨code, r, f⟩
  case none =>
    cases retainedMove_exec hq he with
    | leaves hl => exact hleaves s t h hl
    | finishes success x hl ht => exact ht ▸ hfinishes success x (hleaves s x h hl)
    | starts found ht => exact ht ▸ hstarts found s
    | darkens ht => exact ht ▸ hdarkens s
  case some =>
    rcases exec_requestOf hq he with rfl | rfl
    case inr => exact h
    have hchecked : P (checkRequest r f s).1 := by
      unfold checkRequest
      split
      · exact h
      split
      · exact h
      · rename_i hsized _
        exact howner s _ h (ownerMove_run hq (by simpa using hsized) _ s)
    unfold takeRequest
    split
    · exact hleaves _ _ hchecked (leavesRetained_answerRequest _ _ _)
    · exact h

/-! ### The images (R177, R178, R181, R189) -/

/-- Every active image is valid. -/
def ActiveValid (s : State) : Prop :=
  ∀ k image, s.tables.active.get k = some image → imageValid k image = true

theorem imagesInv_iff (s : State) : ImagesInv s ↔ ActiveValid s ∧ StagingFits s.mgmt.staging := by
  unfold ImagesInv StagingFits
  exact and_congr_right fun _ => by split <;> simp_all

theorem imagesInv_of_leaves {s t : State} (h : ImagesInv s) (hl : LeavesRetained s t) : ImagesInv t := by
  rw [imagesInv_iff] at h ⊢
  refine ⟨?_, ?_⟩
  · rw [ActiveValid, hl.tables]
    exact h.1
  · rcases hl.staging with hs | hs <;> rw [hs]
    · exact h.2
    · trivial

/-- After the steps of a commit the image is the active one of its kind, and the buffer is EMPTY (R182). -/
theorem commitEffects_tables (k : Kind) (image : Image) (s : State) :
    (commitEffects k image s).tables = (activate k image s).tables
      ∧ (commitEffects k image s).mgmt = (activate k image s).mgmt := by
  cases k <;> simp [commitEffects, commitSwing, commitAlarm, commitStation, activate]

theorem commitTable_tables (k : Kind) (image : Image) (s : State) :
    (commitTable k image s).tables = (activate k image s).tables
      ∧ (commitTable k image s).mgmt = (activate k image s).mgmt := by
  simp [commitTable, commitEffects_tables]

theorem imagesInv_commitTable {s : State} (h : ImagesInv s) {k : Kind} {image : Image}
    (hstaged : s.mgmt.staging = .staged k image) : ImagesInv (commitTable k image s) := by
  obtain ⟨htables, hmgmt⟩ := commitTable_tables k image s
  rw [imagesInv_iff, hstaged] at h
  obtain ⟨hactive, hvalid⟩ := h
  rw [imagesInv_iff, hmgmt]
  refine ⟨fun k' image' hk' => ?_, trivial⟩
  rw [htables, activate, State.withMgmt_tables, State.withTables_tables, PerKind.get_set] at hk'
  split at hk'
  · rename_i hk
    cases hk'
    exact hk ▸ hvalid
  · exact hactive k' image' hk'

theorem imagesInv_owner {s t : State} (h : ImagesInv s) (ho : OwnerMove s t) : ImagesInv t := by
  cases ho with
  | leaves hl => exact imagesInv_of_leaves h hl
  | stages x hx ht =>
    rw [imagesInv_iff] at h ⊢
    exact ht ▸ ⟨h.1, hx h.2⟩
  | commits k image hstaged _ hl => exact imagesInv_of_leaves (imagesInv_commitTable h hstaged) hl
  | retains l _ hl => exact imagesInv_of_leaves (s := startWrite (.limits l) s) h hl
  | locks l n _ _ ht => exact ht ▸ h
  | keys key l n _ _ _ ht => exact ht ▸ h

theorem perKind_get {α : Type} (f : Kind → α) (k : Kind) : (perKind f).get k = f k := by cases k <;> rfl

/-- Stages 1 to 3 of a power-on start settle the tables and the management unit from the store (R190). -/
theorem powerOn_settled (found : List FoundItem) (s : State) :
    (powerOn found s).power = .on
      ∧ (powerOn found s).store = presentedStore s.store found
      ∧ (powerOn found s).tables
        = { Tables.start with active := (presentedStore s.store found).images }
      ∧ (powerOn found s).mgmt = { Management.start with
          lock := if (presentedStore s.store found).keyCopy.isSome then .locked else .open
          key := (presentedStore s.store found).keyCopy } := by
  simp [powerOn_eq, startedBlocks, settleStart, State.dark]

theorem imagesInv_powerOn (found : List FoundItem) (s : State) : ImagesInv (powerOn found s) := by
  obtain ⟨-, -, htables, hmgmt⟩ := powerOn_settled found s
  rw [imagesInv_iff, hmgmt]
  refine ⟨fun k image hk => ?_, trivial⟩
  rw [htables] at hk
  simp only [presentedStore, validateStore, perKind_get, validImage] at hk
  exact (Option.filter_eq_some_iff.1 hk).2

theorem imagesInv_dark (store : RetainedStore) (pending : List Instr) :
    ImagesInv (State.dark store pending) :=
  ⟨fun k _ hk => (by cases k <;> cases hk), trivial⟩

theorem imagesInv_exec {c : Instr} {s t : State} (h : ImagesInv s) (he : exec c s = .next t) :
    ImagesInv t := by
  refine retained_exec (P := ImagesInv) (fun _ _ => imagesInv_of_leaves) (fun _ _ => imagesInv_owner)
    (fun success s h => ?_) imagesInv_powerOn (fun _ => imagesInv_dark _ _) h he
  rw [imagesInv_iff, ActiveValid] at h ⊢
  simpa using h

/-! ### The lock (R167 to R172, R176) -/

theorem lockInv_of_leaves {s t : State} (h : LockInv s) (hl : LeavesRetained s t) : LockInv t := by
  unfold LockInv at h ⊢
  rw [hl.lock, hl.key, hl.attempts]
  obtain ⟨hattempts, hopen, hlocked, hunlocked, hlength, hbyte⟩ := h
  exact ⟨hattempts, hopen, hlocked, hunlocked, hlength, hl.deferredStore.trans hbyte⟩

theorem lockInv_moves {s : State} (h : LockInv s) {l : Lock} {n : Nat} (hl : LockMoves s.mgmt.lock l)
    (hn : n ≤ s.mgmt.attempts) : LockInv (s.withMgmt { s.mgmt with lock := l, attempts := n }) := by
  obtain ⟨hattempts, hopen, hlocked, hunlocked, hlength, hbyte⟩ := h
  have hkey : l = .locked ∨ l = .unlocked → s.mgmt.key.isSome = true := by
    rintro hl'
    rcases hl with rfl | rfl | ⟨hs | hs, -⟩
    · exact hl'.elim hlocked hunlocked
    · simp at hl'
    · exact hlocked hs
    · exact hunlocked hs
  have hstays : l = .open → s.mgmt.lock = .open := by
    rintro rfl
    rcases hl with hl | hl | ⟨-, hl | hl⟩
    · exact hl.symm
    all_goals cases hl
  exact ⟨hn.trans hattempts, fun ho => hopen (hstays ho), fun ho => hkey (.inl ho), fun ho => hkey (.inr ho),
    hlength, hbyte⟩

theorem lockInv_keys {s : State} (h : LockInv s) {key : Option (List Byte)} {l : Lock} {n : Nat}
    (hk : KeyGoesWith key l) (hn : n = 5 ∨ n = s.mgmt.attempts) :
    LockInv (s.withMgmt { s.mgmt with key := key, attempts := n, lock := l }) := by
  obtain ⟨hattempts, -, -, -, -, hbyte⟩ := h
  have hcount : n ≤ 5 := by omega
  rcases hk with ⟨p, rfl, hp, rfl⟩ | ⟨rfl, rfl⟩
  · exact ⟨hcount, by simp, by simp, by simp, by simp [hp], hbyte⟩
  · exact ⟨hcount, by simp, by simp, by simp, by simp, hbyte⟩

theorem lockInv_owner {s t : State} (h : LockInv s) (ho : OwnerMove s t) : LockInv t := by
  cases ho with
  | leaves hl => exact lockInv_of_leaves h hl
  | stages x _ ht => exact ht ▸ h
  | commits k image _ _ hl =>
    refine lockInv_of_leaves ?_ hl
    unfold LockInv
    rw [(commitTable_tables k image s).2]
    exact h
  | retains l _ hl => exact lockInv_of_leaves (s := startWrite (.limits l) s) h hl
  | locks l n hl hn ht => exact ht ▸ lockInv_moves h hl hn
  | keys key l n hk hn _ ht => exact ht ▸ lockInv_keys h hk hn

theorem itemCode_le (w : Write) : itemCode w ≤ 9 := by
  cases w with
  | image k _ => cases k <;> simp [itemCode, kindCode]
  | key | limits => simp [itemCode]

/-- A completion leaves the lock; the byte is the item's code at most (R165). -/
theorem lockInv_finishWrite {s : State} (h : LockInv s) (success : Bool) :
    LockInv (finishWrite success s) := by
  unfold finishWrite
  split
  · exact h
  rename_i w _
  have hreport : LockInv (reportWrite w success (settleItem w success s)) := by
    have hsettled : LockInv (settleItem w success s) := h
    unfold reportWrite
    split
    · exact lockInv_of_leaves hsettled ((leavesRetained_confirm _ _ _ _ _ _).trans
        ⟨rfl, rfl, rfl, rfl, rfl, .inl rfl, le_rfl, id⟩)
    · split
      · exact hsettled
      · obtain ⟨hattempts, hopen, hlocked, hunlocked, hlength, -⟩ := hsettled
        exact ⟨hattempts, hopen, hlocked, hunlocked, hlength, itemCode_le w⟩
  exact lockInv_of_leaves hreport (leavesRetained_of_mgmt (by simp) (by simp) (by simp) (by simp))

theorem lockInv_powerOn (found : List FoundItem) (s : State) : LockInv (powerOn found s) := by
  obtain ⟨-, -, -, hmgmt⟩ := powerOn_settled found s
  unfold LockInv
  rw [hmgmt]
  have hlength (key : List Byte) (hkey : (presentedStore s.store found).keyCopy = some key) :
      key.length = 16 := by simpa using (Option.filter_eq_some_iff.1 hkey).2
  cases hfound : (presentedStore s.store found).keyCopy with
  | none => simp [Management.start]
  | some key => simp [Management.start, hlength key hfound]

theorem lockInv_dark (store : RetainedStore) (pending : List Instr) : LockInv (State.dark store pending) := by
  simp [LockInv, State.dark, Management.start]

theorem lockInv_exec {c : Instr} {s t : State} (h : LockInv s) (he : exec c s = .next t) : LockInv t :=
  retained_exec (P := LockInv) (fun _ _ => lockInv_of_leaves) (fun _ _ => lockInv_owner)
    (fun success _ h => lockInv_finishWrite h success) lockInv_powerOn (fun _ => lockInv_dark _ _) h he

/-- Settles O55: what leaves the tables, the buffer and the lock keeps both, and so do the owners that reach
them, the completions and the starts. -/
theorem imagesAndLockKept : Obligations.ImagesAndLockKept :=
  ⟨fun _ _ _ => imagesInv_exec, fun _ _ _ => lockInv_exec⟩

/-! ### The retained store (R186 to R188) -/

/-- The invariant of the store, of the parts of the state that it reads (R167, R186). -/
structure StoreFits (st : RetainedStore) (active : PerKind (Option Image)) (key : Option (List Byte)) :
    Prop where
  images : ∀ k, StatusFits (st.images.get k).isSome (st.imageStatus.get k)
  keyCopy : StatusFits st.keyCopy.isSome st.keyStatus
  limitsCopy : StatusFits st.limitsCopy.isSome st.limitsStatus
  imageWriting : ∀ k, st.imageStatus.get k = .writing ↔ ∃ b, st.inFlight = some (.image k b)
  keyWriting : st.keyStatus = .writing ↔ ∃ v, st.inFlight = some (.key v)
  limitsWriting : st.limitsStatus = .writing ↔ ∃ l, st.inFlight = some (.limits l)
  imageActive : ∀ k b, st.images.get k = some b → active.get k = some b
  writtenActive : ∀ k b, st.inFlight = some (.image k b) → active.get k = some b
  keyHeld : ∀ v, st.keyCopy = some v → key = some v
  writtenKey : ∀ v, st.inFlight = some (.key v) → key = v

theorem storeInv_iff (s : State) :
    StoreInv s ↔ (s.power ≠ .off → StoreFits s.store s.tables.active s.mgmt.key) := by
  refine forall_congr' fun _ => ⟨?_, ?_⟩
  · rintro ⟨h1, h2, h3, h4, h5, h6, h7, h8, h9, h10⟩
    exact ⟨h1, h2, h3, h4, h5, h6, h7, h8, h9, h10⟩
  · rintro ⟨h1, h2, h3, h4, h5, h6, h7, h8, h9, h10⟩
    exact ⟨h1, h2, h3, h4, h5, h6, h7, h8, h9, h10⟩

/-- What the store holds as a write starts (R187). -/
def startedStore (w : Write) (st : RetainedStore) : RetainedStore :=
  match w with
  | .image k _ => { st with
      inFlight := some w, images := st.images.set k none, imageStatus := st.imageStatus.set k .writing }
  | .key _ => { st with inFlight := some w, keyCopy := none, keyStatus := .writing }
  | .limits _ => { st with inFlight := some w, limitsCopy := none, limitsStatus := .writing }

theorem startWrite_store (w : Write) (s : State) : (startWrite w s).store = startedStore w s.store := by
  cases w <;> rfl

section

variable {st : RetainedStore} {active : PerKind (Option Image)} {key : Option (List Byte)}
  (h : StoreFits st active key)
include h

/-- With no write in flight no item is WRITING (R186). -/
theorem StoreFits.none_writing (hfree : st.inFlight = none) :
    (∀ k, st.imageStatus.get k ≠ .writing) ∧ st.keyStatus ≠ .writing ∧ st.limitsStatus ≠ .writing := by
  refine ⟨fun k => ?_, ?_, ?_⟩
  · simp [h.imageWriting k, hfree]
  · simp [h.keyWriting, hfree]
  · simp [h.limitsWriting, hfree]

/-- The write of an image starts as it becomes the active one (R182). -/
theorem StoreFits.startImage (hfree : st.inFlight = none) (k : Kind) (image : Image) :
    StoreFits (startedStore (.image k image) st) (active.set k (some image)) key := by
  obtain ⟨himage, hkey, hlimits⟩ := h.none_writing hfree
  refine ⟨fun k' => ?_, h.keyCopy, h.limitsCopy, fun k' => ?_, ?_, ?_, fun k' b => ?_, fun k' b => ?_,
    h.keyHeld, ?_⟩
  · simp only [startedStore, PerKind.get_set]
    split
    · simp [StatusFits]
    · exact h.images k'
  · simp only [startedStore, PerKind.get_set]
    split
    case isTrue hk => simp [hk]
    case isFalse hk => simp [himage, hk]
  · simpa [startedStore] using hkey
  · simpa [startedStore] using hlimits
  · simp only [startedStore, PerKind.get_set]
    split
    · simp
    · exact h.imageActive k' b
  · simp only [startedStore, PerKind.get_set]
    rintro hw
    cases hw
    simp
  · simp [startedStore]

/-- The write of the key, or of its removal, starts as the key is replaced (R168, R170). -/
theorem StoreFits.startKey (hfree : st.inFlight = none) (value : Option (List Byte)) :
    StoreFits (startedStore (.key value) st) active value := by
  obtain ⟨himage, -, hlimits⟩ := h.none_writing hfree
  exact ⟨h.images, by simp [StatusFits, startedStore], h.limitsCopy, by simpa [startedStore] using himage,
    by simp [startedStore], by simpa [startedStore] using hlimits, h.imageActive, by simp [startedStore],
    by simp [startedStore], by simp [startedStore]⟩

/-- The write of the retained set starts (R42). -/
theorem StoreFits.startLimits (hfree : st.inFlight = none) (l : Limits) :
    StoreFits (startedStore (.limits l) st) active key := by
  obtain ⟨himage, hkey, -⟩ := h.none_writing hfree
  exact ⟨h.images, h.keyCopy, by simp [StatusFits, startedStore], by simpa [startedStore] using himage,
    by simpa [startedStore] using hkey, by simp [startedStore], h.imageActive, by simp [startedStore],
    h.keyHeld, by simp [startedStore]⟩

/-- While a write is in flight its item alone is WRITING (R186, R187). -/
theorem StoreFits.settleImage {k : Kind} {image : Image} (hw : st.inFlight = some (.image k image))
    (success : Bool) : StoreFits (settledStore (.image k image) success st) active key := by
  have hkey : st.keyStatus ≠ .writing := by simp [h.keyWriting, hw]
  have hlimits : st.limitsStatus ≠ .writing := by simp [h.limitsWriting, hw]
  refine ⟨fun k' => ?_, h.keyCopy, h.limitsCopy, fun k' => ?_, by simpa [settledStore] using hkey,
    by simpa [settledStore] using hlimits, fun k' b => ?_, by simp [settledStore], h.keyHeld,
    by simp [settledStore]⟩
  · simp only [settledStore, PerKind.get_set]
    split
    · cases success <;> simp [StatusFits]
    · exact h.images k'
  · simp only [settledStore, PerKind.get_set]
    split
    · cases success <;> simp
    · simpa [h.imageWriting k', hw] using ‹¬ _›
  · simp only [settledStore, PerKind.get_set]
    split
    case isTrue hk =>
      subst hk
      cases success
      · simp
      · rintro hb
        cases hb
        exact h.writtenActive k _ hw
    · exact h.imageActive k' b

theorem StoreFits.settleKey {value : Option (List Byte)} (hw : st.inFlight = some (.key value))
    (success : Bool) : StoreFits (settledStore (.key value) success st) active key := by
  have himage (k : Kind) : st.imageStatus.get k ≠ .writing := by simp [h.imageWriting k, hw]
  have hlimits : st.limitsStatus ≠ .writing := by simp [h.limitsWriting, hw]
  have hheld : key = value := h.writtenKey value hw
  refine ⟨h.images, ?_, h.limitsCopy, by simpa [settledStore] using himage, ?_,
    by simpa [settledStore] using hlimits, h.imageActive, by simp [settledStore], ?_, by simp [settledStore]⟩
  · cases success <;> cases value <;> simp [settledStore, StatusFits]
  · cases success <;> cases value <;> simp [settledStore]
  · cases success <;> simp [settledStore, hheld]

theorem StoreFits.settleLimits {l : Limits} (hw : st.inFlight = some (.limits l)) (success : Bool) :
    StoreFits (settledStore (.limits l) success st) active key := by
  have himage (k : Kind) : st.imageStatus.get k ≠ .writing := by simp [h.imageWriting k, hw]
  have hkey : st.keyStatus ≠ .writing := by simp [h.keyWriting, hw]
  refine ⟨h.images, h.keyCopy, ?_, by simpa [settledStore] using himage, by simpa [settledStore] using hkey, ?_,
    h.imageActive, by simp [settledStore], h.keyHeld, by simp [settledStore]⟩
  · cases success <;> simp [settledStore, StatusFits]
  · cases success <;> simp [settledStore]

/-- The completion of the write in flight, whichever item it concerns. -/
theorem StoreFits.settle {w : Write} (hw : st.inFlight = some w) (success : Bool) :
    StoreFits (settledStore w success st) active key := by
  cases w with
  | image k image => exact h.settleImage hw success
  | key value => exact h.settleKey hw success
  | limits l => exact h.settleLimits hw success

end

theorem foundStatus_fits (valid : Bool) : StatusFits valid (foundStatus valid) := by
  cases valid <;> simp [StatusFits, foundStatus]

theorem foundStatus_ne_writing (valid : Bool) : foundStatus valid ≠ .writing := by
  cases valid <;> simp [foundStatus]

/-- A power-on start leaves a store that says what it holds, all of it in force (R189). -/
theorem storeFits_validateStore (st : RetainedStore) :
    StoreFits (validateStore st) (validateStore st).images (validateStore st).keyCopy := by
  refine ⟨fun k => ?_, foundStatus_fits _, foundStatus_fits _, fun k => ?_, ?_, ?_, fun _ _ => id, ?_,
    fun _ => id, ?_⟩
  · simp only [validateStore, perKind_get]
    exact foundStatus_fits _
  all_goals simp [validateStore, perKind_get, foundStatus_ne_writing]

theorem storeInv_of_leaves {s t : State} (h : StoreInv s) (hl : LeavesRetained s t) : StoreInv t := by
  rw [storeInv_iff] at h ⊢
  rw [hl.store, hl.tables, hl.key]
  exact fun hp => h (hl.power hp)

theorem storeInv_commitTable {s : State} (h : StoreInv s) (hfree : s.store.inFlight = none) (k : Kind)
    (image : Image) : StoreInv (commitTable k image s) := by
  obtain ⟨htables, hmgmt⟩ := commitTable_tables k image s
  have hstore : (commitTable k image s).store = startedStore (.image k image) s.store := by
    simp [commitTable, startWrite_store]
  rw [storeInv_iff] at h ⊢
  rw [hstore, htables, hmgmt]
  intro hp
  exact (h (by simpa using hp)).startImage hfree k image

theorem storeInv_owner {s t : State} (h : StoreInv s) (ho : OwnerMove s t) : StoreInv t := by
  cases ho with
  | leaves hl => exact storeInv_of_leaves h hl
  | stages x _ ht => exact ht ▸ h
  | locks l n _ _ ht => exact ht ▸ h
  | commits k image _ hfree hl => exact storeInv_of_leaves (storeInv_commitTable h hfree k image) hl
  | retains l hfree hl =>
    refine storeInv_of_leaves ?_ hl
    rw [storeInv_iff] at h ⊢
    exact fun hp => (h hp).startLimits hfree l
  | keys key l n _ _ hfree ht =>
    rw [ht, storeInv_iff]
    rw [storeInv_iff] at h
    exact fun hp => (h hp).startKey hfree key

theorem storeInv_finishWrite {s : State} (h : StoreInv s) (success : Bool) :
    StoreInv (finishWrite success s) := by
  cases hw : s.store.inFlight with
  | none => simpa [finishWrite, hw] using h
  | some w =>
    have hstore : (finishWrite success s).store = settledStore w success s.store := by
      simp [finishWrite_eq hw, writeReported, settleItem_store]
    rw [storeInv_iff] at h ⊢
    rw [hstore]
    simp only [finishWrite_frame]
    exact fun hp => (h hp).settle hw success

theorem storeInv_powerOn (found : List FoundItem) (s : State) : StoreInv (powerOn found s) := by
  obtain ⟨-, hstore, htables, hmgmt⟩ := powerOn_settled found s
  rw [storeInv_iff, hstore, htables, hmgmt]
  exact fun _ => storeFits_validateStore _

/-- Settles O56: a write starts with none in flight and settles its own item, a start finds every copy in
force, and nothing else reaches the store, the active images or the key. -/
theorem storeInvKept : Obligations.StoreInvKept := fun _ _ _ h he =>
  retained_exec (P := StoreInv) (fun _ _ => storeInv_of_leaves) (fun _ _ => storeInv_owner)
    (fun success _ h => storeInv_finishWrite h success) storeInv_powerOn (fun _ hp => absurd rfl hp) h he

end Sys2Proof.Machine
end

section
/-! SUPPORT. The reads of a range: TABLE READ, STATION STATUS, ALARM LIST READ and LOG READ, accepted with
their data or refused (R131, R155, R156, R184, R195). -/

namespace Sys2Proof.Machine

/-! ### Codes and flags (10.3, R193) -/

theorem kindOfCode_eq_some {n : Nat} {k : Kind} : kindOfCode n = some k ↔ n = kindCode k := by
  constructor
  · unfold kindOfCode
    split
    all_goals simp only [Option.some.injEq, reduceCtorEq, false_imp_iff]
    all_goals rintro rfl; rfl
  · rintro rfl
    cases k <;> rfl

theorem kindCode_bounds (k : Kind) : 1 ≤ kindCode k ∧ kindCode k ≤ 7 := by cases k <;> decide

theorem kindOfCode_eq_none {n : Nat} (h : n = 0 ∨ 7 < n) : kindOfCode n = none := by
  cases hk : kindOfCode n with
  | none => rfl
  | some k =>
    have hn := kindOfCode_eq_some.1 hk
    have hbounds := kindCode_bounds k
    omega

theorem u8_u8At (l : List Byte) (pos : Nat) : u8 (u8At l pos) = [byteAt l pos] := u8_toNat _

theorem optFlag_eq (b : Option Bool) : optFlag b = [(b.map fun x => if x then 1 else 0).getD 0xFF] := by
  rcases b with _ | _ | _ <;> rfl

theorem within_iff (lo n hi : Nat) : within lo n hi = true ↔ lo ≤ n ∧ n ≤ hi := by simp [within]

theorem within_eq_false (lo n hi : Nat) : within lo n hi = false ↔ n < lo ∨ hi < n := by
  rw [← Bool.not_eq_true, within_iff]
  omega

/-! ### The path of a read (R161, R164) -/

/-- A request that its owner answers at once and that every lock state admits: an owner that leaves the state
leaves what every answer changes. -/
theorem exec_answers {code : Nat} {r : Rules} {f : List Byte} {s : State} {o : ReqOutcome} {data : List Byte}
    (ht : taken code f s = true) (hcode : code ≠ 0x08) (hsized : r.sized (requestParams f) = true)
    (hadmits : r.admits = .every)
    (hrun : r.run (requestTag f) (requestParams f) s = (s, .now o data)) :
    (.next (takeRequest code r f s) : Host.Outcome State Fault Refusal)
      = .next (answeredOnly s code (requestTag f) o data false) :=
  congrArg Host.Outcome.next (takeRequest_now ht hcode hsized (by rw [hadmits]; rfl) hrun rfl)

theorem fixed_length {p : List Byte} {n : Nat} (h : p.length = n) : fixed n p = true := beq_iff_eq.2 h

/-! ### TABLE READ (R184) -/

section

variable {p : List Byte} {s : State} {k : Kind}

theorem tableRead_undefined (hk : u8At p 0 = 0 ∨ 7 < u8At p 0) : tableRead p s = (s, .now .range []) := by
  rw [tableRead, kindOfCode_eq_none hk]
  rfl

variable (hk : u8At p 0 = kindCode k)
include hk

theorem tableRead_absent (ha : s.tables.active.get k = none) : tableRead p s = (s, .now .state []) := by
  simp only [tableRead, kindOfCode_eq_some.2 hk, ha]
  rfl

theorem tableRead_active {image : Image} (ha : s.tables.active.get k = some image) :
    tableRead p s = (s, if (1 ≤ u8At p 3 ∧ u8At p 3 ≤ 224) ∧ u16At p 1 + u8At p 3 ≤ image.length then
        .now .accepted ([byteAt p 0, s.tables.commitNo.get k] ++ u16 image.length
          ++ (image.drop (u16At p 1)).take (u8At p 3))
      else .now .range []) := by
  have hhead : u8 (kindCode k) ++ u8 (s.tables.commitNo.get k).toNat
      = [byteAt p 0, s.tables.commitNo.get k] := by
    rw [← hk, u8_u8At, u8_toNat]
    rfl
  simp only [tableRead, kindOfCode_eq_some.2 hk, ha, hhead]
  by_cases hw : (1 ≤ u8At p 3 ∧ u8At p 3 ≤ 224) ∧ u16At p 1 + u8At p 3 ≤ image.length
  · have hlen : ¬ image.length < u16At p 1 + u8At p 3 := by omega
    simp [hw, (within_iff 1 (u8At p 3) 224).2 hw.1, hlen]
  · have hrange : (!within 1 (u8At p 3) 224 || decide (image.length < u16At p 1 + u8At p 3)) = true := by
      simp only [Bool.or_eq_true, Bool.not_eq_true', within_eq_false, decide_eq_true_eq]
      omega
    rw [if_pos hrange, if_neg hw]
    rfl

end

/-! ### STATION STATUS (R131) -/

/-- A live record with its identity, byte by byte (R120, R131; log entry 17). -/
theorem recordData_eq (i : Identity) (r : LiveRecord) :
    let flag (b : Bool) : Byte := if b then 1 else 0
    let value (b : Option Bool) : Byte := (b.map flag).getD 0xFF
    recordData i r = ((List.range 6).map fun k => i.extractLsb' (8 * k) 8)
      ++ [match r.state with
          | .unseen => 0
          | .present => 1
          | .missing => 2,
        BitVec.ofNat 8 r.misses,
        value r.levels.a, value r.levels.b, value r.held.a, value r.held.b,
        flag r.latches.a, flag r.latches.b, flag r.powerUp, flag r.conditionPending,
        value r.desired.a, value r.desired.b, flag r.outputPending] := by
  have hstate : u8 (stationStateCode r.state) = [match r.state with
      | .unseen => 0
      | .present => 1
      | .missing => 2] := by cases r.state <;> rfl
  simp only [recordData, identityBytes_eq, hstate, optFlag_eq, flagByte_eq, List.append_assoc]
  rfl

theorem lineBusy_eq (s : State) : lineBusy s = !decide (s.line.flight = .idle) := by
  unfold lineBusy
  split <;> simp_all

theorem stationStatusData_eq (t : StationTable) (first count : Nat) (s : State) :
    stationStatusData t first count s
      = u8 ((t.ids.zip s.line.records).drop first |>.take count).length
        ++ (((t.ids.zip s.line.records).drop first).take count).flatMap (fun (i, x) => recordData i x)
        ++ u8 t.ids.length ++ u8 s.line.pointer
        ++ u8 s.line.found.length ++ s.line.found.flatMap u8
        ++ [if s.line.flight = .idle then 0 else 1] := by
  rw [stationStatusData, countedList, countedList, flagByte_eq, lineBusy_eq]
  simp [List.flatMap_def]

theorem stationStatus_table {p : List Byte} {s : State} {t : StationTable} (h : stationOf s = some t) :
    stationStatus p s = (s, if u8At p 0 < t.ids.length ∧ 1 ≤ u8At p 1 ∧ u8At p 1 ≤ 8 then
        .now .accepted (stationStatusData t (u8At p 0) (u8At p 1) s)
      else .now .range []) := by
  simp only [stationStatus, h]
  by_cases hw : u8At p 0 < t.ids.length ∧ 1 ≤ u8At p 1 ∧ u8At p 1 ≤ 8
  · obtain ⟨hfirst, hcount⟩ := hw
    have hin : ¬ t.ids.length ≤ u8At p 0 := by omega
    simp [hfirst, hcount, (within_iff 1 (u8At p 1) 8).2 hcount, hin]
  · have hrange : (decide (t.ids.length ≤ u8At p 0) || !within 1 (u8At p 1) 8) = true := by
      simp only [Bool.or_eq_true, Bool.not_eq_true', within_eq_false, decide_eq_true_eq]
      omega
    rw [if_pos hrange, if_neg hw]
    rfl

theorem stationStatus_refused {p : List Byte} {s : State}
    (h : stationOf s = none ∨ stationCount s ≤ u8At p 0 ∨ u8At p 1 = 0 ∨ 8 < u8At p 1) :
    stationStatus p s = (s, .now .range []) := by
  cases ha : stationOf s with
  | none =>
    simp only [stationStatus, ha]
    rfl
  | some t =>
    have hcount : stationCount s = t.ids.length := by rw [stationCount, ha]
    rw [ha, hcount] at h
    simp only [reduceCtorEq, false_or] at h
    rw [stationStatus_table ha, if_neg (by omega)]

/-! ### ALARM LIST READ and LOG READ (R155, R156) -/

theorem alarmListRead_eq (p : List Byte) (s : State) :
    alarmListRead p s = (s, if u8At p 0 ≤ 63 ∧ 1 ≤ u8At p 1 ∧ u8At p 1 ≤ 24 then
        .now .accepted (u8 s.alarm.list.length
          ++ countedList (((s.alarm.list.drop (u8At p 0)).take (u8At p 1)).map (entryData s)))
      else .now .range []) := by
  unfold alarmListRead
  dsimp only
  by_cases hw : u8At p 0 ≤ 63 ∧ 1 ≤ u8At p 1 ∧ u8At p 1 ≤ 24
  · obtain ⟨hfirst, hcount⟩ := hw
    have hin : ¬ 63 < u8At p 0 := by omega
    simp [hfirst, hcount, (within_iff 1 (u8At p 1) 24).2 hcount, hin]
  · have hrange : (decide (63 < u8At p 0) || !within 1 (u8At p 1) 24) = true := by
      simp only [Bool.or_eq_true, Bool.not_eq_true', within_eq_false, decide_eq_true_eq]
      omega
    rw [if_pos hrange, if_neg hw]
    rfl

theorem logRead_eq (p : List Byte) (s : State) :
    logRead p s = (s, if 1 ≤ u8At p 1 ∧ u8At p 1 ≤ 20 then
        .now .accepted
          (countedList (((s.alarm.log.reverse.drop (u8At p 0)).take (u8At p 1)).map logEntryData)
            ++ u16 s.alarm.log.length ++ u32 s.alarm.nextSeq.toNat)
      else .now .range []) := by
  unfold logRead
  dsimp only
  rw [← if_congr (within_iff 1 (u8At p 1) 20) rfl rfl]
  cases within 1 (u8At p 1) 20 <;> rfl

/-- Settles O52: each owner's answer by whether its values are in range. -/
theorem rangedReadsAreAccepted : Obligations.RangedReadsAreAccepted := by
  unfold Obligations.RangedReadsAreAccepted
  intro f s p accepted refused
  have hread (ht : taken 0x03 f s = true) (hp : p.length = 4) {o : ReqOutcome} {data : List Byte} :=
    exec_answers (r := tableReadRules) (o := o) (data := data)
      ht (by decide) (fixed_length hp) rfl
  have hstatus (ht : taken 0x0A f s = true) (hp : p.length = 2) {o : ReqOutcome} {data : List Byte} :=
    exec_answers (r := stationStatusRules) (o := o) (data := data)
      ht (by decide) (fixed_length hp) rfl
  have hlist (ht : taken 0x0D f s = true) (hp : p.length = 2) {o : ReqOutcome} {data : List Byte} :=
    exec_answers (r := alarmListReadRules) (o := o) (data := data)
      ht (by decide) (fixed_length hp) rfl
  have hlog (ht : taken 0x12 f s = true) (hp : p.length = 2) {o : ReqOutcome} {data : List Byte} :=
    exec_answers (r := logReadRules) (o := o) (data := data)
      ht (by decide) (fixed_length hp) rfl
  refine ⟨fun k image ht hp hk ha hlow hhigh hend => ?read, fun table ht hp ha hfirst hlow hhigh => ?status,
    fun ht hp hfirst hlow hhigh => ?list, fun ht hp hlow hhigh => ?log,
    fun ht hp => ⟨fun hk => ?undefined, fun k hk => ⟨fun ha => ?absent, fun image ha hout => ?outOfRange⟩⟩,
    fun ht hp hout => ?statusRefused, fun ht hp hout => ?listRefused, fun ht hp hout => ?logRefused⟩
  case read =>
    refine hread ht hp ((tableRead_active hk ha).trans ?_)
    rw [if_pos ⟨⟨hlow, hhigh⟩, hend⟩]
  case undefined => exact hread ht hp (tableRead_undefined hk)
  case absent => exact hread ht hp (tableRead_absent hk ha)
  case outOfRange =>
    refine hread ht hp ((tableRead_active hk ha).trans ?_)
    rw [if_neg (by omega)]
  case status =>
    refine hstatus ht hp ((stationStatus_table ha).trans ?_)
    rw [if_pos ⟨hfirst, hlow, hhigh⟩, stationStatusData_eq]
    simp only [recordData_eq]
    rfl
  case statusRefused => exact hstatus ht hp (stationStatus_refused hout)
  case list =>
    refine hlist ht hp ((alarmListRead_eq p s).trans ?_)
    rw [if_pos ⟨hfirst, hlow, hhigh⟩]
  case listRefused =>
    refine hlist ht hp ((alarmListRead_eq p s).trans ?_)
    rw [if_neg (by omega)]
  case log =>
    refine hlog ht hp ((logRead_eq p s).trans ?_)
    rw [if_pos ⟨hlow, hhigh⟩]
  case logRefused =>
    refine hlog ht hp ((logRead_eq p s).trans ?_)
    rw [if_neg (by omega)]

end Sys2Proof.Machine
end

section
/-! SUPPORT. The staging buffer from TABLE BEGIN to TABLE END, and the refusals on the way (R178 to R181). -/

namespace Sys2Proof.Machine

/-- A request on the staging buffer, admitted in the lock state, whose owner answers with the buffer as
given (R164, R178). -/
theorem exec_stages {code : Nat} {r : Rules} {f : List Byte} {s : State} {o : ReqOutcome} {data : List Byte}
    {x : Staging} (ht : taken code f s = true) (hcode : code ≠ 0x08)
    (hsized : r.sized (requestParams f) = true) (hadmits : r.admits = .changing)
    (hlock : s.mgmt.lock = .open ∨ s.mgmt.lock = .unlocked)
    (hrun : r.run (requestTag f) (requestParams f) s = (setStaging x s, .now o data)) :
    (.next (takeRequest code r f s) : Host.Outcome State Fault Refusal)
      = .next (answeredWith s code (requestTag f) o data { s.mgmt with staging := x }) :=
  congrArg Host.Outcome.next (takeRequest_moves ht hcode hsized (by rw [hadmits]; exact admits_changing hlock)
    hrun rfl)

/-! ### TABLE BEGIN (R179) -/

section

variable {p : List Byte} {s : State}

theorem tableBegin_accepted {k : Kind} (hp : p.length = 3) (hk : u8At p 0 = kindCode k)
    (hlow : (kindLengths k).1 ≤ u16At p 1) (hhigh : u16At p 1 ≤ (kindLengths k).2) :
    tableBegin p s = (setStaging (.open k (u16At p 1) []) s, .now .accepted p) := by
  have hdata : u8 (kindCode k) ++ u16 (u16At p 1) = p := by
    rw [← hk, u8_u8At, u16_u16At]
    match p, hp with
    | [a, b, c], _ => rfl
  have hfits : lengthFits k (u16At p 1) = true := by simp [lengthFits, hlow, hhigh]
  simp only [tableBegin, kindOfCode_eq_some.2 hk, hfits, if_true, hdata]

theorem tableBegin_refused (h : u8At p 0 = 0 ∨ 7 < u8At p 0 ∨ ∃ k, u8At p 0 = kindCode k
      ∧ (u16At p 1 < (kindLengths k).1 ∨ (kindLengths k).2 < u16At p 1)) :
    tableBegin p s = (setStaging s.mgmt.staging s, .now .range []) := by
  rw [← or_assoc] at h
  rcases h with hnone | ⟨k, hk, hout⟩
  · rw [tableBegin, kindOfCode_eq_none hnone]
    rfl
  · have hfits : lengthFits k (u16At p 1) = false := by
      simp only [lengthFits, Bool.and_eq_false_iff, decide_eq_false_iff_not]
      omega
    simp only [tableBegin, kindOfCode_eq_some.2 hk, hfits]
    rfl

/-! ### TABLE BLOCK (R180) -/

/-- The data of an OPEN buffer's TABLE BLOCK is longer than a block may be, whatever its offset. -/
theorem tableBlock_long {k : Kind} {total : Nat} {bytes : List Byte}
    (hopen : s.mgmt.staging = .open k total bytes) (hlong : 224 < u8At p 2) :
    tableBlock p s = (setStaging s.mgmt.staging s, .now .range (u16 bytes.length)) := by
  rw [tableBlock, stagedCount, hopen]
  dsimp only
  rw [if_pos hlong, ← hopen]
  rfl

section

variable {k : Kind} {total : Nat} {bytes : List Byte} (hopen : s.mgmt.staging = .open k total bytes)
  (hlength : u8At p 2 ≤ 224)
include hopen hlength

theorem tableBlock_elsewhere (hnext : u16At p 0 ≠ bytes.length) :
    tableBlock p s = (setStaging s.mgmt.staging s, .now .sequence (u16 bytes.length)) := by
  rw [tableBlock, hopen]
  dsimp only
  rw [if_neg (Nat.not_lt.2 hlength), if_pos hnext, ← hopen]
  rfl

theorem tableBlock_beyond (hnext : u16At p 0 = bytes.length) (hover : total < bytes.length + u8At p 2) :
    tableBlock p s = (setStaging .empty s, .now .range (u16 bytes.length)) := by
  rw [tableBlock, hopen]
  dsimp only
  rw [if_neg (Nat.not_lt.2 hlength), if_neg (not_not.2 hnext), if_pos hover]

theorem tableBlock_accepted (hnext : u16At p 0 = bytes.length) (hfits : bytes.length + u8At p 2 ≤ total) :
    tableBlock p s = (setStaging (.open k total (bytes ++ p.drop 3)) s,
      .now .accepted (u16 (bytes.length + u8At p 2))) := by
  rw [tableBlock, hopen]
  dsimp only
  rw [if_neg (Nat.not_lt.2 hlength), if_neg (not_not.2 hnext), if_neg (Nat.not_lt.2 hfits)]

end

theorem tableBlock_closed (h : ∀ k total bytes, s.mgmt.staging ≠ .open k total bytes) : tableBlock p s
    = (setStaging s.mgmt.staging s,
      .now (if 224 < u8At p 2 then .range else .sequence) [255, 255]) := by
  have hnone : optU16 none = [255, 255] := by decide
  have hkept : setStaging s.mgmt.staging s = s := rfl
  rw [hkept]
  cases hstaging : s.mgmt.staging with
  | empty | staged =>
    simp only [tableBlock, stagedCount, hstaging, hnone]
    split <;> rfl
  | _ k total bytes => exact absurd hstaging (h k total bytes) -- OPEN

/-! ### TABLE END (R181) -/

theorem tableEnd_short {k : Kind} {total : Nat} {bytes : List Byte}
    (hopen : s.mgmt.staging = .open k total bytes) (hshort : bytes.length ≠ total) :
    tableEnd s = (setStaging s.mgmt.staging s, .now .sequence (u16 bytes.length)) := by
  rw [tableEnd, hopen]
  dsimp only
  rw [if_pos hshort, ← hopen]
  rfl

theorem tableEnd_closed (h : ∀ k total bytes, s.mgmt.staging ≠ .open k total bytes) :
    tableEnd s = (setStaging s.mgmt.staging s, .now .sequence []) := by
  have hkept : setStaging s.mgmt.staging s = s := rfl
  rw [hkept]
  cases hstaging : s.mgmt.staging with
  | empty | staged =>
    rw [tableEnd, hstaging]
    rfl
  | _ k total bytes => exact absurd hstaging (h k total bytes) -- OPEN

section

variable {k : Kind} {image : Image} (hopen : s.mgmt.staging = .open k image.length image)
include hopen

theorem tableEnd_integrity (htrailer : trailerOk image = false) :
    tableEnd s = (setStaging .empty s, .now .integrity []) := by
  rw [tableEnd, hopen]
  dsimp only
  rw [if_neg (not_not.2 rfl), htrailer]
  rfl

variable (htrailer : trailerOk image = true)
include htrailer

theorem tableEnd_invalid {offset : Nat} (hbad : validateContent k image = some offset) :
    tableEnd s = (setStaging .empty s, .now .range (u16 offset)) := by
  rw [tableEnd, hopen]
  dsimp only
  rw [if_neg (not_not.2 rfl), htrailer, hbad]
  rfl

theorem tableEnd_accepted (hvalid : validateContent k image = none) :
    tableEnd s = (setStaging (.staged k image) s,
      .now .accepted (u8 (kindCode k) ++ u16 image.length)) := by
  rw [tableEnd, hopen]
  dsimp only
  rw [if_neg (not_not.2 rfl), htrailer, hvalid]
  rfl

end

end

theorem blockSized_length {p : List Byte} (h : p.length = 3 + u8At p 2) : blockSized p = true := by
  simp only [blockSized, Bool.and_eq_true, decide_eq_true_eq, beq_iff_eq]
  omega

/-- Settles O53: each owner's answer and the buffer it leaves, by its checks in their order. -/
theorem stagingGrowsIntoAnImage : Obligations.StagingGrowsIntoAnImage := by
  unfold Obligations.StagingGrowsIntoAnImage
  intro f s p answered hlock
  have hbegin (ht : taken 0x04 f s = true) (hp : p.length = 3) {o : ReqOutcome} {data : List Byte}
      {x : Staging} := exec_stages (r := tableBeginRules) (o := o) (data := data) (x := x) ht (by decide)
    (fixed_length hp) rfl hlock
  have hblock (ht : taken 0x05 f s = true) (hp : p.length = 3 + u8At p 2) {o : ReqOutcome}
      {data : List Byte} {x : Staging} := exec_stages (r := tableBlockRules) (o := o) (data := data) (x := x)
    ht (by decide) (blockSized_length hp) rfl hlock
  have hend (ht : taken 0x06 f s = true) (hp : p = []) {o : ReqOutcome} {data : List Byte} {x : Staging} :=
    exec_stages (r := tableEndRules) (o := o) (data := data) (x := x) ht (by decide)
      (fixed_length (congrArg List.length hp)) rfl hlock
  refine ⟨fun k ht hp hk hlow hhigh => ?opens, fun k total bytes ht hp hlength hopen hnext => ?appends,
    fun k image ht hp hopen => ?ends, fun ht hp hout => ?beginRefused, fun ht hp => ?blockRefused,
    fun ht hp => ?endRefused⟩
  case opens => exact hbegin ht hp (tableBegin_accepted hp hk hlow hhigh)
  case beginRefused => exact hbegin ht hp (tableBegin_refused hout)
  case appends =>
    exact ⟨fun hfits => hblock ht hp (tableBlock_accepted hopen hlength hnext hfits),
      fun hover => hblock ht hp (tableBlock_beyond hopen hlength hnext hover)⟩
  case blockRefused =>
    exact ⟨fun k total bytes hopen => ⟨fun hlong => hblock ht hp (tableBlock_long hopen hlong),
        fun hlength hnext => hblock ht hp (tableBlock_elsewhere hopen hlength hnext)⟩,
      fun hclosed => hblock ht hp (tableBlock_closed hclosed)⟩
  case ends =>
    exact ⟨fun htrailer hvalid => hend ht hp (tableEnd_accepted hopen htrailer hvalid),
      fun htrailer offset hbad => hend ht hp (tableEnd_invalid hopen htrailer hbad),
      fun htrailer => hend ht hp (tableEnd_integrity hopen htrailer)⟩
  case endRefused =>
    exact ⟨fun k total bytes hopen hshort => hend ht hp (tableEnd_short hopen hshort),
      fun hclosed => hend ht hp (tableEnd_closed hclosed)⟩

end Sys2Proof.Machine
end

section
/-! SUPPORT. The state after reset: what a power-on start leaves of a part without supply whose store holds
nothing (R189, R190; log entry 1), and the invariants there. -/

namespace Sys2Proof.Machine

/-- The part without supply, its store empty. -/
abbrev blankDark : State := .dark .blank []

theorem exec_powerOnStart_blankDark : exec (.powerOnStart []) blankDark = .next .reset := rfl

/-- A part without supply meets the invariants that speak of one. -/
theorem portsInv_blankDark : PortsInv blankDark := portsInv_of_silent rfl rfl rfl

theorem commandsInv_blankDark : CommandsInv blankDark := by
  refine ⟨rfl, fun hu => ?_, fun w hw => ?_⟩
  · cases hu
  · cases hw

/-- Settles O3: reset is one command away from a part without supply, and the command keeps each invariant. -/
theorem resetMeetsTheInvariants : Obligations.ResetMeetsTheInvariants := by
  have hexec := exec_powerOnStart_blankDark
  have himages : ImagesInv blankDark := imagesInv_dark .blank []
  have hlimits : LimitsFit blankDark := .inl ⟨rfl, rfl⟩
  have hlock : LockInv blankDark := lockInv_dark .blank []
  have hsweeps : SweepListsInv blankDark := sweepListsInv_of_empty rfl fun _ he => by cases he
  have hdark : blankDark.power ≠ .off → False := fun hp => hp rfl
  exact ⟨hexec, portsInv_exec portsInv_blankDark hexec,
    holdInv_exec portsInv_blankDark (holdInv_of_empty rfl) hexec,
    timersInv_exec (fun hp => (hdark hp).elim) hexec,
    (limitsInv_iff _).2 (limitsFit_exec himages hlimits hexec),
    imagesInv_exec himages hexec, storeInvKept _ _ _ (fun hp => (hdark hp).elim) hexec,
    lockInv_exec hlock hexec, alarmInvKept _ _ _ himages (alarmInv_dark .blank []) hexec,
    commandsInv_exec himages commandsInv_blankDark hexec, sweepListsInv_exec himages hsweeps hexec,
    finishingInv_exec (finishingInv_of_none rfl) hexec⟩

end Sys2Proof.Machine
end

section
/-! SUPPORT. A brief dip, its end, and a loss of supply (R191, R192; log entry 31). -/

namespace Sys2Proof.Machine

/-! ### The start of a dip (R165, R187, R191) -/

/-- The part with its ports cut off, before a write in flight fails (R191). -/
def portsCut (s : State) : State := (s.withPower .dip).withLink (cutPorts s.link)

/-- A failed write in a dip: no confirmation is built; an outstanding RETAIN_NOW request is forgotten,
otherwise the item enters the deferred-store byte (R165, R191). -/
theorem reportWrite_dip {s : State} (hp : s.power = .dip) (w : Write) :
    reportWrite w false s = s.withMgmt (if (outstandingOf w s).isSome then { s.mgmt with outCommit := none }
      else { s.mgmt with deferredStore := itemCode w }) := by
  have hshut : portsOpen s = false := by simp [portsOpen, hp]
  unfold reportWrite
  split
  · rename_i o k ho
    simp [ho, confirm, hshut]
  · rename_i ho
    simp [ho]

theorem dipStart_idle {s : State} (h : s.store.inFlight = none) : dipStart s = portsCut s := by
  unfold dipStart finishWrite
  have hcut : ((s.withPower .dip).withLink (cutPorts s.link)).store.inFlight = none := h
  rw [hcut]
  rfl

/-- A failed item is STALE (R186, R187). -/
theorem storeFailed_of_settled {t : State} {w : Write} {st : RetainedStore}
    (ht : t.store = settledStore w false st) : storeFailed t = true := by
  cases w with
  | image k bytes =>
    have hstale : t.store.imageStatus.get k = .stale := by simp [ht, settledStore, PerKind.get_set]
    have hk : k ∈ allKinds := by cases k <;> decide
    simp only [storeFailed, Bool.or_eq_true, List.any_eq_true]
    exact .inl (.inl ⟨k, hk, by simp [hstale]⟩)
  | key | limits => simp [storeFailed, ht, settledStore]

section

variable {s : State} {w : Write} (h : s.store.inFlight = some w)
include h

theorem dipStart_eq : dipStart s = evaluate 11 (storeFailed (writeReported w false (portsCut s)))
    (writeReported w false (portsCut s)) :=
  finishWrite_eq (s := portsCut s) h false

theorem dipStart_store : (dipStart s).store = settledStore w false s.store := by
  rw [dipStart_eq h]
  simp [writeReported, settleItem_store, portsCut]

theorem dipStart_mgmt : (dipStart s).mgmt = if (outstandingOf w s).isSome then
    { s.mgmt with outCommit := none } else { s.mgmt with deferredStore := itemCode w } := by
  have hout : outstandingOf w (settleItem w false (portsCut s)) = outstandingOf w s := by cases w <;> rfl
  rw [dipStart_eq h, (evaluate_frame _ _ _).2.2.2.2.2.1, writeReported, reportWrite_dip rfl, hout]
  rfl

theorem dipStart_link : (dipStart s).link = cutPorts s.link := by
  rw [dipStart_eq h, (evaluate_frame _ _ _).2.1, writeReported, reportWrite_dip rfl]
  rfl

theorem dipStart_slot_eleven (hslots : s.alarm.slots.length = 64) :
    (slotOf (dipStart s) 11).condition = true := by
  have hreported : (writeReported w false (portsCut s)).store = settledStore w false s.store := by
    simp [writeReported, settleItem_store, portsCut]
  rw [dipStart_eq h, evaluate_condition_internal _ (by decide) (by simp [writeReported, portsCut, hslots])]
  exact storeFailed_of_settled hreported

end

/-- The start of a dip reaches no block but the ports, the store, the management unit and slot 11 (R191). -/
theorem dipStart_units (s : State) : (dipStart s).power = .dip ∧ (dipStart s).position = s.position
    ∧ (dipStart s).shaper = s.shaper ∧ (dipStart s).swing = s.swing ∧ (dipStart s).walk = s.walk
    ∧ (dipStart s).line = s.line ∧ (dipStart s).tables = s.tables := by
  have hshaper : (dipStart s).shaper = s.shaper := by
    cases h : s.store.inFlight with
    | none => rw [dipStart_idle h]; rfl
    | some w => simp [dipStart_eq h, evaluate_internal_shaper, writeReported, portsCut]
  have hline : (dipStart s).line = s.line := finishWrite_line false _
  refine ⟨?_, ?_, hshaper, ?_, ?_, hline, ?_⟩
  all_goals simp [dipStart]

theorem dipStart_slots (s : State) {n : Nat} (hn : n ≠ 11) : slotOf (dipStart s) n = slotOf s n := by
  cases h : s.store.inFlight with
  | none => rw [dipStart_idle h]; rfl
  | some w =>
    rw [dipStart_eq h, evaluate_slots_other _ _ hn]
    exact slotOf_congr (by simp [writeReported, portsCut]) n

/-! ### The end of a dip, and a loss of supply (R174, R175, R191, R192) -/

/-- A restart that is pending takes effect as the ports open again (R174, R191). -/
theorem dipEnd_restarted {s : State} (h : s.mgmt.restartPending = true) :
    Restarted (s.withPower .on) (dipEnd s) := by
  have hend : dipEnd s = restartEffect (s.withPower .on) := by simp [dipEnd, h]
  exact hend ▸ restarted_restartEffect rfl

/-- Settles O59: the write in flight fails with the ports shut; the end of the dip opens them; without supply
the store alone is left. -/
theorem dipsAndSupplyLoss : Obligations.DipsAndSupplyLoss := by
  unfold Obligations.DipsAndSupplyLoss
  refine ⟨fun s hon hslots => ?starts, fun s hdip hpending => ?ends, fun s hdip hpending _ => ?restarts,
    fun s => ⟨_, rfl, ?lost⟩⟩
  case starts =>
    obtain ⟨hpower, hposition, hshaper, hswing, hwalk, hline, htables⟩ := dipStart_units s
    refine ⟨dipStart s, by simp [exec, execBriefSupplyDipStart, hon], hpower, ?link, ?free,
      fun h => ?idle, fun k bytes h => ⟨dipStart_store h, ?image⟩, fun key h => ⟨dipStart_store h, dipStart_mgmt h⟩,
      fun l h => ⟨dipStart_store h, dipStart_mgmt h⟩, fun h => ?slot, fun n => dipStart_slots s, hposition,
      hshaper, hswing, hwalk, hline, htables⟩
    case link =>
      cases h : s.store.inFlight with
      | none => rw [dipStart_idle h]; rfl
      | some w => exact dipStart_link h
    case free =>
      cases h : s.store.inFlight with
      | none => rw [dipStart_idle h]; exact h
      | some w => rw [dipStart_store h]; cases w <;> rfl
    case idle => rw [dipStart_idle h]; rfl
    case image =>
      rw [dipStart_mgmt h]
      cases hout : s.mgmt.outCommit <;> simp [outstandingOf, hout, itemCode]
    case slot =>
      obtain ⟨w, hw⟩ := Option.ne_none_iff_exists'.1 h
      exact dipStart_slot_eleven hw hslots
  case ends => simp [exec, execBriefSupplyDipEnd, hdip, dipEnd, hpending]
  case restarts => exact ⟨dipEnd s, by simp [exec, execBriefSupplyDipEnd, hdip], dipEnd_restarted hpending⟩
  case lost => and_intros <;> rfl

end Sys2Proof.Machine
end

section
/-! SUPPORT. What a power-on start leaves of every block (R11, R12, R18, R26, R32, R36, R111, R122, R133, R135,
R159, R176, R189, R190; log entries 6, 7, 12, 14, 48). -/

namespace Sys2Proof.Machine

/-! ### IDLE slots (R138, R141, R142) -/

/-- A slot that is IDLE: its condition is false, no timer runs and it is not listed. -/
def IdleAt (s : State) (n : Nat) : Prop := slotOf s n = .start ∧ entryOf s n = none

theorem setSlot_start {s : State} {n : Nat} (h : slotOf s n = .start) : setSlot n .start s = s := by
  rw [← h]
  exact setSlot_slotOf n s

/-- A false evaluation finds an IDLE slot as it is (R142). -/
theorem evaluate_false_idle {s : State} {n : Nat} (h : IdleAt s n) : evaluate n false s = s := by
  obtain ⟨hslot, hentry⟩ := h
  rcases ha : attrsOf s n with _ | a
  · simp [evaluate, ha]
  · rw [evaluate_unlisted ha hentry, if_neg Bool.false_ne_true]
    exact setSlot_start hslot

theorem resetSlot_idle {s : State} {n : Nat} (h : IdleAt s n) : resetSlot n s = s := by
  obtain ⟨hslot, hentry⟩ := h
  rw [resetSlot, hentry]
  exact setSlot_start hslot

/-- The false evaluations of the bound sources find IDLE slots as they are (R139 to R141). -/
theorem evaluateBound_idle {s : State} (h : ∀ k, IdleAt s (12 + k)) {value : AlarmDef → Bool → Option Bool}
    (hv : ∀ d b v, value d b = some v → v = false) : evaluateBound value s = s := by
  refine foldl_keeps (fun x => x = s) _ ?_ _ s rfl
  rintro x ⟨d, k⟩ rfl
  dsimp only
  split
  · split
    · rename_i v hvalue
      rw [hv _ _ _ hvalue, evaluate_false_idle (h k)]
    · rfl
  · rfl

/-- Settling the binding over IDLE slots records the binding alone (R138). -/
theorem settleBinding_idle {s : State} (h : ∀ k, IdleAt s (12 + k)) : settleBinding s
    = s.withAlarm { s.alarm with bound := (definitionsOf s).map (isBound s) } := by
  have hkept : (definitionsOf s).zipIdx.foldl (fun acc (_, k) =>
      if acc.alarm.bound.getD k false != ((definitionsOf s).map (isBound s)).getD k false
      then resetSlot (12 + k) acc else acc) s = s := by
    refine foldl_keeps (fun x => x = s) _ ?_ _ s rfl
    rintro x ⟨-, k⟩ rfl
    dsimp only
    split
    · exact resetSlot_idle (h k)
    · rfl
  unfold settleBinding
  dsimp only
  rw [hkept]

/-- The hand-off of an absent position to blocks in which nothing depends on a position: the alarm unit keeps
it (R33, R34, R37, R72, R141). -/
theorem handPosition_idle {s : State} (hidle : ∀ n, n ≠ 10 → IdleAt s n)
    (habsent : presentPosition s = none) (hclear : clearanceAfter none s = s.swing.clear)
    (hlost : positionLost s = false) (htravel : travelExceeded s = false) :
    handPosition s = s.withAlarm { s.alarm with lastPosition := none } := by
  have hkept : positionKept s = s.withAlarm { s.alarm with lastPosition := none } := by
    rw [positionKept, habsent, updateClearance]
    simp only [hclear, if_true]
  have hk (n : Nat) (hn : n ≠ 10) : IdleAt (s.withAlarm { s.alarm with lastPosition := none }) n :=
    hidle n hn
  rw [handPosition_eq, hlost, htravel, zonesHanded, hkept, habsent,
    evaluateBound_idle (fun k => hk _ (by omega)) zoneSource_absent,
    evaluate_false_idle (hk 5 (by decide)), evaluate_false_idle (hk 6 (by decide))]

/-! ### The alarm unit of a power-on start (R135, R159) -/

/-- The alarm unit of a power-on start, by the binding of its definitions and the condition of slot 10. -/
def startedAlarm (bound : List Bool) (absent : Bool) : AlarmUnit :=
  { AlarmUnit.start with
    bound := bound
    slots := (List.replicate 64 Slot.start).set 10 { condition := absent, delay := none }
    list := if absent then [{ slot := 10, state := .raisedUnack, time := 0 }] else []
    notices := if absent then [10] else []
    log := if absent then [{ seq := 0, kind := .raise, slot := 10, time := 0 }] else []
    nextSeq := if absent then 1 else 0 }

theorem startedAlarm_slotOf {s : State} {bound : List Bool} {absent : Bool}
    (h : s.alarm = startedAlarm bound absent) (n : Nat) :
    slotOf s n = { condition := n = 10 ∧ absent = true, delay := none } := by
  rw [slotOf, h]
  simp only [startedAlarm, List.getD_eq_getElem?_getD, List.getElem?_set, List.getElem?_replicate]
  by_cases hn : n = 10
  · subst hn
    simp
  · rw [if_neg (Ne.symm hn)]
    simp only [hn, false_and, decide_false]
    split <;> rfl

theorem startedAlarm_entryOf {s : State} {bound : List Bool} {absent : Bool}
    (h : s.alarm = startedAlarm bound absent) {n : Nat} (hn : n ≠ 10) : entryOf s n = none := by
  rw [entryOf_none, h]
  cases absent <;> simp [startedAlarm, Ne.symm hn]

/-- Slot 10 settled on an alarm unit that holds its start values (R135, R144). -/
theorem evaluate_ten_started {s : State} {bound : List Bool}
    (h : s.alarm = { AlarmUnit.start with bound := bound }) (absent : Bool) :
    evaluate 10 absent s = s.withAlarm (startedAlarm bound absent) := by
  have hs : s = s.withAlarm { AlarmUnit.start with bound := bound } := by
    rw [← h]
    rfl
  rw [hs]
  cases absent <;> rfl

/-! ### Stages 1 to 3 and the hand-off (R190) -/

/-- The blocks but the alarm unit after stages 1 to 3: the tables, the lock, the working limits and the
usability from the store. -/
def startedUnits (store : RetainedStore) (pending : List Instr) : State :=
  let tables := (State.dark store pending).withTables { Tables.start with active := store.images }
  let lock := tables.withMgmt { Management.start with
    lock := if store.keyCopy.isSome then .locked else .open, key := store.keyCopy }
  settleUsability (lock.withPosition { PositionUnit.start with working := startLimits lock })

/-- The definitions that stages 1 to 3 bind (R137). -/
def startedBound (store : RetainedStore) (pending : List Instr) : List Bool :=
  let units := startedUnits store pending
  (definitionsOf units).map (isBound units)

/-- The condition of slot 10 after stages 1 to 3 (R135). -/
def startedAbsent (store : RetainedStore) (pending : List Instr) : Bool :=
  let units := startedUnits store pending
  tableAbsent (units.withAlarm { AlarmUnit.start with bound := startedBound store pending })

theorem settleStart_eq (store : RetainedStore) (pending : List Instr) : settleStart store pending
    = (startedUnits store pending).withAlarm
        (startedAlarm (startedBound store pending) (startedAbsent store pending)) := by
  have hidle : Emptied (startedUnits store pending) := ⟨rfl, rfl⟩
  have hbound : settleBinding (startedUnits store pending) = (startedUnits store pending).withAlarm
      { AlarmUnit.start with bound := startedBound store pending } :=
    settleBinding_idle fun k => ⟨hidle.slotOf (12 + k), hidle.entryOf (12 + k)⟩
  have hsettle : settleStart store pending
      = evaluate 10 (tableAbsent (settleBinding (startedUnits store pending)))
        (settleBinding (startedUnits store pending)) := rfl
  rw [hsettle, hbound, evaluate_ten_started (State.withAlarm_alarm _ _), State.withAlarm_withAlarm,
    startedAbsent]

/-- The part as a power-on start enters WAITING: stages 1 to 3 alone, the hand-off finding every condition
false already. -/
theorem startedBlocks_eq (found : List FoundItem) (s : State) : startedBlocks found s
    = (settleStart (presentedStore s.store found) s.pending).withPower .on := by
  set x := (settleStart (presentedStore s.store found) s.pending).withPower .on with hx
  have halarm : x.alarm = startedAlarm (startedBound (presentedStore s.store found) s.pending)
      (startedAbsent (presentedStore s.store found) s.pending) := by rw [hx, settleStart_eq]; rfl
  have hposition : x.position = { PositionUnit.start with working := x.position.working } := by
    rw [hx, settleStart_eq]; rfl
  have hswing : x.swing = .start := by rw [hx, settleStart_eq]; rfl
  have hrecord (m : Motion) : payoutRecord x m = { payout := none, valid := false } := by
    rw [hx, settleStart_eq]
    cases m <;> rfl
  have hunusable (m : Motion) : usablePayout x m = none := by rw [usablePayout, hrecord]
  have hclear : clearanceAfter none x = x.swing.clear := by
    rw [clearanceAfter_none (by rw [hswing]; rfl), hswing]
    rfl
  have hlost : positionLost x = false := by rw [positionLost, hposition]; rfl
  have htravel : travelExceeded x = false := by
    unfold travelExceeded
    split
    · simp [hunusable, beyond]
    · rfl
  have hidle (n : Nat) (hn : n ≠ 10) : IdleAt x n :=
    ⟨by rw [startedAlarm_slotOf halarm]; simp [hn, Slot.start], startedAlarm_entryOf halarm hn⟩
  have hlast : x.withAlarm { x.alarm with lastPosition := none } = x := by
    rw [halarm]
    exact congrArg x.withAlarm halarm.symm
  show handPosition x = x
  rw [handPosition_idle hidle (by rw [presentPosition, hposition]; rfl) hclear hlost htravel, hlast]

/-! ### Each block after a power-on start -/

theorem isBound_congr {s t : State} (ht : t.tables = s.tables) (hw : t.walk.usable = s.walk.usable) :
    isBound t = isBound s := by
  have husable : usableWalk t = usableWalk s := by simp [usableWalk, walkOf, ht, hw]
  have hcount : stationCount t = stationCount s := stationCount_congr (congrArg (·.active.station) ht)
  have hsectors : sectorsOf t = sectorsOf s := by simp [sectorsOf, swingOf, ht]
  funext d
  simp only [isBound, hcount, hsectors, walkOwns_congr husable]

/-- The alarm unit (R135, R159). -/
theorem powerOn_alarm (found : List FoundItem) (s : State) : (powerOn found s).alarm
    = startedAlarm ((definitionsOf (powerOn found s)).map (isBound (powerOn found s)))
        (tableAbsent (powerOn found s)) := by
  set store := presentedStore s.store found with hstore
  have hblocks : startedBlocks found s = ((startedUnits store s.pending).withAlarm
      (startedAlarm (startedBound store s.pending) (startedAbsent store s.pending))).withPower .on := by
    rw [startedBlocks_eq, ← hstore, settleStart_eq]
  have htables : (powerOn found s).tables = (startedUnits store s.pending).tables := by
    simp [powerOn_eq, hblocks]
  have hwalk : (powerOn found s).walk = (startedUnits store s.pending).walk := by
    simp [powerOn_eq, hblocks]
  have halarm : (powerOn found s).alarm
      = startedAlarm (startedBound store s.pending) (startedAbsent store s.pending) := by
    simp [powerOn_eq, hblocks]
  have hbound : startedBound store s.pending
      = (definitionsOf (powerOn found s)).map (isBound (powerOn found s)) := by
    rw [startedBound, definitionsOf_congr (congrArg (·.active.alarm) htables), isBound_congr htables (by rw [hwalk])]
  have habsent : startedAbsent store s.pending = tableAbsent (powerOn found s) := by
    refine (tableAbsent_congr (htables.trans (State.withAlarm_tables _ _).symm) ?_ ?_).symm
    · rw [hwalk, State.withAlarm_walk]
    · rw [halarm, State.withAlarm_alarm, startedAlarm]
  rw [halarm, ← hbound, ← habsent]

/-- The units that hold their start values: the shaper, the swing unit and the walk sequencer, its usability
settled (R56, R84, R111). -/
theorem powerOn_units (found : List FoundItem) (s : State) :
    (powerOn found s).shaper = .start ∧ (powerOn found s).swing = .start
      ∧ (powerOn found s).walk
        = { WalkSequencer.start with usable := walkUsable (powerOn found s) } := by
  have hblocks := startedBlocks_eq found s
  rw [settleStart_eq] at hblocks
  have hshaper : (startedBlocks found s).shaper = .start := by rw [hblocks]; rfl
  have hswing : (startedBlocks found s).swing = .start := by rw [hblocks]; rfl
  have hwalk : (startedBlocks found s).walk
      = { WalkSequencer.start with usable := (startedBlocks found s).walk.usable } := by
    rw [hblocks]; rfl
  have htables : (powerOn found s).tables = (startedBlocks found s).tables := by simp [powerOn_eq]
  refine ⟨?_, by simp [powerOn_eq, hswing], ?_⟩
  · rw [powerOn_eq, (beginLine_frame _).2.2.2.1, enterWaiting_shaper, hshaper]
    rfl
  · rw [walkUsable_congr (s := startedBlocks found s) (by rw [htables]) (by rw [htables]),
      ← startedBlocks_usable, ← hwalk]
    simp [powerOn_eq]

/-- The entry to WAITING of a link that holds its start values: the hold frame is in transmission at once (R7,
R11, R12, R16). -/
theorem enterWaiting_link_start {s : State} (hp : s.power = .on) (hl : s.link = .start)
    (hx : s.walk.state = .startup) : (enterWaiting s).link = { Link.start with
      lastOriginHold := true, holdTimer := some (plantOf s).holdInterval
      drivePort := { tx := some { kind := .ref, bytes := holdFrameBytes 0 0 }, queue := [] } } := by
  simp [enterWaiting, startHoldTimer, originateHold, offerDrive, portsOpen, holdMode, plantOf, hp, hl, hx]
  exact ⟨rfl, rfl, rfl, rfl⟩

/-- The motion link (R11, R12, R18). -/
theorem powerOn_link (found : List FoundItem) (s : State) : (powerOn found s).link = { Link.start with
    lastOriginHold := true, holdTimer := some (plantOf (powerOn found s)).holdInterval
    drivePort := { tx := some { kind := .ref, bytes := holdFrameBytes 0 0 }, queue := [] } } := by
  obtain ⟨hpower, hlink, hstate, -⟩ := startedBlocks_frame found s
  have hplant : plantOf (powerOn found s) = plantOf (startedBlocks found s) :=
    plantOf_congr (by simp [powerOn_eq])
  rw [hplant, powerOn_eq, (beginLine_frame _).2.1]
  exact enterWaiting_link_start hpower hlink hstate

theorem clampPair_clamped (nativeMin nativeMax lo hi : Nat) :
    PairClamped nativeMin nativeMax lo hi (clampPair nativeMin nativeMax lo hi).1
      (clampPair nativeMin nativeMax lo hi).2 := by
  unfold clampPair
  split
  case isTrue h => exact ⟨fun _ => ⟨rfl, rfl⟩, fun hn => absurd h hn⟩
  case isFalse h => exact ⟨fun hp => absurd hp h, fun _ => ⟨rfl, rfl⟩⟩

theorem clampLimits_clamped (native w : Limits) : LimitsClamped native w (clampLimits native w) :=
  ⟨clampPair_clamped _ _ _ _, clampPair_clamped _ _ _ _⟩

/-- The position unit: no position, and the working limits from the store (R26, R32, R36). -/
theorem powerOn_position (found : List FoundItem) (s : State) : (powerOn found s).position
    = { PositionUnit.start with
        working := (geometryOf (powerOn found s)).map fun g =>
          limitsFromStore (powerOn found s) g.native } := by
  set store := presentedStore s.store found with hstore
  have hposition : (powerOn found s).position = (startedUnits store s.pending).position := by
    simp [powerOn_eq, startedBlocks_eq, ← hstore, settleStart_eq]
  have htables : (powerOn found s).tables = (startedUnits store s.pending).tables := by
    simp [powerOn_eq, startedBlocks_eq, ← hstore, settleStart_eq]
  have hheld : (powerOn found s).store = store := (powerOn_settled found s).2.1
  have hgeometry : geometryOf (powerOn found s) = geometryOf (startedUnits store s.pending) := by
    simp only [geometryOf, htables]
  have hlimits : limitsFromStore (powerOn found s) = limitsFromStore (startedUnits store s.pending) := by
    funext native
    simp only [limitsFromStore, hheld]
    rfl
  rw [hposition, hgeometry, hlimits]
  rfl

/-- The station line (R122, R133; log entries 12 and 48). -/
theorem powerOn_line (found : List FoundItem) (s : State) : (powerOn found s).line = {
    records := List.replicate (stationCount (powerOn found s)) freshRecord, found := [], pointer := 0
    scanTimer := some (scanPeriod (powerOn found s)), deferredStart := false, enrollWaiting := false
    finishing := none
    flight := .round
      { stage := if (powerOn found s).tables.active.station = none then .completing else .sweeping
        jobs := [], sweep := firstSweep, readOk := [] } } := by
  have htables : (powerOn found s).tables = (enterWaiting (startedBlocks found s)).tables := by
    simp [powerOn_eq]
  rw [stationCount_congr (congrArg (·.active.station) htables), scanPeriod_congr htables, htables]
  rw [powerOn_eq, beginLine_line]

/-- A retained set is valid where its bounds are in range and in order (R189). -/
theorem retainedSetValid_eq (l : Limits) : retainedSetValid l
    = decide (l.hoistMin ≤ 65534 ∧ l.hoistMax ≤ 65534 ∧ l.dragMin ≤ 65534 ∧ l.dragMax ≤ 65534
        ∧ l.hoistMin < l.hoistMax ∧ l.dragMin < l.dragMax) := by
  rw [Bool.eq_iff_iff]
  simp [retainedSetValid, and_assoc]

/-- What the store holds after the start: what it presents, as far as it is valid, each item's status by its
copy, and no write in flight (R189; log entry 7). -/
theorem presentedStore_items (st : RetainedStore) (found : List FoundItem) :
    (∀ k, (presentedStore st found).images.get k
        = (presented (st.images.get k) (imagesFound k found)).filter (imageValid k)
      ∧ (presentedStore st found).imageStatus.get k
        = if ((presentedStore st found).images.get k).isSome then .current else .none)
    ∧ (presentedStore st found).keyCopy
      = (presented st.keyCopy (keysFound found)).filter (fun key => key.length = 16)
    ∧ (presentedStore st found).keyStatus
      = (if (presentedStore st found).keyCopy.isSome then .current else .none)
    ∧ (presentedStore st found).limitsCopy
      = (presented st.limitsCopy (limitsFound found)).filter (fun l =>
          l.hoistMin ≤ 65534 ∧ l.hoistMax ≤ 65534 ∧ l.dragMin ≤ 65534 ∧ l.dragMax ≤ 65534
            ∧ l.hoistMin < l.hoistMax ∧ l.dragMin < l.dragMax)
    ∧ (presentedStore st found).limitsStatus
      = (if (presentedStore st found).limitsCopy.isSome then .current else .none)
    ∧ (presentedStore st found).inFlight = none := by
  refine ⟨fun k => ⟨?_, ?_⟩, ?_, rfl, ?_, rfl, rfl⟩
  · rw [presentedStore, validateStore, perKind_get, validImage, placeItems_image]
  · rw [presentedStore, validateStore, perKind_get, perKind_get]
    rfl
  · rw [presentedStore, validateStore, placeItems_key]
    rfl
  · rw [presentedStore, validateStore, placeItems_limits, funext retainedSetValid_eq]

/-- A kind without an active table is ABSENT and holds slot 10 (R135, R185). -/
theorem tableAbsent_of_absent {s : State} {k : Kind} (h : s.tables.active.get k = none) :
    tableStateCode s k = 0 ∧ tableAbsent s = true := by
  have hany : allKinds.any (fun k => (s.tables.active.get k).isNone) = true :=
    List.any_eq_true.2 ⟨k, by cases k <;> decide, by simp [h]⟩
  exact ⟨by simp [tableStateCode, h], by simp [tableAbsent, hany]⟩

/-- Settles O60: the blocks are settled from what the store presents, stage by stage; the hand-off of an absent
position finds nothing to change. -/
theorem powerOnSettlesTheBlocks : Obligations.PowerOnSettlesTheBlocks := by
  unfold Obligations.PowerOnSettlesTheBlocks
  dsimp only
  intro found s
  obtain ⟨hpower, hstore, htables, hmgmt⟩ := powerOn_settled found s
  obtain ⟨himages, hkey, hkeyStatus, hlimits, hlimitsStatus, hflight⟩ :=
    presentedStore_items s.store found
  obtain ⟨hshaper, hswing, hwalk⟩ := powerOn_units found s
  have hlink := powerOn_link found s
  have hposition := powerOn_position found s
  have hline := powerOn_line found s
  have halarm := powerOn_alarm found s
  have hslots := startedAlarm_slotOf halarm
  have hactive (k : Kind) : (powerOn found s).tables.active.get k
      = (presented (s.store.images.get k) (imagesFound k found)).filter (imageValid k) := by
    rw [htables, (himages k).1]
  refine ⟨powerOn found s, rfl, hpower, hactive, fun k hinvalid => ?_, ?_⟩
  · have hnone : (powerOn found s).tables.active.get k = none := by
      rw [hactive, Option.filter_eq_none_iff]
      exact fun bytes hbytes => by simp [hinvalid bytes hbytes]
    obtain ⟨hcode, habsent⟩ := tableAbsent_of_absent hnone
    refine ⟨hcode, ?_, by rw [hslots]; simp [habsent]⟩
    rw [hstore, (himages k).2, (himages k).1, ← hactive, hnone]
    rfl
  have hdefinitions := congrArg AlarmUnit.bound halarm
  generalize powerOn found s = t at *
  refine ⟨fun k => ?commitNo, fun k => ?images, ?inFlight, ?key, ?keyCopy, ?keyStatus, ?limitsStatus, ?lock,
    ?attempts, ?restartPending, ?deferredStore, ?outCommit, ?outEnroll, ?seqFlag, ?retainedOnce, ?staging,
    ?cabState, ?silence, ?lastCycle, ?origin, ?holdTimer, fun m => ?drives, ?drivePort, ?cabPort, ?held,
    ?position, fun hg => ?unlimited, ?limitsCopy, fun g hg => ?working, ?found, ?pointer, ?deferredStart,
    ?enrollWaiting, ?finishing, ?flight, hshaper, hswing, hwalk, ?records, ?scanTimer, ?time, ?firstOut,
    hslots, ?list, ?notices, ?log, ?nextSeq, ?lastPosition, ?lastContaining, ?bound⟩
  case commitNo => rw [htables]; cases k <;> rfl
  case images => rw [hstore, (himages k).2, htables]; exact ⟨rfl, rfl⟩
  case inFlight | limitsCopy => rw [hstore]; assumption
  case limitsStatus => rw [hstore, hlimitsStatus]
  case key => rw [hmgmt, hkey]
  case keyCopy => rw [hstore, hmgmt]
  case keyStatus => rw [hstore, hmgmt, hkeyStatus]
  case lock => rw [hmgmt]
  case attempts | restartPending | deferredStore | outCommit | outEnroll | seqFlag | retainedOnce
      | staging => rw [hmgmt]; rfl
  case origin | holdTimer | drivePort => rw [hlink]
  case cabState | silence | lastCycle | cabPort | held => rw [hlink]; rfl
  case drives => rw [hlink]; cases m <;> rfl
  case position => rw [hposition]; rfl
  case unlimited => rw [hposition, hg]; rfl
  case working =>
    refine ⟨limitsFromStore t g.native, by rw [hposition, hg]; rfl, ?_⟩
    unfold limitsFromStore
    cases t.store.limitsCopy with
    | none => rfl
    | some w => exact clampLimits_clamped g.native w
  case found | pointer | deferredStart | enrollWaiting | finishing | flight | records | scanTimer =>
    rw [hline]
  case bound => exact hdefinitions
  all_goals
    rw [halarm]
    rfl

end Sys2Proof.Machine
end

section
/-! SUPPORT. Which slots an operation on alarms touches, said once for all of them: every other slot keeps its
condition, its timer and its entry, in the order of the list, and what is logged is of the slots touched
(R138, R142 to R145, R154, R157). -/

namespace Sys2Proof.Machine

/-! ### What stands outside the slots touched -/

/-- Between two states the alarm unit differs in the slots named alone: the others keep condition, timer and
entries, a first-out record that is filled stands, and the log gains events of the slots named. -/
structure AlarmsTouched (which : Nat → Prop) (s t : State) : Prop where
  slot : ∀ n, ¬ which n → slotOf t n = slotOf s n
  entries : ∀ p : Nat → Bool, (∀ n, p n = true → ¬ which n) →
    t.alarm.list.filter (fun e => p e.slot) = s.alarm.list.filter fun e => p e.slot
  length : t.alarm.slots.length = s.alarm.slots.length
  firstOut : s.alarm.firstOut ≠ none → t.alarm.firstOut = s.alarm.firstOut
  time : t.alarm.time = s.alarm.time
  logged : s.alarm.log.length ≤ 256 → ∃ events : List (LogKind × Nat),
    (∀ x ∈ events, which x.2) ∧ Logged events s t

/-- An operation that reaches neither the slots, the list, the first-out record, the time nor the log. -/
theorem alarmsTouched_of_same {which : Nat → Prop} {s t : State} (hslots : t.alarm.slots = s.alarm.slots)
    (hlist : t.alarm.list = s.alarm.list) (hfirst : t.alarm.firstOut = s.alarm.firstOut)
    (htime : t.alarm.time = s.alarm.time) (hlog : t.alarm.log = s.alarm.log)
    (hseq : t.alarm.nextSeq = s.alarm.nextSeq) : AlarmsTouched which s t where
  slot n _ := slotOf_congr hslots n
  entries _ _ := by rw [hlist]
  length := by rw [hslots]
  firstOut _ := hfirst
  time := htime
  logged h := ⟨[], by simp, logged_nil h hlog hseq⟩

theorem alarmsTouched_of_alarm {which : Nat → Prop} {s t : State} (h : t.alarm = s.alarm) :
    AlarmsTouched which s t := by
  apply alarmsTouched_of_same <;> rw [h]

theorem AlarmsTouched.trans {which : Nat → Prop} {s t u : State} (h : AlarmsTouched which s t)
    (h' : AlarmsTouched which t u) : AlarmsTouched which s u where
  slot n hn := (h'.slot n hn).trans (h.slot n hn)
  entries p hp := (h'.entries p hp).trans (h.entries p hp)
  length := h'.length.trans h.length
  firstOut hf := by
    have hkept := h.firstOut hf
    exact (h'.firstOut (by rwa [hkept])).trans hkept
  time := h'.time.trans h.time
  logged hl := by
    obtain ⟨a, ha, hla⟩ := h.logged hl
    obtain ⟨b, hb, hlb⟩ := h'.logged hla.length_le
    exact ⟨a ++ b, fun x hx => (List.mem_append.1 hx).elim (ha x) (hb x), hla.trans hlb h.time⟩

theorem AlarmsTouched.mono {which which' : Nat → Prop} {s t : State} (h : AlarmsTouched which s t)
    (hw : ∀ n, which n → which' n) : AlarmsTouched which' s t where
  slot n hn := h.slot n fun hx => hn (hw n hx)
  entries p hp := h.entries p fun n hn hx => hp n hn (hw n hx)
  length := h.length
  firstOut := h.firstOut
  time := h.time
  logged hl := by
    obtain ⟨events, he, hlogged⟩ := h.logged hl
    exact ⟨events, fun x hx => hw _ (he x hx), hlogged⟩

/-! ### The entries of one slot -/

/-- The entries of a slot on the active list. -/
def entriesAt (s : State) (n : Nat) : List Entry := s.alarm.list.filter fun e => e.slot == n

theorem entryOf_eq_head (s : State) (n : Nat) : entryOf s n = (entriesAt s n).head? :=
  List.head?_filter.symm

theorem entriesAt_eq_nil {s : State} {n : Nat} : entriesAt s n = [] ↔ entryOf s n = none := by
  rw [entryOf_eq_head, List.head?_eq_none_iff]

section

variable {which : Nat → Prop} {s t : State} (h : AlarmsTouched which s t)
include h

theorem AlarmsTouched.entriesAt {n : Nat} (hn : ¬ which n) : entriesAt t n = entriesAt s n :=
  h.entries (· == n) fun m hm => by rwa [beq_iff_eq.1 hm]

theorem AlarmsTouched.entryOf {n : Nat} (hn : ¬ which n) : entryOf t n = entryOf s n := by
  rw [entryOf_eq_head, h.entriesAt hn, entryOf_eq_head]

theorem AlarmsTouched.idleAt {n : Nat} (hn : ¬ which n) : IdleAt t n ↔ IdleAt s n := by
  rw [IdleAt, h.slot n hn, h.entryOf hn, IdleAt]

theorem AlarmsTouched.mem_list {e : Entry} (he : ¬ which e.slot) :
    e ∈ t.alarm.list ↔ e ∈ s.alarm.list := by
  have hmem (u : State) : e ∈ u.alarm.list ↔ e ∈ Machine.entriesAt u e.slot := by simp [Machine.entriesAt]
  rw [hmem, h.entriesAt he, ← hmem]

end

/-! ### The operations on one slot -/

theorem setSlot_touched (n : Nat) (x : Slot) (s : State) : AlarmsTouched (· = n) s (setSlot n x s) where
  slot _ hm := slotOf_setSlot_other hm
  entries _ _ := rfl
  length := setSlot_slots_length n x s
  firstOut _ := rfl
  time := rfl
  logged h := ⟨[], by simp, logged_nil h rfl rfl⟩

theorem logEvent_touched (kind : LogKind) (n : Nat) (s : State) :
    AlarmsTouched (· = n) s (logEvent kind n s) where
  slot _ _ := rfl
  entries _ _ := rfl
  length := rfl
  firstOut _ := rfl
  time := rfl
  logged h := ⟨[(kind, n)], by simp, logEvent_logged kind n h⟩

theorem setEntryState_touched (n : Nat) (x : EntryState) (s : State) :
    AlarmsTouched (· = n) s (setEntryState n x s) where
  slot _ _ := rfl
  entries p hp := by
    rw [setEntryState, State.withAlarm_alarm, List.filter_map]
    have hkept (e : Entry) : p (if e.slot == n then { e with state := x } else e).slot = p e.slot := by
      split <;> rfl
    have hfilter : s.alarm.list.filter ((fun e => p e.slot) ∘ fun e =>
        if e.slot == n then { e with state := x } else e) = s.alarm.list.filter fun e => p e.slot :=
      List.filter_congr fun e _ => hkept e
    rw [hfilter]
    refine (List.map_congr_left fun e he => if_neg ?_).trans (List.map_id _)
    have hne : e.slot ≠ n := hp _ (List.mem_filter.1 he).2
    simpa using hne
  length := rfl
  firstOut _ := rfl
  time := rfl
  logged h := ⟨[], by simp, logged_nil h rfl rfl⟩

theorem removeEntry_touched (n : Nat) (a : Attrs) (s : State) :
    AlarmsTouched (· = n) s (removeEntry n a s) where
  slot m _ := by rw [slotOf, removeEntry_alarm, slotOf]
  entries p hp := by
    rw [removeEntry_alarm]
    simp only [List.filter_filter]
    refine List.filter_congr fun e _ => ?_
    by_cases he : p e.slot = true
    · have hne : e.slot ≠ n := hp _ he
      simp [hne]
    · simp [he]
  length := by rw [removeEntry_alarm]
  firstOut _ := by rw [removeEntry_alarm]
  time := by rw [removeEntry_alarm]
  logged h := ⟨[(.remove, n)], by simp, removeEntry_logged n a h⟩

theorem raiseSlot_touched (n : Nat) (a : Attrs) (s : State) :
    AlarmsTouched (· = n) s (raiseSlot n a s) where
  slot m hm := by
    have hne : n ≠ m := Ne.symm hm
    rw [slotOf, raiseSlot_alarm]
    simp [slotOf, hne]
  entries p hp := by
    have hn : p n = false := by
      by_contra hpn
      exact hp n (by simpa using hpn) rfl
    rw [raiseSlot_alarm]
    simp [hn]
  length := by simp [raiseSlot_alarm]
  firstOut hf := by
    rw [raiseSlot_alarm]
    simp [firstOutAfter, hf]
  time := by rw [raiseSlot_alarm]
  logged h := ⟨[(.raise, n)], by simp, raiseSlot_logged n a h⟩

theorem returnEntry_touched (n : Nat) (a : Attrs) (e : Entry) (s : State) :
    AlarmsTouched (· = n) s (returnEntry n a e s) := by
  have hlogged := logEvent_touched .return' n s
  unfold returnEntry
  split
  · split
    · exact hlogged.trans (setEntryState_touched n _ _)
    · exact hlogged.trans (removeEntry_touched n a _)
  · exact hlogged.trans (removeEntry_touched n a _)
  · exact alarmsTouched_of_alarm rfl

/-- An evaluation touches its own slot (R142). -/
theorem evaluate_touched (n : Nat) (v : Bool) (s : State) :
    AlarmsTouched (· = n) s (evaluate n v s) := by
  rcases ha : attrsOf s n with _ | a
  · rw [evaluate, ha]
    exact alarmsTouched_of_alarm rfl
  rcases he : entryOf s n with _ | e
  · rw [evaluate_unlisted ha he]
    split
    · split
      · exact setSlot_touched n _ s
      · split
        · exact (setSlot_touched n _ s).trans (raiseSlot_touched n a _)
        · exact setSlot_touched n _ s
    · exact setSlot_touched n _ s
  · have hstored := setSlot_touched n { slotOf s n with condition := v } s
    rw [evaluate_listed ha he]
    split
    · refine hstored.trans ?_
      unfold reassert
      split
      · exact setEntryState_touched n _ _
      all_goals exact alarmsTouched_of_alarm rfl
    · exact hstored.trans (returnEntry_touched n a e _)

theorem resetSlot_touched (n : Nat) (s : State) : AlarmsTouched (· = n) s (resetSlot n s) := by
  unfold resetSlot
  split
  · exact (removeEntry_touched n _ s).trans (setSlot_touched n _ _)
  · exact setSlot_touched n _ s

/-- A slot set back is IDLE (R138). -/
theorem resetSlot_idleAt {s : State} {n : Nat} (hn : n < s.alarm.slots.length) : IdleAt (resetSlot n s) n := by
  have hremoved (a : Attrs) : entryOf (removeEntry n a s) n = none := by
    rw [entryOf_none, removeEntry_alarm]
    simp
  unfold resetSlot
  split
  · exact ⟨slotOf_setSlot_same (by simpa [removeListed] using hn), hremoved _⟩
  · rename_i hlisted
    exact ⟨slotOf_setSlot_same hn, show entryOf s n = none by simpa using hlisted⟩

/-- What a true evaluation leaves of a slot that was IDLE: PENDING where it has a delay, otherwise listed as
raised; a false one leaves it IDLE (R142 to R144). -/
theorem evaluate_idleAt {s : State} {n : Nat} {a : Attrs} (h : IdleAt s n) (ha : attrsOf s n = some a)
    (hn : n < s.alarm.slots.length) (v : Bool) :
    slotOf (evaluate n v s) n
        = { condition := v, delay := if v = true ∧ a.delay ≠ 0 then some a.delay else none }
      ∧ entriesAt (evaluate n v s) n = if v = true ∧ a.delay = 0 then
          [{ slot := n, state := .raisedUnack, time := s.alarm.time }] else [] := by
  obtain ⟨hslot, hentry⟩ := h
  have hnone : entriesAt s n = [] := entriesAt_eq_nil.2 hentry
  rw [evaluate_unlisted ha hentry]
  cases v with
  | false => exact ⟨by simp [slotOf_setSlot_same hn], by rw [if_neg (by simp)]; exact hnone⟩
  | true =>
    rw [if_pos rfl, if_neg (by simp [hslot, Slot.start])]
    by_cases hdelay : a.delay = 0
    · rw [if_pos hdelay]
      have halarm := raiseSlot_alarm n a (setSlot n { slotOf s n with condition := true } s)
      refine ⟨?_, ?_⟩
      · rw [slotOf, halarm]
        simp [setSlot, slotOf, hn, hdelay]
      · have hlist : s.alarm.list.filter (fun e => e.slot == n) = [] := hnone
        rw [entriesAt, halarm]
        simp [setSlot, hlist, hdelay]
    · rw [if_neg hdelay]
      exact ⟨by simp [slotOf_setSlot_same hn, hdelay], by rw [if_neg (by simp [hdelay])]; exact hnone⟩

/-! ### The bound sources (R139 to R141) -/

/-- A list with indices, split at one of them. -/
theorem zipIdx_split {α : Type} {l : List α} {k : Nat} {d : α} (h : l[k]? = some d) :
    ∃ l₁ l₂, l.zipIdx = l₁ ++ (d, k) :: l₂ ∧ (∀ x ∈ l₁, x.2 ≠ k) ∧ ∀ x ∈ l₂, x.2 ≠ k := by
  obtain ⟨hk, rfl⟩ := List.getElem?_eq_some_iff.1 h
  refine ⟨(l.take k).zipIdx, (l.drop (k + 1)).zipIdx (k + 1), ?_, fun x hx => ?_, fun x hx => ?_⟩
  · conv_lhs => rw [← List.take_append_drop k l, List.zipIdx_append]
    rw [List.drop_eq_getElem_cons hk, List.zipIdx_cons, List.length_take, Nat.min_eq_left hk.le]
    simp
  · have hlt := List.snd_lt_of_mem_zipIdx hx
    rw [List.length_take] at hlt
    omega
  · have hle := List.le_snd_of_mem_zipIdx hx
    omega

/-- Folding over operations that each touch some of the slots. -/
theorem foldl_touched {α : Type} {which : Nat → Prop} {g : State → α → State} {l : List α} {s : State}
    (P : State → Prop) (hs : P s) (hP : ∀ x, P x → ∀ d ∈ l, P (g x d))
    (hg : ∀ x, P x → ∀ d ∈ l, AlarmsTouched which x (g x d)) :
    P (l.foldl g s) ∧ AlarmsTouched which s (l.foldl g s) := by
  refine List.foldlRecOn (motive := fun x => P x ∧ AlarmsTouched which s x) l g
    ⟨hs, alarmsTouched_of_alarm rfl⟩ fun x hx d hd => ?_
  exact ⟨hP x hx.1 d hd, hx.2.trans (hg x hx.1 d hd)⟩

/-- What every step of an evaluation of the sources keeps: the definitions, the bindings and the number of
slots. -/
def SameSources (s t : State) : Prop := definitionsOf t = definitionsOf s ∧ t.alarm.bound = s.alarm.bound

theorem sourceStep_same (value : AlarmDef → Bool → Option Bool) (s : State) (d : AlarmDef × Nat) :
    SameSources s (sourceStep value s d) := by
  rcases sourceStep_cases value s d with h | ⟨v, h⟩ <;> rw [h]
  · exact ⟨rfl, rfl⟩
  · exact ⟨definitionsOf_congr (by simp), by simp⟩

/-- A definition touches its slot if it is bound and has a value. -/
theorem sourceStep_touched (value : AlarmDef → Bool → Option Bool) (s : State) (d : AlarmDef × Nat) :
    AlarmsTouched (fun n => n = 12 + d.2 ∧ s.alarm.bound.getD d.2 false = true
      ∧ ∃ b v, value d.1 b = some v) s (sourceStep value s d) := by
  unfold sourceStep
  split
  · rename_i hbound
    split
    · rename_i v hvalue
      exact (evaluate_touched _ _ _).mono fun n hn => ⟨hn, hbound, _, v, hvalue⟩
    · exact alarmsTouched_of_alarm rfl
  · exact alarmsTouched_of_alarm rfl

/-- The slots of the bound definitions that can have a value. -/
def ValuedSlot (value : AlarmDef → Bool → Option Bool) (s : State) (n : Nat) : Prop :=
  ∃ k d, n = 12 + k ∧ (definitionsOf s)[k]? = some d ∧ s.alarm.bound.getD k false = true
    ∧ ∃ b v, value d b = some v

theorem sources_touched {value : AlarmDef → Bool → Option Bool} {s : State} (l : List (AlarmDef × Nat)) :
    SameSources s (l.foldl (sourceStep value) s)
      ∧ AlarmsTouched (fun n => ∃ d ∈ l, n = 12 + d.2 ∧ s.alarm.bound.getD d.2 false = true
        ∧ ∃ b v, value d.1 b = some v) s (l.foldl (sourceStep value) s) := by
  refine foldl_touched (SameSources s) ⟨rfl, rfl⟩ (fun x hx d _ => ?_) fun x hx d hd => ?_
  · obtain ⟨hdefs, hbound⟩ := sourceStep_same value x d
    exact ⟨hdefs.trans hx.1, hbound.trans hx.2⟩
  · refine (sourceStep_touched value x d).mono fun n ⟨hn, hbound, hvalue⟩ => ⟨d, hd, hn, ?_, hvalue⟩
    rwa [hx.2] at hbound

theorem evaluateBound_touched (value : AlarmDef → Bool → Option Bool) (s : State) :
    AlarmsTouched (ValuedSlot value s) s (evaluateBound value s) := by
  rw [evaluateBound_eq]
  refine (sources_touched _).2.mono fun n ⟨d, hd, hn, hbound, hvalue⟩ => ⟨d.2, d.1, hn, ?_, hbound, hvalue⟩
  exact List.mem_zipIdx_iff_getElem?.1 hd

/-- What the evaluation leaves of an IDLE slot whose definition is bound and has a value. -/
theorem evaluateBound_idleAt {value : AlarmDef → Bool → Option Bool} {s : State} {k : Nat} {d : AlarmDef}
    {v : Bool} (h : IdleAt s (12 + k)) (hk : 12 + k < s.alarm.slots.length)
    (hd : (definitionsOf s)[k]? = some d) (hbound : s.alarm.bound.getD k false = true)
    (hvalue : value d false = some v) :
    slotOf (evaluateBound value s) (12 + k)
        = { condition := v
            delay := if v = true ∧ d.attrs.delay ≠ 0 then some d.attrs.delay else none }
      ∧ entriesAt (evaluateBound value s) (12 + k) = if v = true ∧ d.attrs.delay = 0 then
          [{ slot := 12 + k, state := .raisedUnack, time := s.alarm.time }] else [] := by
  obtain ⟨l₁, l₂, hsplit, hbefore, hafter⟩ := zipIdx_split hd
  rw [evaluateBound_eq, hsplit, List.foldl_append, List.foldl_cons]
  obtain ⟨⟨hdefs, hsame⟩, hfirst⟩ := sources_touched (value := value) (s := s) l₁
  generalize l₁.foldl (sourceStep value) s = x at hdefs hsame hfirst ⊢
  have hidle : IdleAt x (12 + k) := (hfirst.idleAt fun ⟨d', hd', hn, _⟩ =>
    hbefore d' hd' (Nat.add_left_cancel hn).symm).2 h
  have hstep : sourceStep value x (d, k) = evaluate (12 + k) v x := by
    have hcondition : (slotOf x (12 + k)).condition = false := by rw [hidle.1]; rfl
    rw [sourceStep, hsame, if_pos hbound]
    simp only [hcondition, hvalue]
  have hattrs : attrsOf x (12 + k) = some d.attrs := by simp [attrsOf, hdefs, hd]
  obtain ⟨hslot, hentries⟩ := evaluate_idleAt hidle hattrs (by rw [hfirst.length]; exact hk) v
  obtain ⟨-, hrest⟩ := sources_touched (value := value) (s := evaluate (12 + k) v x) l₂
  have hlast (d' : AlarmDef × Nat) (hd' : d' ∈ l₂) (hn : 12 + k = 12 + d'.2) : False :=
    hafter d' hd' (Nat.add_left_cancel hn).symm
  rw [hstep, hrest.slot _ fun ⟨d', hd', hn, _⟩ => hlast d' hd' hn,
    hrest.entriesAt fun ⟨d', hd', hn, _⟩ => hlast d' hd' hn, hslot, hentries, hfirst.time]
  exact ⟨rfl, rfl⟩

/-! ### The binding settled (R138) -/

/-- One definition of a settling of the binding. -/
def bindingStep (now : List Bool) (s : State) (d : AlarmDef × Nat) : State :=
  if s.alarm.bound.getD d.2 false != now.getD d.2 false then resetSlot (12 + d.2) s else s

theorem settleBinding_eq (s : State) : settleBinding s =
    let x := (definitionsOf s).zipIdx.foldl (bindingStep ((definitionsOf s).map (isBound s))) s
    x.withAlarm { x.alarm with bound := (definitionsOf s).map (isBound s) } := rfl

theorem settleBinding_bound (s : State) :
    (settleBinding s).alarm.bound = (definitionsOf s).map (isBound s) := rfl

/-- Whether the standing of definition n changes as the binding is settled. -/
def Rebound (s : State) (n : Nat) : Prop :=
  s.alarm.bound.getD n false ≠ ((definitionsOf s).map (isBound s)).getD n false

theorem bindingStep_touched (now : List Bool) (s : State) (d : AlarmDef × Nat) :
    (bindingStep now s d).alarm.bound = s.alarm.bound
      ∧ AlarmsTouched (fun n => n = 12 + d.2 ∧ s.alarm.bound.getD d.2 false ≠ now.getD d.2 false) s
        (bindingStep now s d) := by
  unfold bindingStep
  split
  · rename_i hchanged
    exact ⟨by simp, (resetSlot_touched _ s).mono fun n hn => ⟨hn, by simpa using hchanged⟩⟩
  · exact ⟨rfl, alarmsTouched_of_alarm rfl⟩

theorem bindings_touched {now : List Bool} {s : State} (l : List (AlarmDef × Nat)) :
    (l.foldl (bindingStep now) s).alarm.bound = s.alarm.bound
      ∧ AlarmsTouched (fun n => ∃ d ∈ l, n = 12 + d.2
        ∧ s.alarm.bound.getD d.2 false ≠ now.getD d.2 false) s (l.foldl (bindingStep now) s) := by
  refine foldl_touched (fun x => x.alarm.bound = s.alarm.bound) rfl (fun x hx d _ => ?_) fun x hx d hd => ?_
  · exact (bindingStep_touched now x d).1.trans hx
  · refine (bindingStep_touched now x d).2.mono fun n ⟨hn, hchanged⟩ => ⟨d, hd, hn, ?_⟩
    rwa [hx] at hchanged

theorem settleBinding_touched (s : State) : AlarmsTouched (fun n => ∃ k d, n = 12 + k
    ∧ (definitionsOf s)[k]? = some d ∧ Rebound s k) s (settleBinding s) := by
  refine AlarmsTouched.trans ((bindings_touched (definitionsOf s).zipIdx).2.mono
    fun n ⟨d, hd, hn, hchanged⟩ => ⟨d.2, d.1, hn, List.mem_zipIdx_iff_getElem?.1 hd, hchanged⟩) ?_
  exact alarmsTouched_of_same rfl rfl rfl rfl rfl rfl

/-- A definition whose standing changes starts IDLE. -/
theorem settleBinding_idleAt {s : State} {k : Nat} {d : AlarmDef} (hd : (definitionsOf s)[k]? = some d)
    (hk : 12 + k < s.alarm.slots.length) (hchanged : Rebound s k) : IdleAt (settleBinding s) (12 + k) := by
  obtain ⟨l₁, l₂, hsplit, -, hafter⟩ := zipIdx_split hd
  set now := (definitionsOf s).map (isBound s) with hnow
  have hfold : IdleAt ((definitionsOf s).zipIdx.foldl (bindingStep now) s) (12 + k) := by
    rw [hsplit, List.foldl_append, List.foldl_cons]
    obtain ⟨hsame, hfirst⟩ := bindings_touched (now := now) (s := s) l₁
    generalize l₁.foldl (bindingStep now) s = x at hsame hfirst ⊢
    have hstep : bindingStep now x (d, k) = resetSlot (12 + k) x := by
      rw [Rebound, ← hnow] at hchanged
      simp only [bindingStep, hsame]
      rw [if_pos (by simpa using hchanged)]
    obtain ⟨-, hrest⟩ := bindings_touched (now := now) (s := resetSlot (12 + k) x) l₂
    rw [hstep, hrest.idleAt fun ⟨d', hd', hn, _⟩ => hafter d' hd' (Nat.add_left_cancel hn).symm]
    exact resetSlot_idleAt (by rw [hfirst.length]; exact hk)
  exact hfold

/-- An IDLE slot stays IDLE whatever its binding becomes. -/
theorem settleBinding_keeps_idleAt {s : State} {k : Nat} (hk : 12 + k < s.alarm.slots.length)
    (h : IdleAt s (12 + k)) : IdleAt (settleBinding s) (12 + k) := by
  by_cases hchanged : ∃ d, (definitionsOf s)[k]? = some d ∧ Rebound s k
  · obtain ⟨d, hd, hrebound⟩ := hchanged
    exact settleBinding_idleAt hd hk hrebound
  · refine ((settleBinding_touched s).idleAt fun ⟨k', d, hk', hd, hrebound⟩ => hchanged ⟨d, ?_⟩).2 h
    obtain rfl := Nat.add_left_cancel hk'
    exact ⟨hd, hrebound⟩

/-- The events that settling the binding logs: the removals of the listed definitions whose standing changes,
in slot order (log entry 44). -/
theorem bindings_logged {now bound : List Bool} (l : List (AlarmDef × Nat)) {s : State}
    (hnodup : (l.map (·.2)).Nodup) (hbound : s.alarm.bound = bound) (hlog : s.alarm.log.length ≤ 256) :
    Logged ((l.filter fun d => bound.getD d.2 false != now.getD d.2 false
        && (entryOf s (12 + d.2)).isSome).map fun d => (.remove, 12 + d.2)) s
      (l.foldl (bindingStep now) s) := by
  induction l generalizing s with
  | nil => exact logged_nil hlog rfl rfl
  | cons d l ih =>
    obtain ⟨hfresh, hrest⟩ := List.nodup_cons.1 hnodup
    obtain ⟨hsame, htouched⟩ := bindingStep_touched now s d
    have hentries (x : AlarmDef × Nat) (hx : x ∈ l) :
        entryOf (bindingStep now s d) (12 + x.2) = entryOf s (12 + x.2) := by
      refine htouched.entryOf fun ⟨hn, _⟩ => hfresh ?_
      have hsame : x.2 = d.2 := Nat.add_left_cancel hn
      exact List.mem_map.2 ⟨x, hx, hsame⟩
    have hstep : Logged (if (bound.getD d.2 false != now.getD d.2 false
        && (entryOf s (12 + d.2)).isSome) = true then [(.remove, 12 + d.2)] else []) s
        (bindingStep now s d) := by
      unfold bindingStep
      rw [hbound]
      cases hchanged : bound.getD d.2 false != now.getD d.2 false with
      | false => exact logged_nil hlog rfl rfl
      | true =>
        cases hlisted : (entryOf s (12 + d.2)).isSome with
        | false =>
          rw [if_pos rfl, resetSlot, hlisted]
          exact logged_nil hlog rfl rfl
        | true =>
          rw [if_pos rfl, resetSlot, hlisted]
          exact (removeEntry_logged (12 + d.2) _ hlog).congr rfl rfl rfl rfl rfl
    have hnext := ih hrest (hsame.trans hbound) hstep.length_le
    rw [List.filter_congr fun x hx => by rw [hentries x hx]] at hnext
    have hall := hstep.trans hnext htouched.time
    rw [List.foldl_cons, List.filter_cons]
    split
    · rename_i hcounts
      rwa [if_pos hcounts] at hall
    · rename_i hcounts
      rwa [if_neg hcounts] at hall

theorem settleBinding_logged {s : State} (hlog : s.alarm.log.length ≤ 256) :
    Logged (((List.range (definitionsOf s).length).filter fun n =>
        s.alarm.bound.getD n false != (settleBinding s).alarm.bound.getD n false
          && (entryOf s (12 + n)).isSome).map fun n => (.remove, 12 + n)) s (settleBinding s) := by
  have hindices : (definitionsOf s).zipIdx.map (·.2) = List.range (definitionsOf s).length := by
    rw [List.range_eq_range']
    exact List.zipIdx_map_snd 0 _
  have hfold := bindings_logged (now := (definitionsOf s).map (isBound s)) (definitionsOf s).zipIdx
    (hindices ▸ List.nodup_range) rfl hlog
  rw [← hindices, List.filter_map, List.map_map]
  exact hfold.congr rfl rfl rfl rfl rfl

/-! ### Slots dropped at a commit (R157, R158) -/

theorem removeEach_logged (l : List Nat) {s : State} (hlog : s.alarm.log.length ≤ 256) :
    Logged (l.map fun n => (.remove, n)) s (l.foldl (fun acc n => removeListed n acc) s) := by
  induction l generalizing s with
  | nil => exact logged_nil hlog rfl rfl
  | cons n l ih =>
    have hfirst := removeEntry_logged n ((attrsOf s n).getD plainAttrs) hlog
    exact hfirst.trans (ih hfirst.length_le) (by simp)

/-- Every slot dropped that is listed is logged as removed, in the order of the list. -/
theorem dropSlots_logged (which : Nat → Bool) {s : State} (hlog : s.alarm.log.length ≤ 256) :
    Logged (removals s which) s (dropSlots which s) :=
  (removeEach_logged _ hlog).congr rfl rfl rfl rfl rfl

theorem dropSlots_touched (which : Nat → Bool) (s : State) :
    AlarmsTouched (which · = true) s (dropSlots which s) where
  slot n hn := by
    by_cases hlen : n < s.alarm.slots.length
    · rw [slotOf_dropSlots which hlen, if_neg hn]
    · obtain ⟨hslots, -⟩ := removeEach_alarm ((s.alarm.list.map (·.slot)).filter which) s
      have hbeyond : s.alarm.slots.length ≤ n := not_lt.1 hlen
      simp [slotOf, dropSlots, hslots, List.getElem?_eq_none hbeyond]
  entries p hp := by
    rw [dropSlots_list, List.filter_filter]
    refine List.filter_congr fun e _ => ?_
    by_cases he : p e.slot = true
    · simp [hp _ he]
    · simp [he]
  length := by
    obtain ⟨hslots, -⟩ := removeEach_alarm ((s.alarm.list.map (·.slot)).filter which) s
    simp [dropSlots, hslots]
  firstOut _ := by simp
  time := by simp
  logged h := by
    refine ⟨_, fun x hx => ?_, dropSlots_logged which h⟩
    obtain ⟨n, hn, rfl⟩ := List.mem_map.1 hx
    exact (List.mem_filter.1 hn).2

theorem dropSlots_idleAt {which : Nat → Bool} {s : State} {n : Nat} (hn : n < s.alarm.slots.length)
    (hw : which n = true) : IdleAt (dropSlots which s) n := by
  rw [IdleAt, slotOf_dropSlots which hn, entryOf_dropSlots, if_pos hw, if_pos hw]
  exact ⟨rfl, rfl⟩

/-! ### Binding, slot by slot (R137) -/

/-- A definition is bound as R137 has it. -/
theorem isBound_iff (s : State) (d : AlarmDef) : isBound s d = true ↔ Binds s d := by
  have hsource : (match d.source with
        | .stationLevel b _ => decide (b.station < stationCount s)
        | .stationEdge b => decide (b.station < stationCount s)
        | .sector n => decide (n < (sectorsOf s).length)
        | .driveFlag _ _ => true
        | .driveValue _ _ _ _ _ => true
        | .zone _ => true) = true ↔
      (∀ b, (d.source = .stationEdge b ∨ ∃ polarity, d.source = .stationLevel b polarity) →
        b.station < stationCount s) ∧ ∀ n, d.source = .sector n → n < (sectorsOf s).length := by
    cases d.source <;> simp
  have houtput : (match d.attrs.output with
        | some b => b.station < stationCount s && !walkOwns s b
        | none => true) = true ↔
      ∀ b, d.attrs.output = some b → b.station < stationCount s ∧ walkOwns s b = false := by
    cases d.attrs.output <;> simp
  rw [Binds, ← and_assoc, ← hsource, ← houtput, ← Bool.and_eq_true]
  rfl

theorem binds_congr {s t : State} (ht : t.tables = s.tables) (hw : t.walk.usable = s.walk.usable)
    (d : AlarmDef) : Binds t d ↔ Binds s d := by
  rw [← isBound_iff, isBound_congr ht hw, isBound_iff]

/-- Once settled, the bound definitions are those that can be (R138). -/
theorem settleBinding_binds {s : State} {n : Nat} {d : AlarmDef} (hd : (definitionsOf s)[n]? = some d) :
    (settleBinding s).alarm.bound.getD n false = true ↔ Binds s d := by
  rw [settleBinding_bound, List.getD_eq_getElem?_getD, List.getElem?_map, hd, ← isBound_iff]
  rfl

/-- A definition that loses its binding is IDLE (R138). -/
theorem settleBinding_unbound_idleAt {s : State} {n : Nat} {d : AlarmDef}
    (hd : (definitionsOf s)[n]? = some d) (hn : 12 + n < s.alarm.slots.length) (hfree : ¬ Binds s d)
    (hbound : s.alarm.bound.getD n false = true) : IdleAt (settleBinding s) (12 + n) := by
  refine settleBinding_idleAt hd hn fun hsame => hfree ?_
  rw [← settleBinding_binds hd, settleBinding_bound, ← hsame]
  exact hbound

end Sys2Proof.Machine
end

section
/-! SUPPORT. What a commit leaves of every block, by kind, up to the last evaluation of slot 10 and the answer
(R43, R83, R157, R158, R182). -/

namespace Sys2Proof.Machine

/-! ### Between the owner's effects and the answered commit (R135, R182) -/

/-- Between two states the alarm unit differs in slot 10 alone, and the line, the units and the tables stand. -/
structure TenOnly (s t : State) : Prop where
  alarms : AlarmsTouched (· = 10) s t
  bound : t.alarm.bound = s.alarm.bound
  lastPosition : t.alarm.lastPosition = s.alarm.lastPosition
  lastContaining : t.alarm.lastContaining = s.alarm.lastContaining
  drives : t.link.drives = s.link.drives
  line : t.line = s.line
  shaper : t.shaper = s.shaper
  swing : t.swing = s.swing
  walk : t.walk = s.walk
  position : t.position = s.position
  tables : t.tables = s.tables

theorem evaluate_ten_only (v : Bool) (s : State) : TenOnly s (evaluate 10 v s) where
  alarms := evaluate_touched 10 v s
  bound := by simp
  lastPosition := by simp
  lastContaining := by simp
  drives := by simp
  line := evaluate_internal_line v s (by decide)
  shaper := evaluate_internal_shaper v s (by decide) (by decide)
  swing := by simp
  walk := by simp
  position := by simp
  tables := by simp

theorem TenOnly.trans {s t u : State} (h : TenOnly s t) (h' : TenOnly t u) : TenOnly s u where
  alarms := h.alarms.trans h'.alarms
  bound := h'.bound.trans h.bound
  lastPosition := h'.lastPosition.trans h.lastPosition
  lastContaining := h'.lastContaining.trans h.lastContaining
  drives := h'.drives.trans h.drives
  line := h'.line.trans h.line
  shaper := h'.shaper.trans h.shaper
  swing := h'.swing.trans h.swing
  walk := h'.walk.trans h.walk
  position := h'.position.trans h.position
  tables := h'.tables.trans h.tables

/-- The retained write and the answer of a commit reach neither the alarm unit nor the blocks (R182, R187). -/
theorem tenOnly_commitTable (k : Kind) (image : Image) (s : State) :
    TenOnly (commitEffects k image s) (commitTable k image s) := by
  refine (evaluate_ten_only (tableAbsent (commitEffects k image s)) _).trans ?_
  constructor
  case alarms => exact alarmsTouched_of_alarm rfl
  all_goals rfl

section

variable {s t : State} (h : TenOnly s t)
include h

theorem TenOnly.slotOf {n : Nat} (hn : n ≠ 10) : slotOf t n = slotOf s n := h.alarms.slot n hn

theorem TenOnly.idleAt {n : Nat} (hn : n ≠ 10) : IdleAt t n ↔ IdleAt s n := h.alarms.idleAt hn

theorem TenOnly.definitionsOf : definitionsOf t = definitionsOf s :=
  definitionsOf_congr (by rw [h.tables])

end

/-- A slot that is IDLE, as the statement of R157 and R158 has it. -/
theorem idleAt_iff {s : State} {n : Nat} : IdleAt s n ↔
    slotOf s n = { condition := false, delay := none } ∧ ∀ e ∈ s.alarm.list, e.slot ≠ n := by
  rw [IdleAt, entryOf_none]
  rfl

/-! ### Binding settled at a commit (R135, R138) -/

theorem settleAlarms_ten (s : State) : TenOnly (settleBinding s) (settleAlarms s) :=
  evaluate_ten_only _ _

theorem settleAlarms_shaper (s : State) : (settleAlarms s).shaper = s.shaper := by
  rw [(settleAlarms_ten s).shaper, (settleBinding_frame s).2.2.2.1]

/-- The slots of the loaded definitions. -/
def DefinedSlot (s : State) (n : Nat) : Prop := ∃ k d, n = 12 + k ∧ (definitionsOf s)[k]? = some d

theorem le_of_definedSlot {s : State} {n : Nat} (h : DefinedSlot s n) : 12 ≤ n := by
  obtain ⟨k, -, rfl, -⟩ := h
  omega

theorem settleAlarms_touched (s : State) :
    AlarmsTouched (fun n => n = 10 ∨ DefinedSlot s n) s (settleAlarms s) :=
  AlarmsTouched.trans ((settleBinding_touched s).mono fun _ ⟨k, d, hn, hd, _⟩ => .inr ⟨k, d, hn, hd⟩)
    ((settleAlarms_ten s).alarms.mono fun _ hn => .inl hn)

theorem settleAlarms_idleAt {s : State} {k : Nat} (hk : 12 + k < s.alarm.slots.length)
    (h : IdleAt s (12 + k)) : IdleAt (settleAlarms s) (12 + k) :=
  ((settleAlarms_ten s).idleAt (by omega)).2 (settleBinding_keeps_idleAt hk h)

theorem settleAlarms_binds {s : State} {n : Nat} {d : AlarmDef} (hd : (definitionsOf s)[n]? = some d) :
    (settleAlarms s).alarm.bound.getD n false = true ↔ Binds s d := by
  rw [(settleAlarms_ten s).bound]
  exact settleBinding_binds hd

theorem settleAlarms_unbound_idleAt {s : State} {n : Nat} {d : AlarmDef}
    (hd : (definitionsOf s)[n]? = some d) (hn : 12 + n < s.alarm.slots.length) (hfree : ¬ Binds s d)
    (hbound : s.alarm.bound.getD n false = true) : IdleAt (settleAlarms s) (12 + n) :=
  ((settleAlarms_ten s).idleAt (by omega)).2 (settleBinding_unbound_idleAt hd hn hfree hbound)

/-! ### GEOMETRY (R43) -/

/-- The state whose absent position a GEOMETRY commit hands on (R43). -/
def geometryCleared (image : Image) (s : State) : State :=
  let a := activate .geometry image s
  closeGates { noMotions with hoist := true, drag := true }
    (a.withPosition { noPosition a.position with working := commitLimits a })

theorem commitEffects_geometry (image : Image) (s : State) :
    commitEffects .geometry image s = handPosition (geometryCleared image s) := rfl

theorem refreshSectors_gated {m : Motion} {s : State} (h : s.shaper.gates.get m = .gated) :
    (refreshSectors s).shaper.gates.get m = .gated := by
  unfold refreshSectors
  refine evaluate_gated ?_ 7 _
  exact h

theorem handPosition_gated {m : Motion} {s : State} (h : s.shaper.gates.get m = .gated) :
    (handPosition s).shaper.gates.get m = .gated := by
  have hclearance : (updateClearance (presentPosition s) s).shaper.gates.get m = .gated := by
    unfold updateClearance
    dsimp only
    split
    · exact h
    · refine refreshSectors_gated ?_
      exact h
  have hkept : (positionKept s).shaper.gates.get m = .gated := hclearance
  have hzones : (zonesHanded s).shaper.gates.get m = .gated := evaluateBound_gated hkept _
  rw [handPosition_eq]
  exact evaluate_gated (evaluate_gated hzones 5 _) 6 _

/-- The working limits are clamped into the new native range, from those in force or from the retained set
(R36, R43). -/
theorem commitLimits_clamped (image : Image) (s : State) :
    ∃ l, commitLimits (activate .geometry image s) = some l ∧
      match s.position.working <|> s.store.limitsCopy with
      | some w => LimitsClamped (readGeometry image).native w l
      | none => l = (readGeometry image).native := by
  have hlimits : commitLimits (activate .geometry image s)
      = some (match s.position.working with
        | some w => clampLimits (readGeometry image).native w
        | none => limitsFromStore s (readGeometry image).native) := rfl
  refine ⟨_, hlimits, ?_⟩
  cases s.position.working with
  | some w => exact clampLimits_clamped _ w
  | none =>
    unfold limitsFromStore
    cases s.store.limitsCopy with
    | some w => exact clampLimits_clamped _ w
    | none => rfl

/-- A GEOMETRY commit leaves no position, closes the drums' gates and settles the working limits. -/
theorem geometry_settles {image : Image} {s t : State} (h : TenOnly (commitEffects .geometry image s) t) :
    t.position = { noPosition s.position with working := commitLimits (activate .geometry image s) }
      ∧ t.shaper.gates.hoist = .gated ∧ t.shaper.gates.drag = .gated
      ∧ t.alarm.lastPosition = none := by
  rw [commitEffects_geometry] at h
  refine ⟨?_, ?_, ?_, ?_⟩
  · rw [h.position, (handPosition_frame _).2.2.1]
    rfl
  · rw [h.shaper]
    exact handPosition_gated (m := .hoist) rfl
  · rw [h.shaper]
    exact handPosition_gated (m := .drag) rfl
  · rw [h.lastPosition, handPosition_lastPosition]
    rfl

/-- Its hand-off of an absent position: slots 5 and 6, the clearances and the ZONE sources (R33, R34, R37, R72,
R141). -/
theorem geometry_hands {image : Image} {s t : State} (h : TenOnly (commitEffects .geometry image s) t)
    (hslots : s.alarm.slots.length = 64) :
    (slotOf t 5).condition = false ∧ (slotOf t 6).condition = travelExceeded t
      ∧ (∀ n sec, n < 16 → (sectorsOf s)[n]? = some sec → sec.cls = .height →
        t.swing.clear.getD n false = false)
      ∧ ∀ n d z, n < 52 → (definitionsOf s)[n]? = some d → s.alarm.bound.getD n false = true →
        d.source = .zone z → (slotOf t (12 + n)).condition = false := by
  rw [commitEffects_geometry] at h
  set x := geometryCleared image s with hx
  have hlen : x.alarm.slots.length = 64 := hslots
  have hnone : x.position.status = .none := rfl
  refine ⟨?_, ?_, fun n sec hn hsec hheight => ?_, fun n d z hn hd hbound hz => ?_⟩
  · rw [h.slotOf (by decide), handPosition_slot_five hlen]
    rfl
  · rw [h.slotOf (by decide), handPosition_slot_six hlen]
    have hframe := handPosition_frame x
    exact (travelExceeded_congr (by rw [h.drives]; simp) (by rw [h.position]; simp)
      (by rw [h.tables]; simp)).symm
  · rw [h.swing, handPosition_clear, clearanceAfter_getD x hn]
    have hsectors : (sectorsOf x)[n]? = some sec := hsec
    rcases hswing : swingOf x with _ | table
    · simp [sectorsOf, hswing] at hsectors
    · simp [hsectors, hheight, hnone]
  · have hzone := handPosition_zoneSource (s := x) (k := n) (z := z) (d := d) (by omega) hd hbound hz
    rw [h.slotOf (by omega), Bool.eq_false_iff, Ne, hzone, hnone]
    simp

/-! ### SWING (R83, R158) -/

/-- The swing unit after the first steps of a SWING commit, its set kept by the alarm unit (R83). -/
def swingCorrected (image : Image) (s : State) : State := swingCommitAngle (activate .swing image s)

/-- The state of whose angle the derived state follows. -/
def swingTurned (image : Image) (s : State) : State :=
  (activate .swing image s).withSwing { s.swing with
    corrected := s.swing.raw.map (correctedAngle (readSwing image).origin)
    clear := List.replicate 16 false }

theorem swingCorrected_eq (image : Image) (s : State) :
    swingCorrected image s = keepSectorSet (refreshSectors (swingTurned image s)) := rfl

/-- The state in which a SWING commit evaluates the SECTOR sources: their slots dropped, the binding settled. -/
def sectorsSettled (image : Image) (s : State) : State :=
  settleAlarms (dropSlots (loadedWith (swingCorrected image s) touchesSector) (swingCorrected image s))

theorem commitEffects_swing (image : Image) (s : State) : commitEffects .swing image s
    = closeGates swingMotion (evaluateBound
        (sectorSource (sectorsSettled image s).alarm.lastContaining) (sectorsSettled image s)) := rfl

/-- The swing unit of the corrected state: every HEIGHT sector blocks, the set follows the angle (R66, R68,
R83). -/
theorem swingCorrected_swing (image : Image) (s : State) : (swingCorrected image s).swing = { s.swing with
    corrected := s.swing.raw.map (correctedAngle (readSwing image).origin)
    clear := List.replicate 16 false
    containing := containingSet (readSwing image).sectors
      (s.swing.raw.map (correctedAngle (readSwing image).origin)) } := by
  show (evaluate 7 _ _).swing = _
  rw [(evaluate_frame _ _ _).2.2.2.1]
  rfl

/-- With every HEIGHT sector blocking, slot 7 asks for any sector that is not SLOW (R73). -/
theorem blockingSectors_unclear {s : State} (h : s.swing.clear = List.replicate 16 false) (sec : Sector) :
    sec ∈ blockingSectors s ↔ sec ∈ sectorsOf s ∧ sec.cls ≠ .slow := by
  have hblocks (n : Nat) (x : Sector) : sectorBlocks s n x = true ↔ x.cls ≠ .slow := by
    have hclear : s.swing.clear.getD n false = false := by
      rw [h, List.getD_eq_getElem?_getD, List.getElem?_replicate]
      split <;> rfl
    unfold sectorBlocks
    rw [hclear]
    cases x.cls <;> simp
  unfold blockingSectors
  simp only [List.mem_map, List.mem_filter, hblocks, Prod.exists, exists_and_right, exists_eq_right]
  constructor
  · rintro ⟨⟨n, hmem⟩, hcls⟩
    exact ⟨List.fst_mem_of_mem_zipIdx hmem, hcls⟩
  · rintro ⟨hmem, hcls⟩
    obtain ⟨n, hn⟩ := List.mem_iff_getElem?.1 hmem
    exact ⟨⟨n, List.mem_zipIdx_iff_getElem?.2 hn⟩, hcls⟩

/-- The removals of some slots are those of the state before, where these slots have not been touched. -/
theorem AlarmsTouched.removals {which : Nat → Prop} {s t : State} (h : AlarmsTouched which s t)
    {w : Nat → Bool} (hw : ∀ n, w n = true → ¬ which n) : removals t w = removals s w := by
  have hslots (u : State) : (u.alarm.list.map (·.slot)).filter w
      = (u.alarm.list.filter fun e => w e.slot).map (·.slot) := by
    rw [List.filter_map]
    rfl
  rw [Machine.removals, hslots, h.entries w hw, ← hslots, Machine.removals]

theorem loadedWith_congr {s t : State} (h : definitionsOf t = definitionsOf s) (p : AlarmDef → Bool) :
    loadedWith t p = loadedWith s p := by
  funext n
  rw [loadedWith, h, loadedWith]

theorem loadedWith_slot {s : State} {p : AlarmDef → Bool} {n : Nat} {d : AlarmDef}
    (hd : (definitionsOf s)[n]? = some d) (hp : p d = true) : loadedWith s p (12 + n) = true := by
  simp [loadedWith, isLoaded, hd, hp]

theorem le_of_loadedWith {s : State} {p : AlarmDef → Bool} {n : Nat} (h : loadedWith s p n = true) :
    12 ≤ n := by
  simp only [loadedWith, isLoaded, Bool.and_eq_true, decide_eq_true_eq] at h
  exact h.1

/-- The slots that are dropped are loaded ones: an internal slot touched before leaves their removals. -/
theorem removals_loadedWith {s t : State} {m : Nat} (h : AlarmsTouched (· = m) s t) (hm : m < 12)
    (hdefs : definitionsOf t = definitionsOf s) (p : AlarmDef → Bool) :
    removals t (loadedWith t p) = removals s (loadedWith s p) := by
  rw [loadedWith_congr hdefs]
  refine h.removals fun n hn hnm => ?_
  have hloaded := le_of_loadedWith hn
  omega

theorem swingCorrected_touched (image : Image) (s : State) :
    AlarmsTouched (· = 7) s (swingCorrected image s) := by
  set x := swingTurned image s
  have hset : AlarmsTouched (· = 7) s (x.withSwing { x.swing with
      containing := containingSet (sectorsOf x) x.swing.corrected }) := alarmsTouched_of_alarm rfl
  have heval : AlarmsTouched (· = 7) s (refreshSectors x) := hset.trans (evaluate_touched 7 _ _)
  rw [swingCorrected_eq]
  exact heval.trans (alarmsTouched_of_same rfl rfl rfl rfl rfl rfl)

theorem swingCorrected_definitionsOf (image : Image) (s : State) :
    definitionsOf (swingCorrected image s) = definitionsOf s :=
  definitionsOf_congr (by simp [swingCorrected, activate, PerKind.set])

/-- The slots of the sources are loaded ones. -/
theorem valuedSlot_le {value : AlarmDef → Bool → Option Bool} {s : State} {n : Nat}
    (h : ValuedSlot value s n) : 12 ≤ n := by
  obtain ⟨k, -, rfl, -⟩ := h
  omega

theorem sourcesClosed_touched (value : AlarmDef → Bool → Option Bool) (which : PerMotion Bool) (s : State) :
    AlarmsTouched (12 ≤ ·) s (closeGates which (evaluateBound value s)) :=
  ((evaluateBound_touched value s).mono fun _ hn => valuedSlot_le hn).trans (alarmsTouched_of_alarm rfl)

/-- What a SWING commit does after the removals: slot 10 and the loaded slots alone. -/
theorem swing_after_touched (image : Image) (s : State) : AlarmsTouched (fun n => n = 10 ∨ 12 ≤ n)
    (dropSlots (loadedWith (swingCorrected image s) touchesSector) (swingCorrected image s))
    (commitEffects .swing image s) := by
  have hsettled : AlarmsTouched (fun n => n = 10 ∨ 12 ≤ n)
      (dropSlots (loadedWith (swingCorrected image s) touchesSector) (swingCorrected image s))
      (sectorsSettled image s) := by
    unfold sectorsSettled
    exact (settleAlarms_touched _).mono fun n hn => hn.imp_right le_of_definedSlot
  rw [commitEffects_swing]
  exact hsettled.trans ((sourcesClosed_touched _ _ _).mono fun _ hn => .inr hn)

section

variable {image : Image} {s t : State} (h : TenOnly (commitEffects .swing image s) t)
include h

theorem swing_settles : t.shaper.gates.swing = .gated
    ∧ t.swing = (swingCorrected image s).swing
    ∧ t.alarm.lastContaining = t.swing.containing := by
  have hswing : t.swing = (swingCorrected image s).swing := by
    rw [h.swing, commitEffects_swing]
    simp [sectorsSettled, closeGates]
  refine ⟨by rw [h.shaper]; rfl, hswing, ?_⟩
  rw [h.lastContaining, hswing, commitEffects_swing]
  simp only [closeGates, State.withShaper_alarm, sectorsSettled, evaluateBound_frame, settleAlarms_frame,
    dropSlots_frame]
  show (swingCorrected image s).swing.containing = _
  rfl

/-- The containing-sector set and slot 7 after the commit (R68, R73, R83). -/
theorem swing_sectors (hslots : s.alarm.slots.length = 64) :
    (∀ m, m < 16 → (t.swing.containing.getD m false = true
        ↔ ∃ sec a, (readSwing image).sectors[m]? = some sec ∧ t.swing.corrected = some a
          ∧ sec.contains a = true))
      ∧ ((slotOf t 7).condition = true
        ↔ ∃ sec ∈ (readSwing image).sectors, sec.cls ≠ .slow
          ∧ ∃ a, t.swing.corrected = some a ∧ sec.contains a = true) := by
  obtain ⟨-, hswing, -⟩ := swing_settles h
  have hsame := swingCorrected_swing image s
  refine ⟨fun m hm => ?_, ?_⟩
  · rw [hswing, hsame]
    simp only [containingSet_getD_iff hm, contains_iff]
  · have hseven : slotOf t 7 = slotOf (swingCorrected image s) 7 := by
      have hdropped := dropSlots_touched (loadedWith (swingCorrected image s) touchesSector)
        (swingCorrected image s)
      rw [h.slotOf (by decide), (swing_after_touched image s).slot 7 (by omega), hdropped.slot 7]
      intro hloaded
      have hle := le_of_loadedWith hloaded
      omega
    have hlen : (swingTurned image s).alarm.slots.length = 64 := hslots
    have hrefreshed : (slotOf (swingCorrected image s) 7).condition
        = sectorEntered (swingCorrected image s) :=
      (refreshSectors_slot_seven hlen).trans (sectorEntered_congr rfl rfl rfl)
    have hclear : (swingCorrected image s).swing.clear = List.replicate 16 false := by rw [hsame]
    have hsectors : sectorsOf (swingCorrected image s) = (readSwing image).sectors := by
      simp [sectorsOf, swingOf, swingCorrected, activate, PerKind.set]
    rw [hseven, hrefreshed, sectorEntered_iff, hswing]
    simp only [blockingSectors_unclear hclear, hsectors, contains_iff]
    grind

theorem swing_logged (hlog : s.alarm.log.length ≤ 256) : ∃ before later,
    (∀ x ∈ before, x.2 = 7)
      ∧ Logged (before ++ removals s (loadedWith s touchesSector) ++ later) s t := by
  have hcorrected := swingCorrected_touched image s
  obtain ⟨before, hbefore, hfirst⟩ := hcorrected.logged hlog
  have hremoved := dropSlots_logged (loadedWith (swingCorrected image s) touchesSector) hfirst.length_le
  rw [removals_loadedWith hcorrected (by decide) (swingCorrected_definitionsOf image s)] at hremoved
  have hlast := (swing_after_touched image s).trans (h.alarms.mono fun n hn => .inl hn)
  obtain ⟨later, -, hlater⟩ := hlast.logged hremoved.length_le
  have hdrop := hremoved.trans hlater (by simp)
  refine ⟨before, later, hbefore, ?_⟩
  rw [List.append_assoc]
  exact hfirst.trans hdrop hcorrected.time

end

/-- The SECTOR sources as they are evaluated: each IDLE, those bound that can be, the set the one of the angle
(R138, R158). -/
theorem sectorsSettled_sources (image : Image) (s : State) :
    (sectorsSettled image s).alarm.slots.length = s.alarm.slots.length
      ∧ (sectorsSettled image s).alarm.time = s.alarm.time
      ∧ (sectorsSettled image s).alarm.lastContaining = (swingCorrected image s).swing.containing
      ∧ definitionsOf (sectorsSettled image s) = definitionsOf s
      ∧ (∀ n d, (definitionsOf s)[n]? = some d →
        ((sectorsSettled image s).alarm.bound.getD n false = true ↔ Binds (sectorsSettled image s) d))
      ∧ ∀ n m d, 12 + n < s.alarm.slots.length → (definitionsOf s)[n]? = some d → d.source = .sector m →
        IdleAt (sectorsSettled image s) (12 + n) := by
  have hdefs : definitionsOf (swingCorrected image s) = definitionsOf s :=
    swingCorrected_definitionsOf image s
  have hlen := (swingCorrected_touched image s).length
  have htime := (swingCorrected_touched image s).time
  have hset : (swingCorrected image s).alarm.lastContaining = (swingCorrected image s).swing.containing :=
    rfl
  unfold sectorsSettled
  generalize swingCorrected image s = x at *
  have hdropped := dropSlots_touched (loadedWith x touchesSector) x
  have hsettled := settleAlarms_touched (dropSlots (loadedWith x touchesSector) x)
  have hdefz : definitionsOf (dropSlots (loadedWith x touchesSector) x) = definitionsOf s :=
    (definitionsOf_congr (by simp)).trans hdefs
  refine ⟨?_, by simpa using htime, by simpa using hset, ?_, fun n d hd => ?_, fun n m d hn hd hsource => ?_⟩
  · rw [hsettled.length, hdropped.length, hlen]
  · rw [definitionsOf_congr (s := dropSlots (loadedWith x touchesSector) x) (by simp), hdefz]
  · rw [settleAlarms_binds (by rw [hdefz, hd])]
    exact (binds_congr (by simp) (by simp) d).symm
  · refine settleAlarms_idleAt (by rw [hdropped.length, hlen]; exact hn)
      (dropSlots_idleAt (by rw [hlen]; exact hn) (loadedWith_slot (hdefs ▸ hd) ?_))
    simp [touchesSector, hsource]

/-- The SECTOR sources start anew from the set, those alone that are bound (R83, R141, R158). -/
theorem swing_sources {image : Image} {s t : State} (h : TenOnly (commitEffects .swing image s) t)
    (hslots : s.alarm.slots.length = 64) {n m : Nat} {d : AlarmDef} (hn : n < 52)
    (hd : (definitionsOf s)[n]? = some d) (hsource : d.source = .sector m) :
    (¬ (Binds t d ∧ t.swing.containing.getD m false = true) → IdleAt t (12 + n))
      ∧ (Binds t d ∧ t.swing.containing.getD m false = true →
        slotOf t (12 + n) = ⟨true, if d.attrs.delay ≠ 0 then some d.attrs.delay else none⟩
          ∧ entriesAt t (12 + n) = if d.attrs.delay = 0 then
              [{ slot := 12 + n, state := .raisedUnack, time := s.alarm.time }] else []) := by
  obtain ⟨-, hswing, -⟩ := swing_settles h
  obtain ⟨hlen, htime, hset, hdefs, hbinds, hidles⟩ := sectorsSettled_sources image s
  rw [← hswing] at hset
  rw [commitEffects_swing] at h
  have hidle := hidles n m d (by omega) hd hsource
  have hbound := hbinds n d hd
  generalize sectorsSettled image s = y at *
  rw [hset] at h
  set value := sectorSource t.swing.containing with hvalue
  have hclosed : AlarmsTouched (· = 10) (evaluateBound value y)
      (closeGates swingMotion (evaluateBound value y)) := alarmsTouched_of_alarm rfl
  have hlast := hclosed.trans h.alarms
  have hbinding : Binds t d ↔ Binds y d :=
    binds_congr (by rw [h.tables]; simp) (by rw [h.walk]; simp) d
  have hentered : value d false = some (t.swing.containing.getD m false) := by
    rw [hvalue]
    simp only [sectorSource, hsource]
  have hten : 12 + n ≠ 10 := by omega
  rw [hbinding]
  by_cases hb : Binds y d
  · obtain ⟨hslot, hentries⟩ := evaluateBound_idleAt hidle (by omega) (by rw [hdefs, hd]) (hbound.2 hb)
      hentered
    rw [hlast.idleAt hten, IdleAt, ← entriesAt_eq_nil, hlast.slot _ hten, hlast.entriesAt hten, hslot,
      hentries, htime]
    cases hc : t.swing.containing.getD m false with
    | false => exact ⟨fun _ => ⟨rfl, rfl⟩, fun ⟨_, hfalse⟩ => absurd hfalse Bool.false_ne_true⟩
    | true => exact ⟨fun hno => absurd ⟨hb, rfl⟩ hno, fun _ => by simp⟩
  · refine ⟨fun _ => (hlast.idleAt hten).2 ?_, fun ⟨hyes, _⟩ => absurd hyes hb⟩
    refine ((evaluateBound_touched value y).idleAt fun ⟨k, _, hk, _, hbk, _⟩ => hb (hbound.1 ?_)).2 hidle
    rwa [Nat.add_left_cancel hk]

end Sys2Proof.Machine
end

section
/-! SUPPORT. What a WALK, a STATION and an ALARM commit leave of the alarm unit, the line and the walk sequencer
(R89, R110, R132, R137, R138, R157, R158). -/

namespace Sys2Proof.Machine

/-! ### Binding after a commit (R137, R138) -/

/-- The slots of the bound definitions. -/
def BoundSlot (s : State) (n : Nat) : Prop := ∃ k, n = 12 + k ∧ s.alarm.bound.getD k false = true

theorem boundSlot_of_valued {value : AlarmDef → Bool → Option Bool} {s : State} {n : Nat}
    (h : ValuedSlot value s n) : BoundSlot s n := by
  obtain ⟨k, _, hn, _, hbound, _⟩ := h
  exact ⟨k, hn, hbound⟩

theorem boundSlot_iff {s : State} {k : Nat} :
    BoundSlot s (12 + k) ↔ s.alarm.bound.getD k false = true :=
  ⟨fun ⟨_, hk, hbound⟩ => by rwa [Nat.add_left_cancel hk], fun h => ⟨k, rfl, h⟩⟩

/-- The definition whose source has no value here leaves its slot. -/
theorem not_valuedSlot {value : AlarmDef → Bool → Option Bool} {s : State} {k : Nat} {d : AlarmDef}
    (hd : (definitionsOf s)[k]? = some d) (h : ∀ b, value d b = none) : ¬ ValuedSlot value s (12 + k) := by
  rintro ⟨k', d', hk, hd', -, b, v, hvalue⟩
  obtain rfl := Nat.add_left_cancel hk
  rw [hd, Option.some.injEq] at hd'
  rw [← hd', h] at hvalue
  cases hvalue

/-- Between the binding settled and the state after the commit: slot 10 and the slots of bound definitions are
touched alone, and what binding is read from stands. -/
structure AfterBinding (w t : State) : Prop where
  touched : AlarmsTouched (fun n => n = 10 ∨ BoundSlot (settleAlarms w) n) (settleAlarms w) t
  bound : t.alarm.bound = (settleAlarms w).alarm.bound
  tables : t.tables = w.tables
  usable : t.walk.usable = w.walk.usable

theorem afterBinding_ten {w t : State} (h : TenOnly (settleAlarms w) t) : AfterBinding w t where
  touched := h.alarms.mono fun _ hn => .inl hn
  bound := h.bound
  tables := by rw [h.tables]; simp
  usable := by rw [h.walk]; simp

section

variable {w t : State} (h : AfterBinding w t)
include h

theorem AfterBinding.definitionsOf : definitionsOf t = definitionsOf w :=
  definitionsOf_congr (by rw [h.tables])

theorem AfterBinding.binds {n : Nat} {d : AlarmDef} (hd : (Machine.definitionsOf t)[n]? = some d) :
    t.alarm.bound.getD n false = true ↔ Binds t d := by
  rw [h.definitionsOf] at hd
  rw [h.bound, settleAlarms_binds hd]
  exact (binds_congr h.tables h.usable d).symm

theorem AfterBinding.idleAt {n : Nat} {d : AlarmDef} (hd : (Machine.definitionsOf t)[n]? = some d)
    (hfree : ¬ Binds t d) (hidle : IdleAt (settleAlarms w) (12 + n)) : IdleAt t (12 + n) := by
  refine (h.touched.idleAt fun hn => hfree ?_).2 hidle
  have hbound := boundSlot_iff.1 (hn.resolve_left (by omega))
  rwa [← h.bound, h.binds hd] at hbound

theorem AfterBinding.unbound_idleAt {n : Nat} {d : AlarmDef} (hn : 12 + n < w.alarm.slots.length)
    (hd : (Machine.definitionsOf t)[n]? = some d) (hfree : ¬ Binds t d)
    (hbound : w.alarm.bound.getD n false = true) : IdleAt t (12 + n) := by
  have hdw : (Machine.definitionsOf w)[n]? = some d := by rwa [← h.definitionsOf]
  refine h.idleAt hd hfree (settleAlarms_unbound_idleAt hdw hn (fun hb => hfree ?_) hbound)
  exact (binds_congr h.tables h.usable d).2 hb

end

theorem afterBinding_sources {w t : State} {value : AlarmDef → Bool → Option Bool}
    {which : PerMotion Bool}
    (h : TenOnly (closeGates which (evaluateBound value (settleAlarms w))) t) : AfterBinding w t where
  touched := by
    have hclosed : AlarmsTouched (· = 10) (evaluateBound value (settleAlarms w))
        (closeGates which (evaluateBound value (settleAlarms w))) := alarmsTouched_of_alarm rfl
    exact ((evaluateBound_touched value _).mono fun _ hn => .inr (boundSlot_of_valued hn)).trans
      ((hclosed.trans h.alarms).mono fun _ hn => .inl hn)
  bound := by rw [h.bound]; simp [closeGates]
  tables := by rw [h.tables]; simp [closeGates]
  usable := by rw [h.walk]; simp [closeGates]

theorem swing_afterBinding {image : Image} {s t : State} (h : TenOnly (commitEffects .swing image s) t) :
    AfterBinding (dropSlots (loadedWith (swingCorrected image s) touchesSector) (swingCorrected image s))
      t := by
  rw [commitEffects_swing] at h
  unfold sectorsSettled at h
  exact afterBinding_sources h

/-! ### WALK (R89) -/

/-- The state in which a WALK commit settles the binding. -/
def walkSettled (image : Image) (s : State) : State := walkSettlesCommit (activate .walk image s)

theorem commitEffects_walk (image : Image) (s : State) :
    commitEffects .walk image s = settleAlarms (walkSettled image s) := rfl

theorem walkSettlesCommit_usable (s : State) :
    (walkSettlesCommit s).walk.usable = walkUsable s := by
  simp [walkSettlesCommit, settleUsability]

/-- In DIG the DIG command is asked for and the WALK command is not (R92). -/
theorem CommandsInv.digging {s : State} (h : CommandsInv s) (hx : s.walk.state = .dig) {w : WalkTable}
    (hw : usableWalk s = some w) :
    desiredOf s w.digCommand = some true ∧ desiredOf s w.walkCommand = some false := by
  have hfit := h.2.2 w hw
  rw [CommandsFit, hx] at hfit
  exact hfit

section

variable {image : Image} {s t : State} (h : TenOnly (commitEffects .walk image s) t)
include h

theorem walk_usable : t.walk.usable = walkUsable t := by
  have htables : t.tables = (activate .walk image s).tables := by
    rw [h.tables, commitEffects_walk]
    simp [walkSettled]
  rw [walkUsable_congr (s := activate .walk image s) (by rw [htables]) (by rw [htables]), h.walk,
    commitEffects_walk, ← walkSettlesCommit_usable]
  simp [walkSettled]

theorem walk_commands (hi : imageValid .walk image = true) (hx : s.walk.state = .dig)
    (hlen : s.line.records.length = stationCount s) {w : WalkTable} (hw : usableWalk t = some w) :
    desiredOf t w.digCommand = some true ∧ desiredOf t w.walkCommand = some false := by
  have hset : CommandsInv (walkSettled image s) := by
    refine commandsInv_walkSettlesCommit (hlen.trans (stationCount_congr rfl).symm) (fun w hw => ?_)
      (show s.walk.state ≠ .startup by simp [hx])
    cases hw
    exact readWalk_commands_ne hi
  have hsettled : CommandsInv (commitEffects .walk image s) :=
    hset.of_same (keepsCommands_settleAlarms _) (by simp [commitEffects_walk])
      (by simp [commitEffects_walk]) (by simp [commitEffects_walk])
  refine (hsettled.of_records h.walk h.tables (by rw [h.line])).digging ?_ hw
  rw [h.walk]
  simpa using hx

theorem walk_shaper : t.shaper = s.shaper := by
  rw [h.shaper, commitEffects_walk, settleAlarms_shaper]
  simp [walkSettled]

/-- The removals of the listed definitions whose standing changes are logged in slot order (log entry 44). -/
theorem walk_logged (hlog : s.alarm.log.length ≤ 256) : ∃ later : List (LogKind × Nat),
    (∀ x ∈ later, x.2 = 10) ∧ Logged ((((List.range (definitionsOf s).length).filter fun n =>
        s.alarm.bound.getD n false != t.alarm.bound.getD n false
          && (entryOf s (12 + n)).isSome).map fun n => (.remove, 12 + n)) ++ later) s t := by
  set x := walkSettled image s with hx
  have halarm : x.alarm = s.alarm := by simp [hx, walkSettled]
  have hdefs : definitionsOf x = definitionsOf s :=
    definitionsOf_congr (by simp [hx, walkSettled, activate, PerKind.set])
  have hbinding := settleBinding_logged (s := x) (by rw [halarm]; exact hlog)
  have hlast : TenOnly (settleBinding x) t := (settleAlarms_ten x).trans h
  obtain ⟨later, hten, hlater⟩ := hlast.alarms.logged hbinding.length_le
  refine ⟨later, hten, ?_⟩
  have hall := hbinding.trans hlater (by simp)
  rw [hdefs, halarm, ← hlast.bound] at hall
  have hentry (n : Nat) : entryOf x n = entryOf s n := by rw [entryOf, halarm, entryOf]
  simp only [hentry] at hall
  exact hall.congr (by rw [halarm]) (by rw [halarm]) (by rw [halarm]) rfl rfl

end

end Sys2Proof.Machine
end

section
/-! SUPPORT. What a STATION commit leaves of the line, the walk sequencer and the alarm unit (R110, R128, R132,
R158; log entries 14 and 48). -/

namespace Sys2Proof.Machine

/-! ### The live records but for their desired outputs -/

theorem foldl_undesired {α : Type} {g : State → α → State}
    (hg : ∀ x d, (g x d).line.records.map undesired = x.line.records.map undesired) (l : List α)
    (s : State) : (l.foldl g s).line.records.map undesired = s.line.records.map undesired :=
  foldl_keeps (fun x => x.line.records.map undesired = s.line.records.map undesired) g
    (fun x d hx => (hg x d).trans hx) l s rfl

theorem dropSlots_undesired (which : Nat → Bool) (s : State) :
    (dropSlots which s).line.records.map undesired = s.line.records.map undesired :=
  foldl_undesired (fun x n => removeEntry_undesired n _ x) _ s

theorem resetSlot_undesired (n : Nat) (s : State) :
    (resetSlot n s).line.records.map undesired = s.line.records.map undesired := by
  unfold resetSlot
  split
  · exact removeEntry_undesired n _ s
  · rfl

theorem settleAlarms_undesired (s : State) :
    (settleAlarms s).line.records.map undesired = s.line.records.map undesired := by
  rw [(settleAlarms_ten s).line, settleBinding_eq]
  refine foldl_undesired (fun x d => ?_) _ s
  unfold bindingStep
  split
  · exact resetSlot_undesired _ x
  · rfl

theorem setOwned_undesired (s : State) :
    (setOwned s).line.records.map undesired = s.line.records.map undesired :=
  foldl_undesired (fun x b => setDesired_undesired b _ x) _ s

theorem walkSettlesCommit_undesired (s : State) :
    (walkSettlesCommit s).line.records.map undesired = s.line.records.map undesired :=
  setCommands_undesired (settleUsability s)

/-- A round takes pending outputs, which are no part of what stands (R123). -/
theorem startRound_undesired (s : State) :
    (startRound s).line.records.map undesired = s.line.records.map undesired := by
  have htaken : (s.line.records.map fun r =>
      if (writeEntry r).isSome then { r with outputPending := false } else r).map undesired
        = s.line.records.map undesired := by
    rw [List.map_map]
    refine List.map_congr_left fun r _ => ?_
    simp only [Function.comp]
    split <;> rfl
  unfold startRound
  dsimp only
  split
  · simp [beginCompletion, setFlight]
  · split <;> simpa [beginSweep, setFlight] using htaken

/-! ### The states of a STATION commit (R110, R132, R158) -/

/-- The line begun anew and the walk sequencer's part settled. -/
def stationBegun (image : Image) (s : State) : State :=
  walkSettlesCommit (stationCommitLine (lineTransaction s) (activate .station image s))

/-- The slots with a station source or an output dropped. -/
def stationDropped (image : Image) (s : State) : State :=
  dropSlots (loadedWith (stationBegun image s) touchesStation) (stationBegun image s)

theorem commitEffects_station (image : Image) (s : State) : commitEffects .station image s
    = startRound (setOwned (settleAlarms (stationDropped image s))) := rfl

/-- The line as a STATION commit leaves it before slot 9 is evaluated (R132). -/
def stationEmptied (image : Image) (s : State) : State :=
  let a := activate .station image s
  let cleared := a.withLine { a.line with
    records := freshRecords a, found := [], pointer := 0, deferredStart := false, flight := .idle
    finishing := lineTransaction s }
  cleared.withWalk { cleared.walk with delivered := [] }

theorem stationBegun_eq (image : Image) (s : State) : stationBegun image s
    = walkSettlesCommit (evaluate 9 (stationMissing (stationEmptied image s)) (stationEmptied image s)) :=
  rfl

/-- No station of fresh records is missing (R121, R132). -/
theorem stationMissing_emptied (image : Image) (s : State) :
    stationMissing (stationEmptied image s) = false := by
  show (freshRecords _).any _ = false
  rw [freshRecords, List.any_replicate]
  split <;> rfl

theorem stationBegun_touched (image : Image) (s : State) :
    AlarmsTouched (· = 9) s (stationBegun image s) := by
  have hemptied : AlarmsTouched (· = 9) s (stationEmptied image s) := alarmsTouched_of_alarm rfl
  have hnine := hemptied.trans (evaluate_touched 9 (stationMissing (stationEmptied image s)) _)
  rw [stationBegun_eq]
  exact hnine.trans (alarmsTouched_of_alarm (by simp))

/-- Slot 9 is false (R132). -/
theorem stationBegun_nine (image : Image) (s : State) :
    (slotOf (stationBegun image s) 9).condition = false := by
  rw [stationBegun_eq, stationMissing_emptied, slotOf_congr (s := evaluate 9 false (stationEmptied image s)) (by simp)]
  exact evaluate_false_condition (by decide)

theorem stationBegun_definitionsOf (image : Image) (s : State) :
    definitionsOf (stationBegun image s) = definitionsOf s :=
  definitionsOf_congr (by simp [stationBegun, activate, PerKind.set])

theorem stationBegun_undesired (image : Image) (s : State) :
    (stationBegun image s).line.records.map undesired
      = List.replicate (readStation image).ids.length freshRecord := by
  rw [stationBegun, walkSettlesCommit_undesired, stationCommitLine_records, freshRecords, List.map_replicate]
  rfl

section

variable {image : Image} {s t : State} (h : TenOnly (commitEffects .station image s) t)
include h

/-- The records are made anew, the power-up flag clear (log entry 48). -/
theorem station_records : t.line.records.length = (readStation image).ids.length
    ∧ ∀ x ∈ t.line.records, undesired x = freshRecord := by
  have hall : t.line.records.map undesired
      = List.replicate (readStation image).ids.length freshRecord := by
    rw [h.line, commitEffects_station, startRound_undesired, setOwned_undesired, settleAlarms_undesired,
      stationDropped, dropSlots_undesired, stationBegun_undesired]
  refine ⟨by simpa using congrArg List.length hall, fun x hx => ?_⟩
  have hmem : undesired x ∈ t.line.records.map undesired := List.mem_map_of_mem hx
  rw [hall] at hmem
  exact List.eq_of_mem_replicate hmem

/-- The line's lists are empty and a new round is begun, the transaction on the line being left to finish
(R132). -/
theorem station_line : t.line.found = [] ∧ t.line.pointer = 0 ∧ t.line.deferredStart = false
    ∧ t.line.scanTimer = s.line.scanTimer ∧ t.walk.delivered = []
    ∧ (∃ r, t.line.flight = .round r ∧ (r.stage = .writing ∨ r.stage = .sweeping) ∧ r.readOk = [])
    ∧ t.line.finishing = lineTransaction s := by
  obtain ⟨hfound, hfinishing, hround⟩ := commitTable_station_line image s
  rw [(tenOnly_commitTable .station image s).line, ← h.line] at hfound hfinishing hround
  refine ⟨hfound, ?_, ?_, ?_, ?_, ?_, hfinishing⟩
  · rw [h.line, commitEffects_station]
    simp [stationDropped, stationBegun, stationCommitLine]
  · rw [h.line, commitEffects_station]
    simp [stationDropped, stationBegun, stationCommitLine]
  · rw [h.line]
    simp
  · rw [h.walk, commitEffects_station]
    simp [stationDropped, stationBegun, stationCommitLine]
  · obtain ⟨r, hr, hstage, hok⟩ := hround
    exact ⟨r, hr, hstage, hok⟩

theorem station_afterBinding : AfterBinding (stationDropped image s) t := by
  rw [commitEffects_station] at h
  generalize stationDropped image s = w at h
  have hsame : AlarmsTouched (· = 10) (settleAlarms w) (startRound (setOwned (settleAlarms w))) :=
    alarmsTouched_of_alarm (by simp)
  exact ⟨(hsame.trans h.alarms).mono fun _ hn => .inl hn, by rw [h.bound]; simp, by rw [h.tables]; simp,
    by rw [h.walk]; simp⟩

theorem station_after_touched : AlarmsTouched (fun n => n = 10 ∨ 12 ≤ n) (stationDropped image s) t := by
  refine ((settleAlarms_touched _).mono fun n hn => hn.imp_right le_of_definedSlot).trans
    ((station_afterBinding h).touched.mono fun n hn => hn.imp_right fun ⟨k, hk, _⟩ => ?_)
  omega

theorem station_nine : (slotOf t 9).condition = false := by
  have hdropped := dropSlots_touched (loadedWith (stationBegun image s) touchesStation)
    (stationBegun image s)
  have hdrop : slotOf (stationDropped image s) 9 = slotOf (stationBegun image s) 9 := by
    refine hdropped.slot 9 fun hloaded => ?_
    have hle := le_of_loadedWith hloaded
    omega
  rw [(station_after_touched h).slot 9 (by omega), hdrop]
  exact stationBegun_nine image s

theorem station_logged (hlog : s.alarm.log.length ≤ 256) : ∃ before later : List (LogKind × Nat),
    (∀ x ∈ before, x.2 = 9)
      ∧ Logged (before ++ removals s (loadedWith s touchesStation) ++ later) s t := by
  have hbegun := stationBegun_touched image s
  obtain ⟨before, hbefore, hfirst⟩ := hbegun.logged hlog
  have hremoved := dropSlots_logged (loadedWith (stationBegun image s) touchesStation) hfirst.length_le
  rw [removals_loadedWith hbegun (by decide) (stationBegun_definitionsOf image s)] at hremoved
  obtain ⟨later, -, hlater⟩ := (station_after_touched h).logged hremoved.length_le
  have hdrop := hremoved.trans hlater (by simp)
  refine ⟨before, later, hbefore, ?_⟩
  rw [List.append_assoc]
  exact hfirst.trans hdrop hbegun.time

/-- The definitions with a station source or an output start IDLE (R158). -/
theorem station_idleAt (hslots : s.alarm.slots.length = 64) {n : Nat} {d : AlarmDef} (hn : n < 52)
    (hd : (definitionsOf s)[n]? = some d) (htouches : touchesStation d = true) : IdleAt t (12 + n) := by
  have hbegun := stationBegun_touched image s
  have hlen : (stationDropped image s).alarm.slots.length = 64 :=
    (dropSlots_touched _ _).length.trans (hbegun.length.trans hslots)
  have hidle : IdleAt (stationDropped image s) (12 + n) := by
    refine dropSlots_idleAt (by rw [hbegun.length]; omega) (loadedWith_slot ?_ htouches)
    rw [stationBegun_definitionsOf, hd]
  have hsettled : IdleAt (settleAlarms (stationDropped image s)) (12 + n) :=
    settleAlarms_idleAt (by omega) hidle
  rw [commitEffects_station] at h
  exact (h.idleAt (by omega)).2 (((alarmsTouched_of_alarm (which := fun _ => False) (by simp)).idleAt
    (fun hn => hn)).2 hsettled)

/-- The walk sequencer's part: the usability, and in DIG its commands (R88, R92, R110). -/
theorem station_usable : t.walk.usable = walkUsable t := by
  have htables : t.tables = (stationCommitLine (lineTransaction s) (activate .station image s)).tables := by
    rw [h.tables, commitEffects_station]
    simp [stationDropped, stationBegun]
  rw [walkUsable_congr (congrArg (·.active.walk) htables) (congrArg (·.active.station) htables), h.walk,
    commitEffects_station, ← walkSettlesCommit_usable]
  simp [stationDropped, stationBegun]

theorem station_commands (ha : CommandsApart s) (hx : s.walk.state = .dig) {w : WalkTable}
    (hw : usableWalk t = some w) :
    desiredOf t w.digCommand = some true ∧ desiredOf t w.walkCommand = some false := by
  have hcommit : CommandsInv (commitEffects .station image s) :=
    commandsInv_commitStation ha (by rw [hx]; decide)
  refine (hcommit.of_records h.walk h.tables (by rw [h.line])).digging ?_ hw
  rw [h.walk]
  simpa using hx

end

/-! ### The owned outputs (R128, R158) -/

theorem computedValue_iff (s : State) (b : Binding) : computedValue s b = true ↔
    ∃ e ∈ s.alarm.list, ∃ a, attrsOf s e.slot = some a ∧ a.output = some b := by
  rw [computedValue, List.any_eq_true]
  refine exists_congr fun e => and_congr_right fun _ => ?_
  cases attrsOf s e.slot <;> simp

/-- Slot 10 has no output: computed values do not depend on it (R134, R148). -/
theorem computedValue_tenOnly {s t : State} (h : TenOnly s t) : computedValue t = computedValue s := by
  have hattrs : attrsOf t = attrsOf s := by
    funext n
    rw [attrsOf, h.definitionsOf, attrsOf]
  funext b
  rw [Bool.eq_iff_iff, computedValue_iff, computedValue_iff, hattrs]
  refine exists_congr fun e => and_congr_left fun ⟨a, ha, hb⟩ => h.alarms.mem_list ?_
  intro hten
  rw [hten, attrsOf_internal s (by decide), Option.some.injEq] at ha
  rw [← ha, internalSlot_output] at hb
  cases hb

/-- A channel that a bound definition owns is at an enrolled station (R128, R137). -/
theorem station_lt_of_alarmOwns {s : State} {b : Binding}
    (hbinds : ∀ n d, (definitionsOf s)[n]? = some d → s.alarm.bound.getD n false = true → Binds s d)
    (h : alarmOwns s b = true) : b.station < stationCount s := by
  simp only [alarmOwns, List.any_eq_true, Bool.and_eq_true, beq_iff_eq, Prod.exists] at h
  obtain ⟨d, n, hmem, hbound, houtput⟩ := h
  obtain ⟨-, -, hout⟩ := hbinds n d (List.mem_zipIdx_iff_getElem?.1 hmem) hbound
  exact (hout b houtput).1

theorem alarmOwns_congr {s t : State} (ht : t.tables = s.tables) (hb : t.alarm.bound = s.alarm.bound) :
    alarmOwns t = alarmOwns s := by
  funext b
  simp only [alarmOwns, definitionsOf_congr (congrArg (·.active.alarm) ht), hb]

/-- Every owned channel is set to its computed value (R158). -/
theorem desiredOf_setOwned {s : State} {b : Binding} (h : b ∈ ownedOutputs s)
    (hin : b.station < s.line.records.length) :
    desiredOf (setOwned s) b = some (computedValue s b) := by
  have hrecord := recordOf_setEach (computedValue s) b.station (ownedOutputs s) s
  obtain ⟨x, hx⟩ : ∃ x, recordOf s b.station = some x := ⟨_, List.getElem?_eq_getElem hin⟩
  rw [hx, Option.map_some] at hrecord
  have hset : recordOf (setOwned s) b.station = _ := hrecord
  rw [desiredOf, hset]
  obtain ⟨n, c⟩ := b
  cases c <;> simp [PerChannel.get, h]

/-- After a STATION commit the channels the alarm unit owns are desired as computed. -/
theorem station_outputs {image : Image} {s t : State} (h : TenOnly (commitEffects .station image s) t)
    {b : Binding} (howns : alarmOwns t b = true) (hfree : walkOwns t b = false) :
    desiredOf t b = some (computedValue t b) := by
  have hafter := station_afterBinding h
  have hstation : b.station < t.line.records.length := by
    obtain ⟨hlen, -⟩ := station_records h
    have hcount : stationCount t = (readStation image).ids.length := by
      have htables : t.tables = (activate .station image s).tables := by
        rw [h.tables, commitEffects_station]
        simp [stationDropped, stationBegun]
      rw [stationCount_congr (congrArg (·.active.station) htables)]
      rfl
    rw [hlen, ← hcount]
    exact station_lt_of_alarmOwns (fun n d hd hbound => (hafter.binds hd).1 hbound) howns
  rw [computedValue_tenOnly h]
  rw [commitEffects_station] at h ⊢
  generalize settleAlarms (stationDropped image s) = y at h ⊢
  have htables : t.tables = y.tables := by rw [h.tables]; simp
  have hwalk : t.walk = y.walk := by rw [h.walk]; simp
  have hbound : t.alarm.bound = y.alarm.bound := by rw [h.bound]; simp
  have howned : b ∈ ownedOutputs y := by
    rw [mem_ownedOutputs, ← alarmOwns_congr htables hbound,
      ← walkOwns_congr (usableWalk_congr (by rw [hwalk]) (by rw [htables]))]
    exact ⟨howns, hfree⟩
  have hin : b.station < y.line.records.length := by
    rw [h.line] at hstation
    simpa using hstation
  have hvalue : computedValue (startRound (setOwned y)) = computedValue y :=
    computedValue_congr (by simp [listedSlots]) (by simp)
  rw [hvalue, ← desiredOf_setOwned howned hin, desiredOf_eq, desiredOf_eq, desires_congr (s := startRound _)
    (by rw [h.line]), desires_startRound]

end Sys2Proof.Machine
end

section
/-! SUPPORT. What an ALARM commit leaves of the alarm unit (R138, R141, R157). -/

namespace Sys2Proof.Machine

/-! ### The states of an ALARM commit (R157) -/

/-- The loaded slots dropped, the new definitions active, none of them bound. -/
def alarmEmptied (image : Image) (s : State) : State :=
  let a := activate .alarm image (dropSlots isLoaded s)
  a.withAlarm { a.alarm with bound := [] }

/-- The binding settled, the ZONE sources evaluated from the position kept. -/
def zonesStarted (y : State) : State := evaluateBound (zoneSource y.alarm.lastPosition) y

/-- Then the SECTOR sources from the set kept. -/
def sourcesStarted (y : State) : State :=
  evaluateBound (sectorSource (zonesStarted y).alarm.lastContaining) (zonesStarted y)

theorem commitEffects_alarm (image : Image) (s : State) :
    commitEffects .alarm image s = sourcesStarted (settleAlarms (alarmEmptied image s)) := rfl

/-- A new table that binds nothing touches no slot. -/
theorem alarmEmptied_untouched (image : Image) (s : State) :
    AlarmsTouched (fun _ => False) (dropSlots isLoaded s) (alarmEmptied image s) := by
  unfold alarmEmptied
  exact alarmsTouched_of_same rfl rfl rfl rfl rfl rfl

theorem isLoaded_iff (n : Nat) : isLoaded n = true ↔ 12 ≤ n := by simp [isLoaded]

theorem alarmEmptied_touched (image : Image) (s : State) :
    AlarmsTouched (12 ≤ ·) s (alarmEmptied image s) :=
  ((dropSlots_touched isLoaded s).mono fun n => (isLoaded_iff n).1).trans
    ((alarmEmptied_untouched image s).mono fun _ hn => hn.elim)

/-- No loaded slot is listed, and every one of them is IDLE. -/
theorem alarmEmptied_idle (image : Image) (s : State) :
    (∀ n, 12 ≤ n → entryOf (alarmEmptied image s) n = none)
      ∧ ∀ n, 12 ≤ n → n < s.alarm.slots.length → IdleAt (alarmEmptied image s) n := by
  have hdropped := alarmEmptied_untouched image s
  refine ⟨fun n hn => ?_, fun n hn hlen => ?_⟩
  · rw [hdropped.entryOf not_false, entryOf_dropSlots, if_pos ((isLoaded_iff n).2 hn)]
  · exact (hdropped.idleAt not_false).2 (dropSlots_idleAt hlen ((isLoaded_iff n).2 hn))

theorem zonesStarted_touched (y : State) : AlarmsTouched (BoundSlot y) y (zonesStarted y) :=
  (evaluateBound_touched _ y).mono fun _ => boundSlot_of_valued

theorem zonesStarted_frame (y : State) : (zonesStarted y).alarm.bound = y.alarm.bound
    ∧ (zonesStarted y).tables = y.tables ∧ (zonesStarted y).walk = y.walk
    ∧ (zonesStarted y).alarm.lastContaining = y.alarm.lastContaining
    ∧ definitionsOf (zonesStarted y) = definitionsOf y := by
  refine ⟨?_, ?_, ?_, ?_, definitionsOf_congr ?_⟩ <;> simp [zonesStarted]

theorem sourcesStarted_touched (y : State) : AlarmsTouched (BoundSlot y) y (sourcesStarted y) := by
  refine (zonesStarted_touched y).trans ((evaluateBound_touched _ (zonesStarted y)).mono fun n hn => ?_)
  obtain ⟨k, hk, hbound⟩ := boundSlot_of_valued hn
  rw [(zonesStarted_frame y).1] at hbound
  exact ⟨k, hk, hbound⟩

/-- The value with which a source starts: a ZONE source from the position kept, a SECTOR source from the set
kept, and no other (R157). -/
def startValue (y : State) (d : AlarmDef) : Option Bool :=
  match d.source with
  | .zone z => some ((y.alarm.lastPosition.map (·.zone)) == some z)
  | .sector m => some (y.alarm.lastContaining.getD m false)
  | _ => none

theorem startValue_cases (y : State) (d : AlarmDef) (b : Bool) :
    startValue y d = (zoneSource y.alarm.lastPosition d b).or
      (sectorSource y.alarm.lastContaining d b) := by
  unfold startValue zoneSource sectorSource
  cases d.source <;> rfl

/-- A bound definition whose source has a value starts with it, and is listed at most as raised. -/
theorem sourcesStarted_valued {y : State} {k : Nat} {d : AlarmDef} {v : Bool}
    (hidle : IdleAt y (12 + k)) (hk : 12 + k < y.alarm.slots.length)
    (hd : (definitionsOf y)[k]? = some d) (hbound : y.alarm.bound.getD k false = true)
    (hvalue : startValue y d = some v) :
    (slotOf (sourcesStarted y) (12 + k)).condition = v
      ∧ ∀ e ∈ entriesAt (sourcesStarted y) (12 + k), e.state = .raisedUnack := by
  obtain ⟨hbounds, -, -, hset, hdefs⟩ := zonesStarted_frame y
  have hraised {v : Bool} (e : Entry) (he : e ∈ if v = true ∧ d.attrs.delay = 0 then
      [{ slot := 12 + k, state := EntryState.raisedUnack, time := y.alarm.time }] else []) :
      e.state = .raisedUnack := by
    split at he
    · rw [List.mem_singleton.1 he]
    · cases he
  have hzones : AlarmsTouched (ValuedSlot (zoneSource y.alarm.lastPosition) y) y (zonesStarted y) :=
    evaluateBound_touched _ y
  have hsectors := evaluateBound_touched (sectorSource (zonesStarted y).alarm.lastContaining) (zonesStarted y)
  unfold startValue at hvalue
  split at hvalue
  case h_1 z hsource =>
    have hstill : ¬ ValuedSlot (sectorSource (zonesStarted y).alarm.lastContaining) (zonesStarted y)
        (12 + k) := not_valuedSlot (by rw [hdefs, hd]) fun b => by simp only [sectorSource, hsource]
    obtain ⟨hslot, hentries⟩ := evaluateBound_idleAt (value := zoneSource y.alarm.lastPosition) hidle hk hd
      hbound (by simp only [zoneSource, hsource]; exact hvalue)
    rw [sourcesStarted, hsectors.slot _ hstill, hsectors.entriesAt hstill, zonesStarted, hslot, hentries]
    exact ⟨rfl, hraised⟩
  case h_2 m hsource =>
    have hstill : ¬ ValuedSlot (zoneSource y.alarm.lastPosition) y (12 + k) :=
      not_valuedSlot hd fun b => by simp only [zoneSource, hsource]
    have hstillIdle : IdleAt (zonesStarted y) (12 + k) := (hzones.idleAt hstill).2 hidle
    obtain ⟨hslot, hentries⟩ := evaluateBound_idleAt (d := d) (v := v)
      (value := sectorSource (zonesStarted y).alarm.lastContaining) hstillIdle
      (by rw [hzones.length]; exact hk) (by rw [hdefs, hd]) (by rw [hbounds, hbound])
      (by simp only [sectorSource, hsource, hset]; exact hvalue)
    rw [sourcesStarted, hslot, hentries, hzones.time]
    exact ⟨rfl, hraised⟩
  case h_3 => cases hvalue

/-- A definition that is unbound, or whose source has no value, is left as it is. -/
theorem sourcesStarted_unvalued {y : State} {k : Nat}
    (h : ∀ d, (definitionsOf y)[k]? = some d → y.alarm.bound.getD k false = true → startValue y d = none) :
    slotOf (sourcesStarted y) (12 + k) = slotOf y (12 + k)
      ∧ entryOf (sourcesStarted y) (12 + k) = entryOf y (12 + k) := by
  obtain ⟨hbounds, -, -, hset, hdefs⟩ := zonesStarted_frame y
  have hzones : AlarmsTouched (ValuedSlot (zoneSource y.alarm.lastPosition) y) y (zonesStarted y) :=
    evaluateBound_touched _ y
  have hsectors := evaluateBound_touched (sectorSource (zonesStarted y).alarm.lastContaining) (zonesStarted y)
  have hnone (d : AlarmDef) (b : Bool) (hd : (definitionsOf y)[k]? = some d)
      (hbound : y.alarm.bound.getD k false = true) : zoneSource y.alarm.lastPosition d b = none
        ∧ sectorSource y.alarm.lastContaining d b = none := by
    have hvalue := h d hd hbound
    rw [startValue_cases y d b, Option.or_eq_none_iff] at hvalue
    exact hvalue
  have hzone : ¬ ValuedSlot (zoneSource y.alarm.lastPosition) y (12 + k) := by
    rintro ⟨k', d, hk, hd, hbound, b, v, hvalue⟩
    obtain rfl := Nat.add_left_cancel hk
    rw [(hnone d b hd hbound).1] at hvalue
    cases hvalue
  have hsector : ¬ ValuedSlot (sectorSource (zonesStarted y).alarm.lastContaining) (zonesStarted y)
      (12 + k) := by
    rintro ⟨k', d, hk, hd, hbound, b, v, hvalue⟩
    obtain rfl := Nat.add_left_cancel hk
    rw [hset, (hnone d b (hdefs ▸ hd) (hbounds ▸ hbound)).2] at hvalue
    cases hvalue
  exact ⟨(hsectors.slot _ hsector).trans (hzones.slot _ hzone),
    (hsectors.entryOf hsector).trans (hzones.entryOf hzone)⟩

/-! ### After the commit -/

section

variable {image : Image} {s t : State} (h : TenOnly (commitEffects .alarm image s) t)
include h

theorem alarm_afterBinding : AfterBinding (alarmEmptied image s) t := by
  rw [commitEffects_alarm] at h
  generalize alarmEmptied image s = w at h
  have htouched := sourcesStarted_touched (settleAlarms w)
  obtain ⟨hbound, htables, hwalk, -⟩ := zonesStarted_frame (settleAlarms w)
  refine ⟨(htouched.mono fun _ hn => .inr hn).trans (h.alarms.mono fun _ hn => .inl hn), ?_, ?_, ?_⟩
  · rw [h.bound, ← hbound]
    simp [sourcesStarted]
  · rw [h.tables, sourcesStarted, (evaluateBound_frame _ _).2.2.2.2.2.2.2.1, htables]
    simp
  · rw [h.walk, sourcesStarted, (evaluateBound_frame _ _).2.2.2.2.1, hwalk]
    simp

theorem alarm_after_touched : AlarmsTouched (fun n => n = 10 ∨ 12 ≤ n) (alarmEmptied image s) t := by
  refine ((settleAlarms_touched _).mono fun n hn => hn.imp_right le_of_definedSlot).trans
    ((alarm_afterBinding h).touched.mono fun n hn => hn.imp_right fun ⟨k, hk, _⟩ => ?_)
  omega

/-- The entries of the loaded slots are removed in the order of the list, before anything else is logged. -/
theorem alarm_logged (hlog : s.alarm.log.length ≤ 256) :
    ∃ later : List (LogKind × Nat), Logged (removals s isLoaded ++ later) s t := by
  have hremoved : Logged (removals s isLoaded) s (alarmEmptied image s) :=
    (dropSlots_logged isLoaded hlog).congr rfl rfl rfl rfl rfl
  obtain ⟨later, -, hlater⟩ := (alarm_after_touched h).logged hremoved.length_le
  exact ⟨later, hremoved.trans hlater (alarmEmptied_touched image s).time⟩

/-- The internal slots but slot 10 keep their entries, and a first-out record that is filled stands. -/
theorem alarm_kept : (∀ e, e.slot < 10 ∨ e.slot = 11 → (e ∈ t.alarm.list ↔ e ∈ s.alarm.list))
    ∧ (s.alarm.firstOut ≠ none → t.alarm.firstOut = s.alarm.firstOut) := by
  have hall := ((alarmEmptied_touched image s).mono (which' := fun n => n = 10 ∨ 12 ≤ n)
    fun _ hn => .inr hn).trans (alarm_after_touched h)
  exact ⟨fun e he => hall.mem_list (by omega), hall.firstOut⟩

/-- Slot by slot: a bound definition with a start value starts with it, every other is IDLE (R157). -/
theorem alarm_slots (hslots : s.alarm.slots.length = 64) {n : Nat} {d : AlarmDef} (hn : n < 52)
    (hd : (definitionsOf t)[n]? = some d) :
    (∀ v, Binds t d → startValue s d = some v → (slotOf t (12 + n)).condition = v
      ∧ ∀ e ∈ entriesAt t (12 + n), e.state = .raisedUnack)
      ∧ (¬ Binds t d ∨ startValue s d = none → IdleAt t (12 + n)) := by
  have hafter := alarm_afterBinding h
  have hbinds := hafter.binds hd
  have hemptied := alarmEmptied_touched image s
  set y := settleAlarms (alarmEmptied image s) with hy
  have hidle : IdleAt y (12 + n) := settleAlarms_idleAt (by rw [hemptied.length]; omega)
    ((alarmEmptied_idle image s).2 _ (by omega) (by omega))
  have hlen : y.alarm.slots.length = 64 :=
    (settleAlarms_touched _).length.trans (hemptied.length.trans hslots)
  have hin : 12 + n < y.alarm.slots.length := by omega
  have hdy : (definitionsOf y)[n]? = some d := by
    rwa [definitionsOf_congr (s := t) (by rw [hafter.tables]; simp [hy])]
  have hvalue : startValue y d = startValue s d := by
    have hposition : y.alarm.lastPosition = s.alarm.lastPosition := by simp [hy, alarmEmptied]
    have hset : y.alarm.lastContaining = s.alarm.lastContaining := by simp [hy, alarmEmptied]
    rw [startValue, hposition, hset, startValue]
  rw [hafter.bound] at hbinds
  rw [commitEffects_alarm] at h
  have hten : 12 + n ≠ 10 := by omega
  rw [h.slotOf hten, h.alarms.entriesAt hten, h.idleAt hten]
  refine ⟨fun v hb hv => ?_, fun hno => ?_⟩
  · exact sourcesStarted_valued hidle hin hdy (hbinds.2 hb) (hvalue.trans hv)
  · obtain ⟨hslot, hentry⟩ := sourcesStarted_unvalued (y := y) (k := n) fun d' hd' hbound => by
      rw [hdy, Option.some.injEq] at hd'
      rw [← hd', hvalue]
      exact hno.resolve_left (not_not_intro (hbinds.1 hbound))
    rw [IdleAt, hslot, hentry]
    exact hidle

/-- Beyond the definitions nothing is listed. -/
theorem alarm_unlisted {n : Nat} (hd : (definitionsOf t)[n]? = none) : entryOf t (12 + n) = none := by
  have hafter := alarm_afterBinding h
  rw [hafter.definitionsOf] at hd
  have hsettled := (settleAlarms_touched (alarmEmptied image s)).entryOf (n := 12 + n) (by
    rintro (hten | ⟨k, d, hk, hsome⟩)
    · omega
    · obtain rfl := Nat.add_left_cancel hk
      rw [hd] at hsome
      cases hsome)
  have hunbound : (settleAlarms (alarmEmptied image s)).alarm.bound.getD n false = false := by
    rw [(settleAlarms_ten _).bound, settleBinding_bound, List.getD_eq_getElem?_getD, List.getElem?_map, hd]
    rfl
  have hkept := hafter.touched.entryOf (n := 12 + n) (by
    rintro (hten | hbound)
    · omega
    · rw [boundSlot_iff, hunbound] at hbound
      cases hbound)
  rw [hkept, hsettled]
  exact (alarmEmptied_idle image s).1 _ (by omega)

/-- What is listed of the loaded slots has been raised by a ZONE or a SECTOR source. -/
theorem alarm_entries (hslots : s.alarm.slots.length = 64) (hdefs : (definitionsOf t).length ≤ 52)
    {e : Entry} (he : e ∈ t.alarm.list) (hloaded : 12 ≤ e.slot) : e.state = .raisedUnack
      ∧ ∃ d, (definitionsOf t)[e.slot - 12]? = some d
        ∧ ((∃ z, d.source = .zone z) ∨ ∃ n, d.source = .sector n) := by
  obtain ⟨n, hn⟩ : ∃ n, e.slot = 12 + n := ⟨e.slot - 12, by omega⟩
  have hmem : e ∈ entriesAt t (12 + n) := by simp [entriesAt, he, hn]
  have hnot : ¬ IdleAt t (12 + n) := fun ⟨_, hnone⟩ => by
    rw [entriesAt_eq_nil.2 hnone] at hmem
    cases hmem
  have hsub : e.slot - 12 = n := by omega
  rw [hsub]
  rcases hd : (definitionsOf t)[n]? with _ | d
  · have hnone := alarm_unlisted h hd
    rw [← entriesAt_eq_nil] at hnone
    rw [hnone] at hmem
    cases hmem
  · have hlt : n < (definitionsOf t).length := (List.getElem?_eq_some_iff.1 hd).1
    obtain ⟨hvalued, hidle⟩ := alarm_slots h hslots (by omega) hd
    have hb : Binds t d := by
      by_contra hb
      exact hnot (hidle (.inl hb))
    rcases hv : startValue s d with _ | v
    · exact absurd (hidle (.inr hv)) hnot
    · refine ⟨(hvalued v hb hv).2 e hmem, d, rfl, ?_⟩
      unfold startValue at hv
      split at hv
      case h_1 z hsource => exact .inl ⟨z, hsource⟩
      case h_2 m hsource => exact .inr ⟨m, hsource⟩
      case h_3 => cases hv

end

end Sys2Proof.Machine
end

section
/-! SUPPORT. TABLE COMMIT: its refusals in their order, its answer, and the owner's effects of every kind put
together (R182, R183, R187, R195). -/

namespace Sys2Proof.Machine

/-! ### The refusals (R182, R195) -/

/-- A TABLE COMMIT of its length in a lock state that admits it reaches its owner (R163, R164). -/
theorem exec_tableCommit {f : List Byte} {s : State} (ht : taken 0x07 f s = true)
    (hl : s.mgmt.lock = .open ∨ s.mgmt.lock = .unlocked) (hp : (requestParams f).length = 2) :
    exec (.tableCommit f) s
      = .next (answerRequest 0x07 (requestTag f) (tableCommit (requestTag f) (requestParams f) s)) :=
  congrArg _ (takeRequest_reaches (r := tableCommitRules) ht (fixed_length hp) (admits_changing hl))

/-- A refusal of the owner changes nothing but what every answer changes, so the image stays STAGED. -/
theorem exec_tableCommit_refused {f : List Byte} {s : State} (ht : taken 0x07 f s = true)
    (hl : s.mgmt.lock = .open ∨ s.mgmt.lock = .unlocked) (hp : (requestParams f).length = 2)
    {o : ReqOutcome} (ho : o ≠ .accepted)
    (hrun : tableCommit (requestTag f) (requestParams f) s = refuse o s) :
    exec (.tableCommit f) s = .next (answeredOnly s 0x07 (requestTag f) o [] false) := by
  rw [exec_tableCommit ht hl hp, hrun, answerRequest_refuse ht _ ho]

theorem stagedFor_eq {s : State} {k : Kind} {image : Image} (hs : s.mgmt.staging = .staged k image) :
    stagedFor (kindCode k) s = some (k, image) := by
  simp [stagedFor, hs]

theorem stagedFor_eq_none {s : State} {code : Nat}
    (h : ∀ k image, s.mgmt.staging = .staged k image → code ≠ kindCode k) : stagedFor code s = none := by
  unfold stagedFor
  split
  · rename_i k image hs
    exact if_neg (h k image hs).symm
  · rfl
  · rfl

/-- What the owner asks of a commit (R89, R132, R182). -/
theorem commitAdmitted_iff (s : State) (k : Kind) : commitAdmitted s k = true ↔
    (k = .walk ∨ k = .station → s.walk.state = .dig) ∧ (k = .station → enrollBusy s = false) := by
  cases k <;> simp [commitAdmitted]

section

variable {tag : Byte} {p : List Byte} {s : State}

theorem tableCommit_range (h : 1 < u8At p 1) : tableCommit tag p s = refuse .range s := if_pos h

theorem tableCommit_sequence (h : u8At p 1 ≤ 1) (hs : stagedFor (u8At p 0) s = none) :
    tableCommit tag p s = refuse .sequence s := by
  simp [tableCommit, not_lt.2 h, hs]

variable {k : Kind} {image : Image} (h : u8At p 1 ≤ 1) (hs : stagedFor (u8At p 0) s = some (k, image))
include h hs

theorem tableCommit_state (ha : commitAdmitted s k = false) : tableCommit tag p s = refuse .state s := by
  simp [tableCommit, not_lt.2 h, hs, ha]

theorem tableCommit_busy (ha : commitAdmitted s k = true) (hb : writing s = true) :
    tableCommit tag p s = refuse .busy s := by
  simp [tableCommit, not_lt.2 h, hs, ha, hb]

theorem tableCommit_commits (ha : commitAdmitted s k = true) (hb : writing s = false) :
    tableCommit tag p s = if u8At p 1 = 1 then
        ((commitTable k image s).withMgmt
          { (commitTable k image s).mgmt with outCommit := some { code := 0x07, tag := tag } }, .later)
      else (commitTable k image s, .now .accepted (commitData k (commitTable k image s))) := by
  simp [tableCommit, not_lt.2 h, hs, ha, hb]

end

/-- The refusals of a TABLE COMMIT in their order. -/
theorem tableCommit_refusals (f : List Byte) (s : State) (ht : taken 0x07 f s = true)
    (hl : s.mgmt.lock = .open ∨ s.mgmt.lock = .unlocked) (hp : (requestParams f).length = 2) :
    let p := requestParams f
    let refused (o : ReqOutcome) : Prop :=
      exec (.tableCommit f) s = .next (answeredOnly s 0x07 (requestTag f) o [] false)
    (1 < u8At p 1 → refused .range)
      ∧ (u8At p 1 ≤ 1 → (∀ k image, s.mgmt.staging = .staged k image → u8At p 0 ≠ kindCode k) →
        refused .sequence)
      ∧ ∀ k image, u8At p 1 ≤ 1 → s.mgmt.staging = .staged k image → u8At p 0 = kindCode k →
        let admitted := (k = .walk ∨ k = .station → s.walk.state = .dig)
          ∧ (k = .station → s.line.enrollWaiting = false ∧ ∀ e, s.line.flight ≠ .enroll e)
        (¬ admitted → refused .state) ∧ (admitted → s.store.inFlight.isSome = true → refused .busy) := by
  have refusal {o : ReqOutcome} (ho : o ≠ .accepted)
      (hrun : tableCommit (requestTag f) (requestParams f) s = refuse o s) :=
    exec_tableCommit_refused ht hl hp ho hrun
  have hbusy : enrollBusy s = false ↔ s.line.enrollWaiting = false ∧ ∀ e, s.line.flight ≠ .enroll e := by
    rw [← Bool.not_eq_true, enrollBusy_iff]
    simp
  refine ⟨fun h => refusal (by decide) (tableCommit_range h),
    fun h hs => refusal (by decide) (tableCommit_sequence h (stagedFor_eq_none hs)),
    fun k image h hs hk => ?_⟩
  have hstaged : stagedFor (u8At (requestParams f) 0) s = some (k, image) := hk ▸ stagedFor_eq hs
  rw [← hbusy, ← commitAdmitted_iff]
  exact ⟨fun ha => refusal (by decide) (tableCommit_state h hstaged (by simpa using ha)),
    fun ha hb => refusal (by decide) (tableCommit_busy h hstaged ha hb)⟩

/-! ### The answer (R183, R187) -/

/-- Every owner's effects leave the 64 slots. -/
theorem commitEffects_slots_length (k : Kind) (image : Image) (s : State) :
    (commitEffects k image s).alarm.slots.length = s.alarm.slots.length := by
  cases k with
  | plant | zone => rfl
  | geometry =>
    rw [commitEffects_geometry, handPosition_slots_length]
    rfl
  | swing =>
    rw [(swing_after_touched image s).length, (dropSlots_touched _ _).length,
      (swingCorrected_touched image s).length]
  | walk =>
    rw [commitEffects_walk, (settleAlarms_touched _).length]
    simp [walkSettled]
  | alarm =>
    rw [commitEffects_alarm, (sourcesStarted_touched _).length, (settleAlarms_touched _).length,
      (alarmEmptied_touched image s).length]
  | station =>
    rw [commitEffects_station]
    simp only [startRound_frame, setOwned_frame]
    rw [(settleAlarms_touched _).length, stationDropped, (dropSlots_touched _ _).length,
      (stationBegun_touched image s).length]

/-- Slot 10 follows (R135). -/
theorem commitTable_slot_ten {k : Kind} {image : Image} {s : State} (h : s.alarm.slots.length = 64) :
    (slotOf (commitTable k image s) 10).condition = tableAbsent (commitTable k image s) := by
  have hten := tenOnly_commitTable k image s
  rw [tableAbsent_congr hten.tables (by rw [hten.walk]) hten.bound]
  show (slotOf (evaluate 10 _ (commitEffects k image s)) 10).condition = _
  exact evaluate_condition_internal _ (by decide) (by rw [commitEffects_slots_length, h]; decide)

/-- The retained write of the committed image is in flight (R182, R187). -/
theorem commitTable_store (k : Kind) (image : Image) (s : State) :
    (commitTable k image s).store = { s.store with
      images := s.store.images.set k none
      imageStatus := s.store.imageStatus.set k .writing
      inFlight := some (.image k image) } := by
  rw [commitTable, startWrite_store]
  simp [startedStore]

/-- What an answered commit leaves, whichever way it is answered: the committed state but for the management
unit and the link. -/
structure Committed (k : Kind) (image : Image) (s t : State) : Prop where
  ten : TenOnly (commitEffects k image s) t
  active : t.tables.active = s.tables.active.set k (some image)
  commitNo : t.tables.commitNo = s.tables.commitNo.set k (s.tables.commitNo.get k + 1)
  store : t.store = { s.store with
    images := s.store.images.set k none
    imageStatus := s.store.imageStatus.set k .writing
    inFlight := some (.image k image) }
  power : t.power = s.power
  slotTen : s.alarm.slots.length = 64 → (slotOf t 10).condition = tableAbsent t

theorem committed_commitTable (k : Kind) (image : Image) (s : State) (m : Management) (l : Link)
    (hl : l.drives = s.link.drives) :
    Committed k image s (((commitTable k image s).withLink l).withMgmt m) where
  ten := by
    obtain ⟨alarms, bound, lastPosition, lastContaining, -, line, shaper, swing, walk, position, tables⟩ :=
      tenOnly_commitTable k image s
    exact ⟨alarms.trans (alarmsTouched_of_alarm rfl), bound, lastPosition, lastContaining,
      hl.trans (by simp), line, shaper, swing, walk, position, tables⟩
  active := by simp [commitTable_tables, activate]
  commitNo := by simp [commitTable_tables, activate]
  store := by simp [commitTable_store]
  power := by simp
  slotTen h := commitTable_slot_ten h

/-- An admitted commit with no write in flight is committed, and answered at once or later. -/
theorem exec_tableCommit_commits {f : List Byte} {s : State} {k : Kind} {image : Image}
    (ht : taken 0x07 f s = true) (hl : s.mgmt.lock = .open ∨ s.mgmt.lock = .unlocked)
    (hp : (requestParams f).length = 2) (hk : u8At (requestParams f) 0 = kindCode k)
    (hr : u8At (requestParams f) 1 ≤ 1) (hs : s.mgmt.staging = .staged k image)
    (ha : commitAdmitted s k = true) (hw : s.store.inFlight = none) :
    ∃ t, exec (.tableCommit f) s = .next t ∧ Committed k image s t
      ∧ (u8At (requestParams f) 1 = 0 →
          t.mgmt = { s.mgmt with deferredStore := 0, seqFlag := false, staging := .empty }
            ∧ t.link = confirmedLink s 0x07 (requestTag f) .accepted
              [BitVec.ofNat 8 (kindCode k), s.tables.commitNo.get k + 1])
      ∧ (u8At (requestParams f) 1 = 1 →
          t.mgmt = { s.mgmt with
            seqFlag := false, staging := .empty
            outCommit := some { code := 0x07, tag := requestTag f } } ∧ t.link = s.link) := by
  set u := commitTable k image s with hu
  have hmgmt : u.mgmt = { s.mgmt with staging := .empty } := (commitTable_tables k image s).2
  have hlink : u.link = s.link := by simp [hu]
  rw [exec_tableCommit ht hl hp,
    tableCommit_commits hr (hk ▸ stagedFor_eq hs) ha (by simp [writing, hw]), ← hu]
  by_cases hretain : u8At (requestParams f) 1 = 1
  · rw [if_pos hretain]
    refine ⟨_, rfl, committed_commitTable k image s _ u.link (by rw [hlink]), fun h => by omega,
      fun _ => ⟨?_, hlink⟩⟩
    show ({ u.mgmt with outCommit := some { code := 0x07, tag := requestTag f }, seqFlag := false } :
      Management) = _
    rw [hmgmt]
  · have hnow := answerRequest_now (s := u) (by simpa [hu] using power_of_taken ht) 0x07 (requestTag f)
      .accepted (commitData k u)
    have hdata : commitData k u = [BitVec.ofNat 8 (kindCode k), s.tables.commitNo.get k + 1] := by
      have hnumber : u.tables.commitNo.get k = s.tables.commitNo.get k + 1 := by
        rw [hu, (commitTable_tables k image s).1]
        simp [activate, PerKind.get_set]
      rw [commitData, hnumber, u8_toNat]
      rfl
    rw [if_neg hretain, hnow]
    refine ⟨_, rfl, committed_commitTable k image s _ _ ?_, fun _ => ⟨?_, ?_⟩, fun h => absurd h hretain⟩
    · show u.link.drives = _
      rw [hlink]
    · show ({ u.mgmt with deferredStore := 0, seqFlag := _ } : Management) = _
      rw [hmgmt]
      rfl
    · show confirmedLink u 0x07 (requestTag f) .accepted (commitData k u) = _
      rw [hdata, confirmedLink, confirmedLink, hlink, hmgmt]

end Sys2Proof.Machine
end

section
/-! SUPPORT. The clauses of a TABLE COMMIT, kind by kind, and their statement (R43, R61, R83, R89, R110, R132,
R138, R157, R158, R182). -/

namespace Sys2Proof.Machine

/-! ### What a commit does not reach (R182) -/

section

variable {k : Kind} {image : Image} {s t : State} (h : Committed k image s t)
include h

theorem Committed.unreached : t.walk.state = s.walk.state ∧ t.walk.sub = s.walk.sub
    ∧ t.walk.cam = s.walk.cam ∧ t.walk.stepCount = s.walk.stepCount
    ∧ t.swing.raw = s.swing.raw ∧ t.swing.heldLoad = s.swing.heldLoad
    ∧ t.power = s.power ∧ t.shaper.limits = s.shaper.limits
    ∧ t.shaper.lastRefs = s.shaper.lastRefs ∧ t.alarm.time = s.alarm.time := by
  have htime : t.alarm.time = s.alarm.time := by
    rw [h.ten.alarms.time]
    simp
  refine ⟨?_, ?_, ?_, ?_, ?_, ?_, h.power, ?_, ?_, htime⟩
  all_goals simp [h.ten.walk, h.ten.swing, h.ten.shaper]

theorem Committed.position (hk : k ≠ .geometry) : t.position = s.position := by
  rw [h.ten.position, ← (tenOnly_commitTable k image s).position, (commitTable_position hk image s).2]

theorem Committed.finishing (hk : k ≠ .station) : t.line.finishing = s.line.finishing := by
  obtain ⟨-, -, -, hfinishing⟩ := lineStays_commitTable hk image s
  rw [h.ten.line, ← (tenOnly_commitTable k image s).line, hfinishing]

/-- ZONE, PLANT and WALK commits leave the shaper (R61, R64, R89). -/
theorem Committed.shaper (hk : k = .zone ∨ k = .plant ∨ k = .walk) : t.shaper = s.shaper := by
  have hten := h.ten
  rcases hk with rfl | rfl | rfl
  · exact hten.shaper
  · exact hten.shaper
  · exact walk_shaper hten

end

/-! ### GEOMETRY and SWING (R43, R83, R158) -/

theorem Committed.geometry {image : Image} {s t : State} (h : Committed .geometry image s t)
    (hslots : s.alarm.slots.length = 64) :
    t.position.reach = 0 ∧ t.position.height = 0 ∧ t.position.zone = 0
      ∧ t.position.edge = false
      ∧ t.position.hoistPayout = s.position.hoistPayout
      ∧ t.position.dragPayout = s.position.dragPayout
      ∧ (∃ l, t.position.working = some l ∧
        match s.position.working <|> s.store.limitsCopy with
        | some w => LimitsClamped (readGeometry image).native w l
        | none => l = (readGeometry image).native)
      ∧ t.alarm.lastPosition = none ∧ (slotOf t 5).condition = false
      ∧ (slotOf t 6).condition = travelExceeded t
      ∧ (∀ n sec, n < 16 → (sectorsOf s)[n]? = some sec → sec.cls = .height →
        t.swing.clear.getD n false = false)
      ∧ ∀ n d z, n < 52 → (definitionsOf s)[n]? = some d → s.alarm.bound.getD n false = true →
        d.source = .zone z → (slotOf t (12 + n)).condition = false := by
  obtain ⟨hposition, -, -, hlast⟩ := geometry_settles h.ten
  obtain ⟨hfive, hsix, hclear, hzones⟩ := geometry_hands h.ten hslots
  obtain ⟨l, hl, hclamped⟩ := commitLimits_clamped image s
  rw [hposition]
  exact ⟨rfl, rfl, rfl, rfl, rfl, rfl, ⟨l, hl, hclamped⟩, hlast, hfive, hsix, hclear, hzones⟩

theorem Committed.swingAngle {image : Image} {s t : State} (h : Committed .swing image s t) :
    t.shaper.gates.swing = .gated ∧ t.swing.clear = List.replicate 16 false
      ∧ t.swing.corrected
        = s.swing.raw.map (fun raw => (raw + 36000 - (readSwing image).origin) % 36000) := by
  obtain ⟨hgate, hswing, -⟩ := swing_settles h.ten
  rw [hswing, swingCorrected_swing]
  exact ⟨hgate, rfl, rfl⟩

theorem Committed.swingSectors {image : Image} {s t : State} (h : Committed .swing image s t)
    (hslots : s.alarm.slots.length = 64) :
    (∀ m, m < 16 → (t.swing.containing.getD m false = true
      ↔ ∃ sec a, (readSwing image).sectors[m]? = some sec ∧ t.swing.corrected = some a
        ∧ sec.contains a = true))
    ∧ ((slotOf t 7).condition = true
      ↔ ∃ sec ∈ (readSwing image).sectors, sec.cls ≠ .slow
        ∧ ∃ a, t.swing.corrected = some a ∧ sec.contains a = true)
    ∧ t.alarm.lastContaining = t.swing.containing
    ∧ (s.alarm.log.length ≤ 256 → ∃ before later, (∀ x ∈ before, x.2 = 7)
      ∧ Logged (before ++ removals s (loadedWith s touchesSector) ++ later) s t)
    ∧ ∀ n d m, n < 52 → (definitionsOf s)[n]? = some d → d.source = .sector m →
      let entered := Binds t d ∧ t.swing.containing.getD m false = true
      let entries := t.alarm.list.filter fun e => e.slot = 12 + n
      (¬ entered → slotOf t (12 + n) = { condition := false, delay := none }
          ∧ ∀ e ∈ t.alarm.list, e.slot ≠ 12 + n)
        ∧ (entered → d.attrs.delay = 0 →
          slotOf t (12 + n) = { condition := true, delay := none }
            ∧ entries = [{ slot := 12 + n, state := .raisedUnack, time := s.alarm.time }])
        ∧ (entered → d.attrs.delay ≠ 0 →
          slotOf t (12 + n) = { condition := true, delay := some d.attrs.delay }
            ∧ entries = []) := by
  obtain ⟨hset, hseven⟩ := swing_sectors h.ten hslots
  obtain ⟨-, -, hkept⟩ := swing_settles h.ten
  refine ⟨hset, hseven, hkept, swing_logged h.ten, fun n d m hn hd hsource => ?_⟩
  obtain ⟨hgone, hentered⟩ := swing_sources h.ten hslots hn hd hsource
  refine ⟨fun hno => idleAt_iff.1 (hgone hno), fun hyes hdelay => ?_, fun hyes hdelay => ?_⟩
  · obtain ⟨hslot, hentries⟩ := hentered hyes
    rw [if_neg (not_not_intro hdelay)] at hslot
    rw [if_pos hdelay] at hentries
    exact ⟨hslot, hentries⟩
  · obtain ⟨hslot, hentries⟩ := hentered hyes
    rw [if_pos hdelay] at hslot
    rw [if_neg hdelay] at hentries
    exact ⟨hslot, hentries⟩

/-! ### WALK and STATION (R88, R89, R110, R132, R158) -/

/-- The usability is settled, and in DIG the commands are set. -/
theorem Committed.walk {k : Kind} {image : Image} {s t : State} (h : Committed k image s t)
    (hi : ImagesInv s) (hs : s.mgmt.staging = .staged k image) (hx : s.walk.state = .dig)
    (hk : k = .walk ∨ k = .station) : t.walk.usable = walkUsable t
      ∧ ((k = .walk → s.line.records.length = stationCount s) → ∀ w, usableWalk t = some w →
        desiredOf t w.digCommand = some true ∧ desiredOf t w.walkCommand = some false) := by
  have hten := h.ten
  rcases hk with rfl | rfl
  · have hvalid : imageValid .walk image = true := stagedFor_valid hi (stagedFor_eq hs)
    exact ⟨walk_usable hten, fun hlen w hw => walk_commands hten hvalid hx (hlen rfl) hw⟩
  · exact ⟨station_usable hten, fun _ w hw => station_commands hten (commandsApart_of_images hi) hx hw⟩

/-- A station source or an output is what a STATION commit asks for (R158). -/
theorem touchesStation_of {d : AlarmDef} (h : d.attrs.output ≠ none ∨ (∃ b, d.source = .stationEdge b)
    ∨ ∃ b polarity, d.source = .stationLevel b polarity) : touchesStation d = true := by
  rcases h with hout | ⟨b, hsource⟩ | ⟨b, polarity, hsource⟩
  · simp [touchesStation, Option.isSome_iff_ne_none.2 hout]
  · simp [touchesStation, hsource]
  · simp [touchesStation, hsource]

theorem Committed.station {image : Image} {s t : State} (h : Committed .station image s t)
    (hslots : s.alarm.slots.length = 64) :
    t.line.records.length = (readStation image).ids.length
      ∧ (∀ x ∈ t.line.records, undesired x = freshRecord)
      ∧ t.line.found = [] ∧ t.line.pointer = 0 ∧ t.line.deferredStart = false
      ∧ t.line.scanTimer = s.line.scanTimer ∧ t.walk.delivered = []
      ∧ (∃ r, t.line.flight = .round r ∧ (r.stage = .writing ∨ r.stage = .sweeping)
        ∧ r.readOk = [])
      ∧ t.line.finishing = lineTransaction s
      ∧ (slotOf t 9).condition = false
      ∧ (s.alarm.log.length ≤ 256 → ∃ before later, (∀ x ∈ before, x.2 = 9)
        ∧ Logged (before ++ removals s (loadedWith s touchesStation) ++ later) s t)
      ∧ (∀ b, alarmOwns t b = true → walkOwns t b = false →
        desiredOf t b = some (computedValue t b))
      ∧ ∀ n d, n < 52 → (definitionsOf s)[n]? = some d →
        (d.attrs.output ≠ none ∨ (∃ b, d.source = .stationEdge b)
          ∨ ∃ b polarity, d.source = .stationLevel b polarity) →
        slotOf t (12 + n) = { condition := false, delay := none }
          ∧ ∀ e ∈ t.alarm.list, e.slot ≠ 12 + n := by
  obtain ⟨hlen, hfresh⟩ := station_records h.ten
  obtain ⟨hfound, hpointer, hdeferred, hscan, hdelivered, hround, hfinishing⟩ := station_line h.ten
  exact ⟨hlen, hfresh, hfound, hpointer, hdeferred, hscan, hdelivered, hround, hfinishing,
    station_nine h.ten, station_logged h.ten, fun b howns hfree => station_outputs h.ten howns hfree,
    fun n d hn hd htouches => idleAt_iff.1 (station_idleAt h.ten hslots hn hd (touchesStation_of htouches))⟩

/-! ### ALARM and the bindings (R137, R138, R157) -/

theorem Committed.alarm {image : Image} {s t : State} (h : Committed .alarm image s t)
    (hslots : s.alarm.slots.length = 64) (hi : imageValid .alarm image = true) :
    (s.alarm.log.length ≤ 256 → ∃ later, Logged (removals s isLoaded ++ later) s t)
      ∧ (∀ e ∈ t.alarm.list, 12 ≤ e.slot → e.state = .raisedUnack
        ∧ ∃ d, (definitionsOf t)[e.slot - 12]? = some d
          ∧ ((∃ z, d.source = .zone z) ∨ ∃ n, d.source = .sector n))
      ∧ (∀ e, e.slot < 10 ∨ e.slot = 11 → (e ∈ t.alarm.list ↔ e ∈ s.alarm.list))
      ∧ (∀ n d, n < 52 → (definitionsOf t)[n]? = some d → Binds t d →
        (∀ z, d.source = .zone z → ((slotOf t (12 + n)).condition = true
            ↔ ∃ p, s.alarm.lastPosition = some p ∧ p.zone = z))
          ∧ (∀ m, d.source = .sector m →
            (slotOf t (12 + n)).condition = s.alarm.lastContaining.getD m false)
          ∧ ((∀ z, d.source ≠ .zone z) → (∀ m, d.source ≠ .sector m) →
            slotOf t (12 + n) = { condition := false, delay := none }
              ∧ ∀ e ∈ t.alarm.list, e.slot ≠ 12 + n))
      ∧ (s.alarm.firstOut ≠ none → t.alarm.firstOut = s.alarm.firstOut) := by
  have hdefs : (definitionsOf t).length ≤ 52 := by
    have hnew : definitionsOf t = readAlarm image := by
      simp [definitionsOf, h.active, PerKind.set]
    rw [hnew]
    exact readAlarm_length_le hi
  obtain ⟨hinternal, hfirst⟩ := alarm_kept h.ten
  refine ⟨alarm_logged h.ten, fun e he hloaded => alarm_entries h.ten hslots hdefs he hloaded, hinternal,
    fun n d hn hd hb => ?_, hfirst⟩
  obtain ⟨hvalued, hidle⟩ := alarm_slots h.ten hslots hn hd
  refine ⟨fun z hz => ?_, fun m hm => ?_, fun hnozone hnosector => ?_⟩
  · obtain ⟨hvalue, -⟩ := hvalued ((s.alarm.lastPosition.map (·.zone)) == some z) hb
      (by simp only [startValue, hz])
    rw [hvalue, beq_iff_eq, Option.map_eq_some_iff]
  · exact (hvalued (s.alarm.lastContaining.getD m false) hb (by simp only [startValue, hm])).1
  · refine idleAt_iff.1 (hidle (.inr ?_))
    unfold startValue
    split
    case h_1 z hz => exact absurd hz (hnozone z)
    case h_2 m hm => exact absurd hm (hnosector m)
    case h_3 => rfl

/-- Binding is settled at the commits that it depends on: the definitions that can be are bound, and one that
is unbound anew, or in a new table, is IDLE. -/
theorem Committed.binding {k : Kind} {image : Image} {s t : State} (h : Committed k image s t)
    (hslots : s.alarm.slots.length = 64) (hk : k = .alarm ∨ k = .station ∨ k = .swing ∨ k = .walk) :
    (∀ n d, (definitionsOf t)[n]? = some d → (t.alarm.bound.getD n false = true ↔ Binds t d))
      ∧ ∀ n d, n < 52 → (definitionsOf t)[n]? = some d → ¬ Binds t d →
        k = .alarm ∨ s.alarm.bound.getD n false = true →
        slotOf t (12 + n) = { condition := false, delay := none }
          ∧ ∀ e ∈ t.alarm.list, e.slot ≠ 12 + n := by
  have hten := h.ten
  have settled {w : State} (hafter : AfterBinding w t) (hlen : w.alarm.slots.length = 64)
      (hbound : w.alarm.bound = s.alarm.bound) (hnot : k ≠ .alarm) :
      (∀ n d, (definitionsOf t)[n]? = some d → (t.alarm.bound.getD n false = true ↔ Binds t d))
        ∧ ∀ n d, n < 52 → (definitionsOf t)[n]? = some d → ¬ Binds t d →
          k = .alarm ∨ s.alarm.bound.getD n false = true →
          slotOf t (12 + n) = { condition := false, delay := none }
            ∧ ∀ e ∈ t.alarm.list, e.slot ≠ 12 + n :=
    ⟨fun n d hd => hafter.binds hd, fun n d hn hd hfree hwas => idleAt_iff.1
      (hafter.unbound_idleAt (by omega) hd hfree (by rw [hbound]; exact hwas.resolve_left hnot))⟩
  rcases hk with rfl | rfl | rfl | rfl
  · refine ⟨fun n d hd => (alarm_afterBinding hten).binds hd, fun n d hn hd hfree _ => idleAt_iff.1 ?_⟩
    exact (alarm_slots hten hslots hn hd).2 (.inl hfree)
  · refine settled (station_afterBinding hten) ?_ ?_ (by decide)
    · exact (dropSlots_touched _ _).length.trans ((stationBegun_touched image s).length.trans hslots)
    · simp [stationDropped, stationBegun]
  · refine settled (swing_afterBinding hten) ?_ ?_ (by decide)
    · exact (dropSlots_touched _ _).length.trans ((swingCorrected_touched image s).length.trans hslots)
    · simp [swingCorrected]
  · refine settled (w := walkSettled image s) (afterBinding_ten hten) ?_ ?_ (by decide)
    · simpa [walkSettled] using hslots
    · simp [walkSettled]

/-! ### The statement -/

/-- Settles O54: the refusals stand in the order of the owner's tests; past them the staged image is committed,
and each clause is one of its kind. -/
theorem commitMakesImageActive : Obligations.CommitMakesImageActive := by
  unfold Obligations.CommitMakesImageActive
  refine ⟨tableCommit_refusals, ?_⟩
  dsimp only
  intro f s k image ht hl hp hk hr hs hdig henroll hflight hslots hi
  obtain ⟨t, hexec, hc, hnow, hlater⟩ := exec_tableCommit_commits ht hl hp hk hr hs
    ((commitAdmitted_iff s k).2 ⟨hdig, henroll⟩) hflight
  refine ⟨t, hexec, hc.active, hc.commitNo, hc.store, hnow, hlater, hc.slotTen hslots, ?cleared, ?geometry,
    ?angle, ?sectors, fun hkind => hc.walk hi hs (hdig hkind) hkind, hc.shaper, ?released, ?station, ?alarm,
    hc.binding hslots, hc.finishing, hc.position, hc.unreached⟩
  case cleared =>
    rintro rfl
    obtain ⟨hposition, hhoist, hdrag, -⟩ := geometry_settles hc.ten
    rw [hposition]
    exact ⟨rfl, rfl, hhoist, hdrag⟩
  case geometry =>
    rintro rfl
    exact hc.geometry hslots
  case angle =>
    rintro rfl
    exact hc.swingAngle
  case sectors =>
    rintro rfl
    exact hc.swingSectors hslots
  case released =>
    rintro rfl hlog
    exact walk_logged hc.ten hlog
  case station =>
    rintro rfl
    exact hc.station hslots
  case alarm =>
    rintro rfl
    exact hc.alarm hslots (stagedFor_valid hi (stagedFor_eq hs))

end Sys2Proof.Machine
end

section
/-! SUPPORT. What a step is (Introduction; log entry 3): one equation for each form of the queue of waiting
commands. -/

namespace Sys2Proof.Machine

/-- The front command no longer waits while it runs. -/
theorem step_of_pending_cons {s : State} {c : Instr} {rest : List Instr} (h : s.pending = c :: rest) :
    step s = exec c (s.withPending rest) := by
  rw [step, h]

/-- The idle step (log entry 3). -/
theorem step_of_pending_nil {s : State} (h : s.pending = []) : step s = .next s := by
  rw [step, h]

/-- Settles O1, by the two forms of the queue. -/
theorem stepRunsFrontCommand : Obligations.StepRunsFrontCommand := by
  unfold Obligations.StepRunsFrontCommand
  constructor
  case left =>
    intro s c rest hwaiting
    exact step_of_pending_cons hwaiting
  case right =>
    intro s hidle
    exact step_of_pending_nil hidle

end Sys2Proof.Machine
end
